-- ==== Sys2Proof/Word.lean ====
section
/-! DEFINITION. The plainest types of the model: bytes, 16-bit words, generations, timers and
sparse tables. -/

namespace Sys2Proof

/-- A byte of a frame, a transaction or a packet (10). -/
abbrev Byte := BitVec 8

/-- A 16-bit word: a CRC, a notice set, a character, a set of languages. -/
abbrev Word16 := BitVec 16

/-- A generation: a 16-bit counter that wraps and is compared for equality only (00 section 5.5). -/
abbrev Gen := BitVec 16

/-- A timer (00 section 5.6): `none` is stopped, `some k` has run for `k` whole milliseconds. -/
abbrev Timer := Option Nat

/-- A table of numbered slots (00 section 5.3): the live slots with their records, in rising slot
order; a slot that is not listed is free. -/
abbrev Table (α : Type) := List (Nat × α)

end Sys2Proof
end

