-- ==== Sys2Proof/Config.lean ====
section
/-! DEFINITION. The shared capacities (00 section 5.9), the fixed timer periods, and the free
values: what the spec leaves open is an `opaque` constant without a body. -/

namespace Sys2Proof.Config

/-! ### Shared capacities (00 section 5.9) -/

def nodeSlots : Nat := 1024
def edgeSlots : Nat := 3072
def endsPerNode : Nat := 8
def maxLength : Nat := 500
/-- Distance 65,535 means unreachable. -/
def unreachable : Nat := 65535
def maxDeck : Nat := 19
def maxZone : Nat := 12
def targetSlots : Nat := 64
def liveStations : Nat := 16
def mapSlots : Nat := 128
def cabinSlots : Nat := 3072
def maxCabinNumber : Nat := 999
def maxLabel : Nat := 24
def maxBerths : Nat := 6
def maxCapacity : Nat := 9999
def trunks : Nat := 16
def plateAddresses : Nat := 250
def retryLimit : Nat := 3
def reportEntries : Nat := 64
def reportHalf : Nat := 32
def entrySlots : Nat := 256
def maxMinute : Nat := 1048575
def maxDuration : Nat := 1440
def screenSlots : Nat := 512
def links : Nat := 4
def screenAddresses : Nat := 128
def maxShown : Nat := 8
def languages : Nat := 16
def linkBudget : Nat := 96
def maxBody : Nat := 512
def maxLoad : Nat := 4096
/-- R41: a trace holds at most 64 edges. -/
def maxTrace : Nat := 64
/-- R151: the third miss in a row loses a screen. -/
def missLimit : Nat := 3

/-! ### Fixed timer periods, in milliseconds -/

/-- The Ship Clock second timer (R121) and the entry-count second timer (R168). -/
def secondMs : Nat := 1000
def idleGuardMs : Nat := 5
def stuckMs : Nat := 1000
def filterMs : Nat := 50
def answerWindowMs : Nat := 1
def answerLimitMs : Nat := 2
def minuteMs : Nat := 60000

/-! ### Identity (R185) -/

def vendorCode : Nat := 0x0F3A
def partCode : Nat := 4820
def revision : Nat := 1

/-! ### Free values -/

/-- DESIGN CHOICE (log 6, 7, 8), safe. A byte of an answer that the spec gives a place but no value:
the `position`-th such byte of the answer placed when the counter `State.fresh` stood at `fresh`. -/
opaque freeByte (fresh : Nat) (position : Nat) : Byte

/-- DESIGN CHOICE (log 9), safe. Whether the drill timer's remaining time, read in whole seconds, is
rounded up (R162 does not say). -/
opaque drillRemainderRoundsUp : Bool

/-- DESIGN CHOICE (log 10), safe. Whether a survey step whose address slot read ACCEPT and whose
command slot read REFUSE revives a FAILED plate (R104 supports both readings). -/
opaque commandRefuseRevives : Bool

/-- DESIGN CHOICE (log 32), safe. Whether a news byte of kind 0 with a reserved bit set is ill-formed,
and not the empty item (R191 names it in both of its cases). -/
opaque reservedSpoilsEmpty : Bool

/-- DESIGN CHOICE (log 34), safe. Whether a news byte of kind 3 with a reserved bit set, whose plate stops
before the second tag byte, is ill-formed, and not a SWEEP_CLEAR cut short (R191 names it in both). -/
opaque reservedSpoilsCutShort : Bool

/-- DESIGN CHOICE (log 11), safe. Whether the address slot of a survey step has read ACCEPT when a disable
ends the step in TALKING and no hold has told it: on a trunk, when `State.fresh` stood at `fresh`. -/
opaque addressAccepted (fresh trunk : Nat) : Bool

end Sys2Proof.Config
end

