-- ==== Sys2Proof/Syntax.lean ====
section
/-! DEFINITION. The commands of the part: one constructor of `Instr` for each row of
spec/opcode_table.json. A Service Port request carries its tag and its body as received (10); an
event carries what the outside decides and nothing the part already holds. -/

namespace Sys2Proof

/-- How a READ_NEWS survey step ends (R103, R191), apart from a hold expiry, a lost arbitration and a
disable, which are commands of their own. -/
inductive SurveyEnd where
  /-- REFUSE in the address slot. -/
  | refusedAddress
  /-- ACCEPT in the address slot, REFUSE in the command slot. -/
  | refusedCommand
  /-- The plate sent the news byte, and behind a SWEEP_CLEAR as many bytes of the crew tag. -/
  | news (item : Byte) (tag : List Byte)
  deriving DecidableEq, Repr

/-- A transaction without a request: its transaction byte, 0x5A for READ_ANSWER, and how many bytes the host
clocks after the status byte (R172, R175; 10 section 10.2). -/
structure Transaction where
  byte : Byte
  clocks : Nat
  deriving DecidableEq, Repr

/-- A command. Requests: `tag` and `body` of the request frame. Trunks are numbered 0 to 15 and links
0 to 3. -/
inductive Instr where
  -- Service Port requests on the port itself (09)
  | identify (tag : Byte) (body : List Byte)
  | portStatus (tag : Byte) (body : List Byte)
  | configGet (tag : Byte) (body : List Byte)
  | configSet (tag : Byte) (body : List Byte)
  | noticeClear (tag : Byte) (body : List Byte)
  | restart (tag : Byte) (body : List Byte)
  | cursorSet (tag : Byte) (body : List Byte)
  | readNext (tag : Byte) (body : List Byte)
  | loadBegin (tag : Byte) (body : List Byte)
  | loadRecord (tag : Byte) (body : List Byte)
  | loadAbort (tag : Byte) (body : List Byte)
  -- requests on the deck graph (01)
  | nodePut (tag : Byte) (body : List Byte)
  | nodeRetire (tag : Byte) (body : List Byte)
  | nodeGet (tag : Byte) (body : List Byte)
  | edgePut (tag : Byte) (body : List Byte)
  | edgeSetPass (tag : Byte) (body : List Byte)
  | edgeRetire (tag : Byte) (body : List Byte)
  | edgeGet (tag : Byte) (body : List Byte)
  -- route lookup (02)
  | routeAsk (tag : Byte) (body : List Byte)
  -- requests on targets (03)
  | targetPut (tag : Byte) (body : List Byte)
  | targetRetire (tag : Byte) (body : List Byte)
  | targetGet (tag : Byte) (body : List Byte)
  | stationBlock (tag : Byte) (body : List Byte)
  | stationUnblock (tag : Byte) (body : List Byte)
  -- requests on cabins and trunks (04, 05)
  | cabinPut (tag : Byte) (body : List Byte)
  | cabinAmend (tag : Byte) (body : List Byte)
  | cabinRetire (tag : Byte) (body : List Byte)
  | cabinGet (tag : Byte) (body : List Byte)
  | plateRetry (tag : Byte) (body : List Byte)
  | serviceTake (tag : Byte) (body : List Byte)
  | trunkGet (tag : Byte) (body : List Byte)
  -- requests on the programme and the clock (06)
  | eventPut (tag : Byte) (body : List Byte)
  | eventAmend (tag : Byte) (body : List Byte)
  | eventCancel (tag : Byte) (body : List Byte)
  | eventRetire (tag : Byte) (body : List Byte)
  | eventGet (tag : Byte) (body : List Byte)
  | clockSet (tag : Byte) (body : List Byte)
  | clockGet (tag : Byte) (body : List Byte)
  -- requests on screens (07)
  | screenPut (tag : Byte) (body : List Byte)
  | screenAmend (tag : Byte) (body : List Byte)
  | screenRetire (tag : Byte) (body : List Byte)
  | screenGet (tag : Byte) (body : List Byte)
  | noticeSet (tag : Byte) (body : List Byte)
  -- muster requests (08)
  | musterStart (tag : Byte) (body : List Byte)
  | musterEnd (tag : Byte) (body : List Byte)
  | musterStatus (tag : Byte) (body : List Byte)
  -- other Service Port events (09)
  /-- A READ_ANSWER transaction, or one whose transaction byte names neither kind (log 35). -/
  | readAnswer (transaction : Transaction)
  /-- A request frame arrives while another request is in processing. -/
  | portOverrun
  /-- A request frame, as received, that fails check 2 or 3 of R173; without a byte, a REQUEST that ends
  after the status byte (R172). -/
  | badFrame (bytes : List Byte)
  /-- A request frame whose code names no request. -/
  | unknownRequest (tag code : Byte)
  -- resets (09)
  | powerOnReset
  | pinReset
  -- muster events (08)
  /-- The raw level of ALARM_IN_N is now low or high. -/
  | alarmInChange (low : Bool)
  | alarmInFilterExpiry
  | drillTimerExpiry
  | entryCountTimerExpiry
  | secondTimerExpiry
  | standDownCompletion
  -- a map build completes (02)
  | buildCompletion
  -- trunk events (05)
  | surveyTimerExpiry (trunk : Fin 16)
  | holdTimerExpiry (trunk : Fin 16)
  | idleGuardExpiry (trunk : Fin 16)
  | stuckTimerExpiry (trunk : Fin 16)
  | otherTalkerOpen (trunk : Fin 16)
  | otherTalkerClose (trunk : Fin 16)
  /-- A plate holds; `addressAccepted` says whether the address slot of the transaction has already
  read ACCEPT (R104 needs it of a survey step). -/
  | hold (trunk : Fin 16) (addressAccepted : Bool)
  | holdRelease (trunk : Fin 16)
  /-- The part loses arbitration; `addressAccepted` as for `hold`. -/
  | arbitrationLoss (trunk : Fin 16) (addressAccepted : Bool)
  | recoveringWiresHigh (trunk : Fin 16)
  | faultWiresHigh (trunk : Fin 16)
  | writeCompletion (trunk : Fin 16)
  | writeRefused (trunk : Fin 16)
  | broadcastCompletion (trunk : Fin 16)
  | surveyStepEnd (trunk : Fin 16) (how : SurveyEnd)
  -- the Cabin Table consumes the report at the head of the Inbound Report Queue (04)
  | privacy
  | serviceCall
  | sweepClear
  | toolWrite
  -- screen-link events (07, 10)
  | periodTimerExpiry (link : Fin 4)
  | accept (link : Fin 4) (address flags slot : Byte) (gen : Word16)
  | reject (link : Fin 4) (address flags slot : Byte) (gen : Word16)
  | descriptor (link : Fin 4) (address flags lines : Byte) (languages : Word16) (panelClass : Byte)
  | corruptAnswer (link : Fin 4)
  | answerWindowExpiry (link : Fin 4)
  | answerLimitExpiry (link : Fin 4)
  /-- The wires of a trunk now stand at these levels, without an OPEN or a CLOSE. -/
  | trunkWireChange (trunk : Fin 16) (clockHigh dataHigh : Bool)
  | screenAnswerBegin (link : Fin 4)
  deriving DecidableEq, Repr

end Sys2Proof
end

