-- ==== Sys2Proof/Decode.lean ====
section
/-! DEFINITION. The byte order (R188), the CRC-16 (R189), the request frame (10 section 10.2) and
the screen answer (10 section 10.5), with the encoder of request frames. The opcode table gives its
rows no bits, so `decodeTableWord` reads no word (log 30). -/

namespace Sys2Proof

/-! ### Byte order (R188) -/

/-- A 1-byte field. -/
def u8 (n : Nat) : List Byte := [BitVec.ofNat 8 n]

/-- A 2-byte field, most significant byte first. -/
def u16 (n : Nat) : List Byte := [BitVec.ofNat 8 (n / 256), BitVec.ofNat 8 n]

/-- A 3-byte field, most significant byte first. -/
def u24 (n : Nat) : List Byte :=
  [BitVec.ofNat 8 (n / 65536), BitVec.ofNat 8 (n / 256), BitVec.ofNat 8 n]

/-- The value of a 2-byte field. -/
def rd16 (hi lo : Byte) : Nat := hi.toNat * 256 + lo.toNat

/-- The value of a 3-byte field. -/
def rd24 (hi mid lo : Byte) : Nat := hi.toNat * 65536 + mid.toNat * 256 + lo.toNat

/-! ### CRC-16 (R189) -/

/-- One bit of the division by x^16 + x^12 + x^5 + 1. -/
def crcBit (c : Word16) : Word16 :=
  if c.msb then (c <<< 1) ^^^ 0x1021#16 else c <<< 1

/-- One byte, most significant bit first, no reflection. -/
def crcByte (c : Word16) (b : Byte) : Word16 :=
  let c0 := c ^^^ (b.zeroExtend 16 <<< 8)
  crcBit (crcBit (crcBit (crcBit (crcBit (crcBit (crcBit (crcBit c0)))))))

/-- The CRC-16 over bytes: starting value 0xFFFF, no final inversion. -/
def crc16 (bytes : List Byte) : Word16 := bytes.foldl crcByte 0xFFFF#16

/-- Bytes with their CRC-16 appended. -/
def withCrc (bytes : List Byte) : List Byte := bytes ++ u16 (crc16 bytes).toNat

/-! ### Request frames -/

/-- The request that a request code names (10 section 10.2). -/
def requestOf (code tag : Byte) (body : List Byte) : Option Instr :=
  match code.toNat with
  | 0x01 => some (.identify tag body)
  | 0x02 => some (.portStatus tag body)
  | 0x03 => some (.configGet tag body)
  | 0x04 => some (.configSet tag body)
  | 0x05 => some (.noticeClear tag body)
  | 0x06 => some (.restart tag body)
  | 0x08 => some (.cursorSet tag body)
  | 0x09 => some (.readNext tag body)
  | 0x0A => some (.loadBegin tag body)
  | 0x0B => some (.loadRecord tag body)
  | 0x0C => some (.loadAbort tag body)
  | 0x10 => some (.nodePut tag body)
  | 0x11 => some (.nodeRetire tag body)
  | 0x12 => some (.nodeGet tag body)
  | 0x13 => some (.edgePut tag body)
  | 0x14 => some (.edgeSetPass tag body)
  | 0x15 => some (.edgeRetire tag body)
  | 0x16 => some (.edgeGet tag body)
  | 0x20 => some (.routeAsk tag body)
  | 0x28 => some (.targetPut tag body)
  | 0x29 => some (.targetRetire tag body)
  | 0x2A => some (.targetGet tag body)
  | 0x2B => some (.stationBlock tag body)
  | 0x2C => some (.stationUnblock tag body)
  | 0x30 => some (.cabinPut tag body)
  | 0x31 => some (.cabinAmend tag body)
  | 0x32 => some (.cabinRetire tag body)
  | 0x33 => some (.cabinGet tag body)
  | 0x34 => some (.plateRetry tag body)
  | 0x35 => some (.serviceTake tag body)
  | 0x38 => some (.trunkGet tag body)
  | 0x40 => some (.eventPut tag body)
  | 0x41 => some (.eventAmend tag body)
  | 0x42 => some (.eventCancel tag body)
  | 0x43 => some (.eventRetire tag body)
  | 0x44 => some (.eventGet tag body)
  | 0x45 => some (.clockSet tag body)
  | 0x46 => some (.clockGet tag body)
  | 0x50 => some (.screenPut tag body)
  | 0x51 => some (.screenAmend tag body)
  | 0x52 => some (.screenRetire tag body)
  | 0x53 => some (.screenGet tag body)
  | 0x54 => some (.noticeSet tag body)
  | 0x60 => some (.musterStart tag body)
  | 0x61 => some (.musterEnd tag body)
  | 0x62 => some (.musterStatus tag body)
  | _ => none

/-- The request code, tag and body of a request; none for a command that is no request. -/
def requestParts (i : Instr) : Option (Byte × Byte × List Byte) :=
  match i with
  | .identify t b => some (0x01#8, t, b)
  | .portStatus t b => some (0x02#8, t, b)
  | .configGet t b => some (0x03#8, t, b)
  | .configSet t b => some (0x04#8, t, b)
  | .noticeClear t b => some (0x05#8, t, b)
  | .restart t b => some (0x06#8, t, b)
  | .cursorSet t b => some (0x08#8, t, b)
  | .readNext t b => some (0x09#8, t, b)
  | .loadBegin t b => some (0x0A#8, t, b)
  | .loadRecord t b => some (0x0B#8, t, b)
  | .loadAbort t b => some (0x0C#8, t, b)
  | .nodePut t b => some (0x10#8, t, b)
  | .nodeRetire t b => some (0x11#8, t, b)
  | .nodeGet t b => some (0x12#8, t, b)
  | .edgePut t b => some (0x13#8, t, b)
  | .edgeSetPass t b => some (0x14#8, t, b)
  | .edgeRetire t b => some (0x15#8, t, b)
  | .edgeGet t b => some (0x16#8, t, b)
  | .routeAsk t b => some (0x20#8, t, b)
  | .targetPut t b => some (0x28#8, t, b)
  | .targetRetire t b => some (0x29#8, t, b)
  | .targetGet t b => some (0x2A#8, t, b)
  | .stationBlock t b => some (0x2B#8, t, b)
  | .stationUnblock t b => some (0x2C#8, t, b)
  | .cabinPut t b => some (0x30#8, t, b)
  | .cabinAmend t b => some (0x31#8, t, b)
  | .cabinRetire t b => some (0x32#8, t, b)
  | .cabinGet t b => some (0x33#8, t, b)
  | .plateRetry t b => some (0x34#8, t, b)
  | .serviceTake t b => some (0x35#8, t, b)
  | .trunkGet t b => some (0x38#8, t, b)
  | .eventPut t b => some (0x40#8, t, b)
  | .eventAmend t b => some (0x41#8, t, b)
  | .eventCancel t b => some (0x42#8, t, b)
  | .eventRetire t b => some (0x43#8, t, b)
  | .eventGet t b => some (0x44#8, t, b)
  | .clockSet t b => some (0x45#8, t, b)
  | .clockGet t b => some (0x46#8, t, b)
  | .screenPut t b => some (0x50#8, t, b)
  | .screenAmend t b => some (0x51#8, t, b)
  | .screenRetire t b => some (0x52#8, t, b)
  | .screenGet t b => some (0x53#8, t, b)
  | .noticeSet t b => some (0x54#8, t, b)
  | .musterStart t b => some (0x60#8, t, b)
  | .musterEnd t b => some (0x61#8, t, b)
  | .musterStatus t b => some (0x62#8, t, b)
  | .readAnswer .. | .portOverrun | .badFrame .. | .unknownRequest .. | .powerOnReset | .pinReset
  | .alarmInChange .. | .alarmInFilterExpiry | .drillTimerExpiry | .entryCountTimerExpiry
  | .secondTimerExpiry | .standDownCompletion | .buildCompletion | .surveyTimerExpiry ..
  | .holdTimerExpiry .. | .idleGuardExpiry .. | .stuckTimerExpiry .. | .otherTalkerOpen ..
  | .otherTalkerClose .. | .hold .. | .holdRelease .. | .arbitrationLoss .. | .recoveringWiresHigh ..
  | .faultWiresHigh .. | .writeCompletion .. | .writeRefused .. | .broadcastCompletion ..
  | .surveyStepEnd .. | .privacy | .serviceCall | .sweepClear | .toolWrite | .periodTimerExpiry ..
  | .accept .. | .reject .. | .descriptor .. | .corruptAnswer .. | .answerWindowExpiry ..
  | .answerLimitExpiry .. | .trunkWireChange .. | .screenAnswerBegin .. => none

/-- What checks 2 and 3 of R173 make of the bytes of a request frame. -/
inductive FrameVerdict where
  /-- Check 2 fails: body length above 512, or the frame ended before its CRC was whole. -/
  | badLength
  /-- Check 3 fails: the CRC-16 does not match. -/
  | badCheck
  /-- Both pass. -/
  | good (tag code : Byte) (body : List Byte)
  deriving DecidableEq, Repr

/-- Checks 2 and 3 of R173. Bytes after the CRC are ignored. -/
def judgeFrame (bytes : List Byte) : FrameVerdict :=
  match bytes with
  | tag :: code :: hi :: lo :: rest =>
    let n := rd16 hi lo
    if Config.maxBody < n ∨ rest.length < n + 2 then .badLength
    else if u16 (crc16 (tag :: code :: hi :: lo :: rest.take n)).toNat = (rest.drop n).take 2 then
      .good tag code (rest.take n)
    else .badCheck
  | _ => .badLength

/-- The command that a request frame is (R173, checks 2 to 4), when no request is in processing. -/
def decodeFrame (bytes : List Byte) : Instr :=
  match judgeFrame bytes with
  | .badLength => .badFrame bytes
  | .badCheck => .badFrame bytes
  | .good tag code body => (requestOf code tag body).getD (.unknownRequest tag code)

/-- The frame of a request (10 section 10.2): tag, code, body length, body, CRC-16. -/
def encodeFrame (i : Instr) : Option (List Byte) :=
  (requestParts i).map fun (code, tag, body) =>
    withCrc (tag :: code :: u16 body.length ++ body)

/-! ### Screen answers (10 section 10.5, R192) -/

/-- The command that the bytes of a screen's whole answer are: corrupt when the CRC fails or the
length does not fit the kind. DESIGN CHOICE (log 22), unsafe: any kind but the three that a screen
sends, a kind that the part sends among them, is a REJECT without the descriptor-changed flag, whatever
the length of its body. -/
def decodeScreenAnswer (link : Fin 4) (bytes : List Byte) : Instr :=
  match bytes with
  | address :: kind :: hi :: lo :: rest =>
    let n := rd16 hi lo
    if rest.length ≠ n + 2 then .corruptAnswer link
    else if u16 (crc16 (address :: kind :: hi :: lo :: rest.take n)).toNat ≠ rest.drop n then
      .corruptAnswer link
    else
      match kind.toNat, rest.take n with
      | 0x81, [flags, slot, g1, g0] => .accept link address flags slot (g1 ++ g0)
      | 0x82, [flags, slot, g1, g0] => .reject link address flags slot (g1 ++ g0)
      | 0x83, [flags, lines, l1, l0, cls] => .descriptor link address flags lines (l1 ++ l0) cls
      | 0x81, _ => .corruptAnswer link
      | 0x82, _ => .corruptAnswer link
      | 0x83, _ => .corruptAnswer link
      | _, _ => .reject link address 0#8 0xFF#8 0#16
  | _ => .corruptAnswer link

/-! ### The opcode table -/

/-- The command that a word spells by the table's bits: the table gives no row any bits (log 30). -/
def decodeTableWord (_nbits _w : Nat) : Option Instr := none

end Sys2Proof
end

