-- ==== Sys2Proof/Machine/State.lean ====
section
/-! DEFINITION. The state of the part, block by block (00 section 2), as plain data, and the state
after power-on reset. The chapter that owns a field is named at its block. -/

namespace Sys2Proof.Machine

/-! ### Why a step can stop -/

/-- No step of the part ends in a fault: the spec names none (INVENTORY, Faults). -/
inductive Fault where
  deriving DecidableEq, Repr

/-- Why a step is refused. -/
inductive Refusal where
  /-- Raised by `exec` for a command that has no meaning yet, of which there is none; safe. -/
  | notModelled (mnemonic : String)
  deriving DecidableEq, Repr

/-! ### Enumerations (10 section 10.1) -/

/-- A leave direction (01 section 1.3). -/
inductive Direction where
  | fore | foreStbd | starboard | aftStbd | aft | aftPort | port | forePort | up | down
  deriving DecidableEq, Repr

/-- The direction in which a viewer looks when reading a screen (02 section 2.7). -/
inductive Facing where
  | fore | starboard | aft | port
  deriving DecidableEq, Repr

/-- An arrow (R42); NONE is the absence of one. -/
inductive Arrow where
  | ahead | aheadRight | right | behindRight | behind | behindLeft | left | aheadLeft | up | down
  | here
  deriving DecidableEq, Repr

inductive EdgeKind where
  | walk | stair | lift
  deriving DecidableEq, Repr

inductive Passability where
  | opened | closed
  deriving DecidableEq, Repr

inductive Profile where
  | general | stepFree
  deriving DecidableEq, Repr

inductive AnswerKind where
  | route | provisional | here | noRoute | hold
  deriving DecidableEq, Repr

inductive MapState where
  | empty | stale | building | current
  deriving DecidableEq, Repr

inductive QueueClass where
  | urgent | ordinary
  deriving DecidableEq, Repr

inductive Occupancy where
  | vacant | occupied
  deriving DecidableEq, Repr

/-- Privacy NONE is `unasked`. -/
inductive Privacy where
  | unasked | doNotDisturb | makeUpRoom
  deriving DecidableEq, Repr

/-- Plate state NONE is `noPlate`. -/
inductive PlateState where
  | noPlate | pending | current | failed
  deriving DecidableEq, Repr

/-- A plate mode; a believed mode UNKNOWN is the absence of one. -/
inductive PlateMode where
  | normal | drill | alarm
  deriving DecidableEq, Repr

inductive TrunkState where
  | disabled | settling | idle | talking | held | listening | recovering | fault
  deriving DecidableEq, Repr

/-- Fill OPEN is `vacancies`. -/
inductive Fill where
  | vacancies | filling | full
  deriving DecidableEq, Repr

inductive EntryState where
  | scheduled | running | suspended | ended | cancelled
  deriving DecidableEq, Repr

/-- Scope NONE is `nothing`. -/
inductive Scope where
  | nothing | all | deck | zone
  deriving DecidableEq, Repr

/-- Policy REPEAT is `refreshed`. -/
inductive Policy where
  | off | once | refreshed
  deriving DecidableEq, Repr

inductive RecordMode where
  | normal | dark
  deriving DecidableEq, Repr

inductive AttachState where
  | absent | present | lost
  deriving DecidableEq, Repr

inductive PanelClass where
  | small | medium | large
  deriving DecidableEq, Repr

/-- The four content slots of a screen (07 section 7.2). -/
inductive SlotKind where
  | route | programme | notice | muster
  deriving DecidableEq, Repr

inductive MusterState where
  | normal | drill | alarm | standDown
  deriving DecidableEq, Repr

/-- Muster kind NONE is `nothing`. -/
inductive MusterKind where
  | nothing | drill | alarm
  deriving DecidableEq, Repr

/-- Last cause NONE is `nothing`. -/
inductive LastCause where
  | nothing | request | alarmIn | drillLimit | completion
  deriving DecidableEq, Repr

inductive TableName where
  | node | edge | target | cabin | entry | screen
  deriving DecidableEq, Repr

/-- Load ending NONE is `nothing`. -/
inductive LoadEnding where
  | nothing | inProgress | completed | aborted | restarted
  deriving DecidableEq, Repr

inductive ResetCause where
  | powerOn | pin | warm
  deriving DecidableEq, Repr

/-- The result codes (09 section 9.1). Result NONE is `noAnswer`. -/
inductive Result where
  | done | notFound | exists_ | full | degree | inUse | badField | refusedState | busy | badFrame
  | unknownRequest | end_ | empty | noAnswer
  deriving DecidableEq, Repr

/-- The notices (09 section 9.5). The last two are level notices. -/
inductive Notice where
  | plateFailed | trunkFault | screenChange | mapsSettled | musterChange | loadDone | stationOver
  | portOverrun | serviceWaiting | inboundHalf
  deriving DecidableEq, Repr

/-! ### Graph Store (01) -/

/-- A live node; its id is its slot. -/
structure Node where
  deck : Nat
  zone : Nat
  degree : Nat
  refs : Nat
  deriving DecidableEq, Repr

/-- A live edge; its id is its slot. -/
structure Edge where
  endA : Nat
  endB : Nat
  length : Nat
  kind : EdgeKind
  leaveA : Direction
  leaveB : Direction
  pass : Passability
  crewOnly : Bool
  deriving DecidableEq, Repr

structure GraphStore where
  nodes : Table Node
  edges : Table Edge
  genGeneral : Gen
  genStepFree : Gen
  openLifts : Nat
  deriving DecidableEq, Repr

/-! ### Route Engine (02) -/

/-- A map is named by its target and profile. -/
structure MapName where
  target : Nat
  profile : Profile
  deriving DecidableEq, Repr

/-- An entry of a map (R21): next edge NONE is the absence of one. -/
structure MapEntry where
  next : Option Nat
  dist : Nat
  deriving DecidableEq, Repr

/-- A live map. `entries` lists the nodes whose distance is not 65,535; every other node id from 0 to
1023 has next edge NONE and distance 65,535. -/
structure RouteMap where
  state : MapState
  contentHeld : Bool
  builtGen : Option Gen
  entries : Table MapEntry
  deriving DecidableEq, Repr

/-- The build record when it is not idle. -/
structure Build where
  map : MapName
  gen : Gen
  deriving DecidableEq, Repr

/-- Map (t, GENERAL) is slot 2t and map (t, STEP_FREE) slot 2t + 1 of `maps`. -/
structure RouteEngine where
  maps : Table RouteMap
  urgent : List MapName
  ordinary : List MapName
  build : Option Build
  deriving DecidableEq, Repr

/-! ### Target Table (03) -/

/-- What a STATION has and a VENUE has not. Letters A to P are 0 to 15. -/
structure Station where
  letter : Nat
  capacity : Nat
  blocked : Bool
  assigned : Nat
  swept : Nat
  occupied : Nat
  overFlag : Bool
  deriving DecidableEq, Repr

/-- A live target; its kind is STATION when it has station fields, and VENUE when it has none. -/
structure Target where
  anchor : Nat
  label : Nat
  refs : Nat
  station : Option Station
  deriving DecidableEq, Repr

structure TargetTable where
  targets : Table Target
  unassigned : Nat
  deriving DecidableEq, Repr

/-! ### Cabin Table (04) -/

structure CabinNumber where
  deck : Nat
  number : Nat
  deriving DecidableEq, Repr

structure PlateAddress where
  trunk : Fin 16
  address : Nat
  deriving DecidableEq, Repr

structure Cabin where
  number : CabinNumber
  doorNode : Nat
  plate : Option PlateAddress
  berths : Nat
  occupancy : Occupancy
  label : List Word16
  language : Nat
  message : Option Nat
  primary : Nat
  alternate : Option Nat
  privacy : Privacy
  service : Bool
  /-- UNSET is the absence of a minute. -/
  serviceMinute : Option Nat
  /-- Sweep state CLEAR. -/
  swept : Bool
  sweptBy : Option Word16
  contentGen : Gen
  deliveredGen : Gen
  plateState : PlateState
  retries : Nat
  deriving DecidableEq, Repr

/-- The service list names cabins by slot, oldest call first. -/
structure CabinTable where
  cabins : Table Cabin
  service : List Nat
  deriving DecidableEq, Repr

/-! ### Plate Bus Controller (05) -/

/-- The face a write carries (R67). A blank letter is the absence of one; message 0 is none. -/
structure Face where
  label : List Word16
  privacy : Privacy
  letter : Option Nat
  message : Nat
  language : Nat
  occupancy : Occupancy
  mode : PlateMode
  gen : Gen
  deriving DecidableEq, Repr

/-- A trunk's work in flight. A write whose cabin is absent is detached (R97). `accepted` says whether
the survey's plate is known to have ACCEPTed its address (R104). -/
inductive Work where
  | write (cabin : Option Nat) (address : Nat) (face : Face) (takenFrom : QueueClass)
  | broadcast (mode : PlateMode)
  | survey (address : Nat) (accepted : Bool)
  deriving DecidableEq, Repr

structure Trunk where
  state : TrunkState
  enabled : Bool
  urgent : List Nat
  ordinary : List Nat
  work : Option Work
  /-- UNKNOWN is the absence of a mode. -/
  believed : Option PlateMode
  cursor : Nat
  /-- How many bytes of news the part gave ACCEPT in the last survey step that ended by itself (R191). -/
  newsAccepts : Nat
  surveyDue : Bool
  surveyTimer : Timer
  guardTimer : Timer
  holdTimer : Timer
  stuckTimer : Timer
  clockHigh : Bool
  dataHigh : Bool
  deriving DecidableEq, Repr

/-- One part of a report (R105). -/
inductive ReportPart where
  | privacy (value : Privacy)
  | serviceCall
  | sweepClear
  | crewTag (tag : Word16)
  | toolWrite
  deriving DecidableEq, Repr

/-- An entry of the Inbound Report Queue. -/
structure ReportEntry where
  trunk : Fin 16
  address : Nat
  part : ReportPart
  deriving DecidableEq, Repr

structure PlateBus where
  trunks : Vector Trunk 16
  inbound : List ReportEntry
  surveyPeriod : Nat
  holdLimit : Nat
  deriving DecidableEq, Repr

/-! ### Programme Table (06) -/

structure Entry where
  id : Nat
  start : Nat
  finish : Nat
  venue : Nat
  title : Nat
  category : Nat
  fill : Fill
  moved : Bool
  state : EntryState
  deriving DecidableEq, Repr

/-- The Ship Clock while RUNNING. -/
structure ClockTime where
  minute : Nat
  second : Nat
  deriving DecidableEq, Repr

structure ProgrammeTable where
  entries : Table Entry
  /-- UNSET is the absence of a time. -/
  clock : Option ClockTime
  secondTimer : Timer
  linger : Nat
  horizon : Nat
  deriving DecidableEq, Repr

/-! ### Screen Link Controller (07) -/

structure LastSent where
  period : Word16
  gen : Gen
  deriving DecidableEq, Repr

structure Slot where
  policy : Policy
  gen : Gen
  accepted : Option Gen
  lastSent : Option LastSent
  deriving DecidableEq, Repr

structure Descriptor where
  lines : Nat
  rendered : Word16
  panelClass : PanelClass
  deriving DecidableEq, Repr

structure Screen where
  node : Nat
  facing : Facing
  stepFree : Bool
  shown : List Nat
  scope : Scope
  override : Option Nat
  languages : List Nat
  notice : Nat
  mode : RecordMode
  attach : AttachState
  descValid : Bool
  descriptor : Option Descriptor
  misses : Nat
  lastAddressed : Option Word16
  routeSlot : Slot
  programmeSlot : Slot
  noticeSlot : Slot
  musterSlot : Slot
  deriving DecidableEq, Repr

/-- A slot of a screen; the screen is named by its table slot (R130). -/
structure SlotRef where
  screen : Nat
  kind : SlotKind
  deriving DecidableEq, Repr

/-- A line of a ROUTE panel. -/
structure RouteLine where
  label : Nat
  letter : Option Nat
  kind : AnswerKind
  arrow : Option Arrow
  dist : Nat
  deriving DecidableEq, Repr

/-- A line of a PROGRAMME panel. -/
structure ProgrammeLine where
  title : Nat
  category : Nat
  start : Nat
  minutesToStart : Int
  mark : Nat
  fill : Fill
  moved : Bool
  label : Nat
  kind : AnswerKind
  arrow : Option Arrow
  dist : Nat
  deriving DecidableEq, Repr

/-- The line of a MUSTER panel; FOLLOW_CREW names no station. -/
structure MusterLine where
  marker : MusterKind
  followCrew : Bool
  letter : Option Nat
  label : Nat
  kind : AnswerKind
  arrow : Option Arrow
  dist : Nat
  deriving DecidableEq, Repr

/-- What a slot packet carries (R138). -/
inductive Content where
  | blank
  | route (lines : List RouteLine)
  | programme (lines : List ProgrammeLine)
  | notice (number : Nat)
  | muster (line : MusterLine)
  deriving DecidableEq, Repr

/-- A packet of the part to a screen (10 section 10.5). -/
inductive Packet where
  | discover
  | keepalive
  | slot (kind : SlotKind) (gen : Gen) (languages : List Nat) (content : Content)
  deriving DecidableEq, Repr

/-- The exchange in flight on a link. A detached exchange has lost its screen (R135). -/
structure Exchange where
  screen : Nat
  detached : Bool
  packet : Packet
  window : Timer
  limit : Timer
  deriving DecidableEq, Repr

structure Link where
  enabled : Bool
  periodSetting : Nat
  timer : Timer
  period : Word16
  budget : Nat
  /-- A period is under way and has not ended (R147). -/
  underWay : Bool
  /-- The period's one DISCOVER has been sent (R147). -/
  discovered : Bool
  musterQueue : List SlotRef
  dirtyQueue : List SlotRef
  discoveryCursor : Nat
  refreshAddress : Nat
  refreshSlot : SlotKind
  keepaliveCursor : Nat
  exchange : Option Exchange
  deriving DecidableEq, Repr

structure ScreenLinks where
  screens : Table Screen
  links : Vector Link 4
  deriving DecidableEq, Repr

/-! ### Muster Controller (08) -/

structure MusterControl where
  state : MusterState
  kind : MusterKind
  cause : LastCause
  entryCount : Nat
  entryTimer : Timer
  drillLimit : Nat
  drillTimer : Timer
  /-- The filtered level: `true` is ASSERTED. -/
  asserted : Bool
  /-- The raw level of ALARM_IN_N: `true` is low, the asserting level. -/
  rawLow : Bool
  filterTimer : Timer
  /-- A stand-down completion is to follow (R166). -/
  completion : Bool
  deriving DecidableEq, Repr

/-! ### Service Port (09) -/

structure Answer where
  tag : Byte
  result : Result
  body : List Byte
  deriving DecidableEq, Repr

/-- The load state: the load under way. -/
structure Load where
  table : TableName
  remaining : Nat
  refused : Nat
  deriving DecidableEq, Repr

structure LoadSummary where
  table : Option TableName
  count : Nat
  remaining : Nat
  refused : Nat
  ending : LoadEnding
  deriving DecidableEq, Repr

structure Cursor where
  table : TableName
  index : Nat
  deriving DecidableEq, Repr

structure ServicePort where
  /-- The port state is LOADING exactly while a load is under way, and READY otherwise. -/
  load : Option Load
  summary : LoadSummary
  processing : Bool
  answer : Option Answer
  cursor : Cursor
  /-- The event notice flags, bit n for the notice of bit n (R193). -/
  events : Word16
  /-- The notice mask; a bit of 1 means masked. -/
  mask : Word16
  resetCause : ResetCause
  /-- The bytes the part drove on SP_DO in the last transaction. -/
  out : List Byte
  deriving DecidableEq, Repr

/-! ### The part -/

structure State where
  graph : GraphStore
  route : RouteEngine
  target : TargetTable
  cabin : CabinTable
  plate : PlateBus
  programme : ProgrammeTable
  screen : ScreenLinks
  muster : MusterControl
  port : ServicePort
  /-- The model's counter for free values (log 6). -/
  fresh : Nat
  /-- The commands that wait, first in first out. -/
  pending : List Instr
  deriving DecidableEq, Repr

/-! ### Reset values -/

/-- A trunk after power-on reset (R108). DESIGN CHOICE (log 4), unsafe: its wires are high. DESIGN CHOICE
(log 36), unsafe: the part has ACCEPTed no news. -/
def Trunk.reset : Trunk :=
  { state := .disabled, enabled := false, urgent := [], ordinary := [], work := none,
    believed := none, cursor := 1, newsAccepts := 0, surveyDue := false, surveyTimer := none,
    guardTimer := none, holdTimer := none, stuckTimer := none, clockHigh := true, dataHigh := true }

/-- A link after power-on reset (R153). -/
def Link.reset : Link :=
  { enabled := false, periodSetting := 500, timer := none, period := 0#16, budget := 0,
    underWay := false, discovered := false, musterQueue := [], dirtyQueue := [],
    discoveryCursor := 1, refreshAddress := 1, refreshSlot := .route, keepaliveCursor := 1,
    exchange := none }

/-- The load summary before any load (R187). -/
def LoadSummary.reset : LoadSummary :=
  { table := none, count := 0, remaining := 0, refused := 0, ending := .nothing }

/-- The part after power-on reset (R18, R44, R57, R79, R108, R128, R153, R170, R187). DESIGN CHOICE
(log 4), unsafe: ALARM_IN_N is high. DESIGN CHOICE (log 5), unsafe: SP_DO has driven no byte. DESIGN CHOICE
(log 20), unsafe: no stand-down completion is to follow. -/
def State.reset : State :=
  { graph := { nodes := [], edges := [], genGeneral := 0#16, genStepFree := 0#16, openLifts := 0 }
    route := { maps := [], urgent := [], ordinary := [], build := none }
    target := { targets := [], unassigned := 0 }
    cabin := { cabins := [], service := [] }
    plate := { trunks := Vector.replicate 16 Trunk.reset, inbound := [], surveyPeriod := 250,
               holdLimit := 300 }
    programme := { entries := [], clock := none, secondTimer := none, linger := 10, horizon := 180 }
    screen := { screens := [], links := Vector.replicate 4 Link.reset }
    muster := { state := .normal, kind := .nothing, cause := .nothing, entryCount := 0,
                entryTimer := some 0, drillLimit := 0, drillTimer := none, asserted := false,
                rawLow := false, filterTimer := none, completion := false }
    port := { load := none, summary := LoadSummary.reset, processing := false, answer := none,
              cursor := { table := .node, index := 0 }, events := 0#16, mask := 0x03FF#16,
              resetCause := .powerOn, out := [] }
    fresh := 0
    pending := [] }

end Sys2Proof.Machine
end

