-- ==== Sys2Proof/Machine/Ops.lean ====
section
/-! DEFINITION. The shared operations over tables, trunks, links, timers and generations. -/

namespace Sys2Proof

/-! ### Tables (00 section 5.3) -/

namespace Table

variable {α : Type}

/-- The record of a live slot, none for a free one. -/
def get : Table α → Nat → Option α
  | [], _ => none
  | (j, v) :: t, k => if j = k then some v else get t k

/-- Makes a slot live with a record, or replaces the record of a live slot. -/
def put : Table α → Nat → α → Table α
  | [], k, v => [(k, v)]
  | (j, w) :: t, k, v =>
    if k < j then (k, v) :: (j, w) :: t
    else if k = j then (k, v) :: t
    else (j, w) :: put t k v

/-- Frees a slot. -/
def del (t : Table α) (k : Nat) : Table α := t.filter fun r => decide (r.1 ≠ k)

/-- Changes the record of a slot if it is live. -/
def modify (t : Table α) (k : Nat) (f : α → α) : Table α :=
  t.map fun r => if r.1 = k then (r.1, f r.2) else r

/-- Changes every live record. -/
def mapAll (t : Table α) (f : α → α) : Table α := t.map fun r => (r.1, f r.2)

/-- Whether a slot is live. -/
def live (t : Table α) (k : Nat) : Bool := (get t k).isSome

/-- How many live records satisfy a test. -/
def count (t : Table α) (p : α → Bool) : Nat := (t.filter fun r => p r.2).length

/-- The first live record that satisfies a test, with its slot. -/
def find (t : Table α) (p : α → Bool) : Option (Nat × α) := t.find? fun r => p r.2

/-- The lowest free slot at or above `k`, looking at `fuel` slots. -/
def lowestFree (t : Table α) : Nat → Nat → Option Nat
  | 0, _ => none
  | fuel + 1, k => if (get t k).isNone then some k else lowestFree t fuel (k + 1)

/-- The first live slot at or after `k`. -/
def firstFrom (t : Table α) (k : Nat) : Option (Nat × α) := t.find? fun r => decide (k ≤ r.1)

/-- The canonical form: slots strictly rising. -/
def wf : Table α → Bool
  | [] => true
  | [_] => true
  | (j, _) :: (k, w) :: t => decide (j < k) && wf ((k, w) :: t)

end Table

/-- Inserts a value before the first one that does not come before it. -/
def insertBy {α : Type} (before : α → α → Bool) (x : α) : List α → List α
  | [] => [x]
  | y :: ys => if before x y then x :: y :: ys else y :: insertBy before x ys

/-- A list in the order of `before`, equal values in their given order. -/
def sortBy {α : Type} (before : α → α → Bool) : List α → List α
  | [] => []
  | x :: xs => insertBy (fun a b => !before b a) x (sortBy before xs)

/-- The 1-based position of a value in a list, 0 if it is not there. -/
def position {α : Type} [DecidableEq α] (x : α) : List α → Nat
  | [] => 0
  | y :: ys => if x = y then 1 else match position x ys with
    | 0 => 0
    | n + 1 => n + 2

namespace Machine

/-! ### Generations and timers -/

/-- To raise a generation: add one, wrapping (00 section 5.5). -/
def raise (g : Gen) : Gen := g + 1#16

/-- Starting a timer, or restarting it: it counts from zero (00 section 5.6). -/
def started : Timer := some 0

/-- A stopped timer. -/
def stopped : Timer := none

/-! ### Trunks and links by number -/

/-- The sixteen trunks in ascending number. -/
def allTrunks : List (Fin 16) := [0, 1, 2, 3, 4, 5, 6, 7, 8, 9, 10, 11, 12, 13, 14, 15]

/-- The four links in ascending number. -/
def allLinks : List (Fin 4) := [0, 1, 2, 3]

def State.trunk (s : State) (i : Fin 16) : Trunk := s.plate.trunks[i]

def State.setTrunk (s : State) (i : Fin 16) (t : Trunk) : State :=
  { s with plate := { s.plate with trunks := s.plate.trunks.set i t } }

def State.modTrunk (s : State) (i : Fin 16) (f : Trunk → Trunk) : State :=
  s.setTrunk i (f (s.trunk i))

def State.link (s : State) (l : Fin 4) : Link := s.screen.links[l]

def State.setLink (s : State) (l : Fin 4) (k : Link) : State :=
  { s with screen := { s.screen with links := s.screen.links.set l k } }

def State.modLink (s : State) (l : Fin 4) (f : Link → Link) : State :=
  s.setLink l (f (s.link l))

/-! ### Records by slot -/

def State.node (s : State) (n : Nat) : Option Node := Table.get s.graph.nodes n
def State.edge (s : State) (e : Nat) : Option Edge := Table.get s.graph.edges e
def State.targetAt (s : State) (t : Nat) : Option Target := Table.get s.target.targets t
def State.cabinAt (s : State) (c : Nat) : Option Cabin := Table.get s.cabin.cabins c
def State.entryAt (s : State) (e : Nat) : Option Entry := Table.get s.programme.entries e
def State.screenAt (s : State) (n : Nat) : Option Screen := Table.get s.screen.screens n

/-- The station fields of a live STATION. -/
def State.stationAt (s : State) (t : Nat) : Option Station := (s.targetAt t).bind (·.station)

def State.modNode (s : State) (n : Nat) (f : Node → Node) : State :=
  { s with graph := { s.graph with nodes := Table.modify s.graph.nodes n f } }

def State.modTarget (s : State) (t : Nat) (f : Target → Target) : State :=
  { s with target := { s.target with targets := Table.modify s.target.targets t f } }

def State.modStation (s : State) (t : Nat) (f : Station → Station) : State :=
  s.modTarget t fun x => { x with station := x.station.map f }

def State.modCabin (s : State) (c : Nat) (f : Cabin → Cabin) : State :=
  { s with cabin := { s.cabin with cabins := Table.modify s.cabin.cabins c f } }

def State.modEntry (s : State) (e : Nat) (f : Entry → Entry) : State :=
  { s with programme := { s.programme with entries := Table.modify s.programme.entries e f } }

def State.modScreen (s : State) (n : Nat) (f : Screen → Screen) : State :=
  { s with screen := { s.screen with screens := Table.modify s.screen.screens n f } }

def Screen.slot (x : Screen) : SlotKind → Slot
  | .route => x.routeSlot
  | .programme => x.programmeSlot
  | .notice => x.noticeSlot
  | .muster => x.musterSlot

def Screen.modSlot (x : Screen) (k : SlotKind) (f : Slot → Slot) : Screen :=
  match k with
  | .route => { x with routeSlot := f x.routeSlot }
  | .programme => { x with programmeSlot := f x.programmeSlot }
  | .notice => { x with noticeSlot := f x.noticeSlot }
  | .muster => { x with musterSlot := f x.musterSlot }

/-- The four slots in the order in which they are marked (R131). -/
def slotOrder : List SlotKind := [.route, .programme, .notice, .muster]

/-! ### The muster state as other blocks read it -/

/-- DRILL and ALARM are together the muster proper (08 section 8.1). -/
def MusterState.proper : MusterState → Bool
  | .drill => true
  | .alarm => true
  | .normal => false
  | .standDown => false

/-- The muster state. -/
def State.musterNow (s : State) : MusterState := s.muster.state

/-- The class in which a cabin joins a plate queue now (R68). -/
def State.plateClassNow (s : State) : QueueClass :=
  if s.musterNow.proper then .urgent else .ordinary

/-- The plate mode that a muster state requires (R98). -/
def MusterState.plateMode : MusterState → PlateMode
  | .drill => .drill
  | .alarm => .alarm
  | .normal => .normal
  | .standDown => .normal

/-! ### Claims on nodes and targets (R5, R50) -/

/-- One more live claim on a node. -/
def State.claimNode (s : State) (n : Nat) : State :=
  s.modNode n fun x => { x with refs := x.refs + 1 }

/-- One live claim on a node fewer. -/
def State.releaseNode (s : State) (n : Nat) : State :=
  s.modNode n fun x => { x with refs := x.refs - 1 }

/-- One more live claim on a target. -/
def State.claimTarget (s : State) (t : Nat) : State :=
  s.modTarget t fun x => { x with refs := x.refs + 1 }

/-- One live claim on a target fewer. -/
def State.releaseTarget (s : State) (t : Nat) : State :=
  s.modTarget t fun x => { x with refs := x.refs - 1 }

/-- A claim on each target of a list. -/
def State.claimTargets (s : State) (ts : List Nat) : State := ts.foldl State.claimTarget s

/-- A claim dropped on each target of a list. -/
def State.releaseTargets (s : State) (ts : List Nat) : State := ts.foldl State.releaseTarget s

end Machine
end Sys2Proof
end

