-- ==== Sys2Proof/Machine/Flags.lean ====
section
/-! DEFINITION. Notice flags, mask, ATTN_N and the status byte (R172, R182, R183), and the levels of
the Inbound Report Queue that feed them (R105, R106). -/

namespace Sys2Proof.Machine

/-- The bit of a notice in a notice set and in the mask (R193). -/
def Notice.bit : Notice → Nat
  | .plateFailed => 0
  | .trunkFault => 1
  | .screenChange => 2
  | .mapsSettled => 3
  | .musterChange => 4
  | .loadDone => 5
  | .stationOver => 6
  | .portOverrun => 7
  | .serviceWaiting => 8
  | .inboundHalf => 9

/-- The notice set of one notice. -/
def Notice.flag (n : Notice) : Word16 := 1#16 <<< n.bit

/-- Raising an event notice sets its flag and leaves it set (R182). -/
def State.raiseNotice (s : State) (n : Notice) : State :=
  { s with port := { s.port with events := s.port.events ||| n.flag } }

/-- The eight event notices (09 section 9.5). -/
def eventNotices : Word16 := 0x00FF#16

/-- The ten defined notices. -/
def definedNotices : Word16 := 0x03FF#16

/-! ### Inbound Report Queue counts (R105, R106) -/

/-- Entries held. -/
def State.held (s : State) : Nat := s.plate.inbound.length

/-- Whether a trunk's work in flight is a survey step. -/
def Trunk.surveying (t : Trunk) : Bool :=
  match t.work with
  | some (.survey _ _) => true
  | _ => false

/-- Entries reserved: 2 for each survey step in flight. -/
def State.reserved (s : State) : Nat :=
  2 * (allTrunks.filter fun i => (s.trunk i).surveying).length

/-- Entries free. -/
def State.freeEntries (s : State) : Nat := Config.reportEntries - s.held - s.reserved

def State.inboundEmpty (s : State) : Bool := decide (s.held = 0)
def State.inboundHalf (s : State) : Bool := decide (Config.reportHalf ≤ s.held)
def State.inboundFull (s : State) : Bool := decide (s.freeEntries < 2)

/-! ### Level notices and ATTN_N -/

/-- The level notice flags: each is set exactly while its condition holds (R182, R71, R106). -/
def State.levels (s : State) : Word16 :=
  (if s.cabin.service.isEmpty then 0#16 else Notice.serviceWaiting.flag) |||
  (if s.inboundHalf then Notice.inboundHalf.flag else 0#16)

/-- Every notice flag as it stands. -/
def State.flags (s : State) : Word16 := s.port.events ||| s.levels

/-- A flag is set whose notice is not masked: ATTN_N is asserted, low (R183). -/
def State.attention (s : State) : Bool := decide (s.flags &&& ~~~s.port.mask &&& definedNotices ≠ 0#16)

/-- The level of the ATTN_N pin: high is `true`. -/
def State.attnN (s : State) : Bool := !s.attention

/-- The port state is LOADING. -/
def State.loading (s : State) : Bool := s.port.load.isSome

/-- The status byte that opens every transaction (R172, 10 section 10.2). -/
def State.statusByte (s : State) : Byte :=
  (if s.port.answer.isSome && !s.port.processing then 0x80#8 else 0#8) |||
  (if s.attention then 0x40#8 else 0#8) |||
  (if s.loading then 0x20#8 else 0#8) |||
  (if s.port.events &&& Notice.portOverrun.flag ≠ 0#16 then 0x10#8 else 0#8) |||
  0x0A#8

end Sys2Proof.Machine
end

