-- ==== Sys2Proof/Machine/TargetTable.lean ====
section
/-! DEFINITION. The Target Table's own operations (03): effective stations, the contributions of
cabins to the tallies, and the over flags. -/

namespace Sys2Proof.Machine

/-! ### Effective stations (R51) -/

/-- A station that is live and not blocked. -/
def State.unblocked (s : State) (t : Nat) : Bool :=
  match s.stationAt t with
  | none => false
  | some st => !st.blocked

/-- The effective station of a cabin, NONE when absent (R51). -/
def State.effective (s : State) (c : Cabin) : Option Nat :=
  if s.unblocked c.primary then some c.primary
  else match c.alternate with
    | none => none
    | some a => if s.unblocked a then some a else none

/-- The letter of a cabin's effective station, blank when absent. -/
def State.letterOf (s : State) (c : Cabin) : Option Nat :=
  ((s.effective c).bind s.stationAt).map (·.letter)

/-! ### Contributions (R52) -/

/-- The berths a cabin gives to the occupied-berths tally. -/
def Cabin.occupiedBerths (c : Cabin) : Nat := if c.occupancy = .occupied then c.berths else 0

/-- One for a CLEAR cabin. -/
def Cabin.sweptOne (c : Cabin) : Nat := if c.swept then 1 else 0

/-- The tallies of a station with a cabin's contribution. -/
def Station.withCabin (st : Station) (c : Cabin) : Station :=
  { st with assigned := st.assigned + 1, swept := st.swept + c.sweptOne,
            occupied := st.occupied + c.occupiedBerths }

/-- The tallies of a station without a cabin's contribution. -/
def Station.withoutCabin (st : Station) (c : Cabin) : Station :=
  { st with assigned := st.assigned - 1, swept := st.swept - c.sweptOne,
            occupied := st.occupied - c.occupiedBerths }

def State.setUnassigned (s : State) (n : Nat) : State :=
  { s with target := { s.target with unassigned := n } }

/-- A cabin's contribution is added wherever it falls now. -/
def State.contribute (s : State) (c : Cabin) : State :=
  match s.effective c with
  | some t => s.modStation t fun st => st.withCabin c
  | none => s.setUnassigned (s.target.unassigned + 1)

/-- A cabin's contribution is taken from where it stands now. -/
def State.withdraw (s : State) (c : Cabin) : State :=
  match s.effective c with
  | some t => s.modStation t fun st => st.withoutCabin c
  | none => s.setUnassigned (s.target.unassigned - 1)

/-- The contributions of many cabins are taken away. -/
def State.withdrawAll (s : State) (cs : List Cabin) : State := cs.foldl State.withdraw s

/-- The contributions of many cabins are added. -/
def State.contributeAll (s : State) (cs : List Cabin) : State := cs.foldl State.contribute s

/-! ### The over flag (R53) -/

/-- Over: the occupied berths exceed a capacity above 0. -/
def Station.isOver (st : Station) : Bool :=
  decide (0 < st.capacity) && decide (st.capacity < st.occupied)

/-- What the judgement of the over flag reads. -/
def State.berthsAndCapacity (s : State) (t : Nat) : Option (Nat × Nat) :=
  (s.stationAt t).map fun st => (st.occupied, st.capacity)

/-- The stations whose occupied berths or capacity differ from those of an earlier state. -/
def State.toJudge (s before : State) : List Nat :=
  (s.target.targets.map (·.1)).filter fun t => decide (s.berthsAndCapacity t ≠ before.berthsAndCapacity t)

/-- Judges the over flag of each station whose occupied berths or capacity changed in the event, and
raises STATION_OVER if a flag went from clear to set (R53). -/
def State.judgeOver (s before : State) : State :=
  let judged := (s.toJudge before).foldl (fun s t =>
    s.modStation t fun st => { st with overFlag := st.isOver }) s
  if (s.toJudge before).any fun t =>
      (s.stationAt t).any fun st => !st.overFlag && st.isOver then
    judged.raiseNotice .stationOver
  else judged

/-- Every over flag is judged without a notice (R58). -/
def State.rejudgeAll (s : State) : State :=
  { s with target := { s.target with
      targets := Table.mapAll s.target.targets fun x =>
        { x with station := x.station.map fun st => { st with overFlag := st.isOver } } } }

/-! ### Stations by letter -/

/-- The live station, in any other slot, that holds a letter (R46, check 4). -/
def State.holderOfLetter (s : State) (letter except : Nat) : Option Nat :=
  (s.target.targets.find? fun r =>
    decide (r.1 ≠ except) && r.2.station.any fun st => decide (st.letter = letter)).map (·.1)

/-- The live stations in ascending target id. -/
def State.stations (s : State) : List (Nat × Station) :=
  s.target.targets.filterMap fun r => r.2.station.map fun st => (r.1, st)

end Sys2Proof.Machine
end

