-- ==== Sys2Proof/Machine/CabinTable.lean ====
section
/-! DEFINITION. The Cabin Table's own operations (04): its indexes, plate faces, the content
generation and the placing of plates for delivery, the service list and the sweeps. -/

namespace Sys2Proof.Machine

/-! ### Indexes (R59) -/

/-- The live cabin that holds a cabin number, with its slot. -/
def State.cabinByNumber (s : State) (n : CabinNumber) : Option (Nat × Cabin) :=
  Table.find s.cabin.cabins fun c => decide (c.number = n)

/-- The live cabin that holds a plate address, with its slot. -/
def State.cabinByPlate (s : State) (p : PlateAddress) : Option (Nat × Cabin) :=
  Table.find s.cabin.cabins fun c => decide (c.plate = some p)

/-- Whether one cabin number comes before another: by deck and then by number. -/
def CabinNumber.before (a b : CabinNumber) : Bool :=
  decide (a.deck < b.deck) || (decide (a.deck = b.deck) && decide (a.number < b.number))

/-- Cabins with their slots in ascending cabin number. -/
def inNumberOrder (cs : List (Nat × Cabin)) : List (Nat × Cabin) :=
  sortBy (fun a b => a.2.number.before b.2.number) cs

/-! ### Plate update queues (R68, R91) -/

/-- A cabin joins the tail of one class of a trunk. -/
def Trunk.joinTail (t : Trunk) (c : QueueClass) (slot : Nat) : Trunk :=
  match c with
  | .urgent => { t with urgent := t.urgent ++ [slot] }
  | .ordinary => { t with ordinary := t.ordinary ++ [slot] }

/-- A cabin joins the head of one class of a trunk. -/
def Trunk.joinHead (t : Trunk) (c : QueueClass) (slot : Nat) : Trunk :=
  match c with
  | .urgent => { t with urgent := slot :: t.urgent }
  | .ordinary => { t with ordinary := slot :: t.ordinary }

/-- A cabin leaves the queues of a trunk from wherever it stands. -/
def Trunk.leave (t : Trunk) (slot : Nat) : Trunk :=
  { t with urgent := t.urgent.filter fun x => decide (x ≠ slot)
           ordinary := t.ordinary.filter fun x => decide (x ≠ slot) }

/-- The write in flight for a cabin is detached from it (R64). -/
def Trunk.detach (t : Trunk) (slot : Nat) : Trunk :=
  match t.work with
  | some (.write (some c) a f k) => if c = slot then { t with work := some (.write none a f k) } else t
  | some (.write none _ _ _) => t
  | some (.broadcast _) => t
  | some (.survey _ _) => t
  | none => t

/-- Whether a trunk's work in flight is a write for a cabin. -/
def Trunk.writing (t : Trunk) (slot : Nat) : Bool :=
  match t.work with
  | some (.write (some c) _ _ _) => decide (c = slot)
  | some (.write none _ _ _) => false
  | some (.broadcast _) => false
  | some (.survey _ _) => false
  | none => false

/-- A cabin joins the tail of its trunk's queue in the class of the moment (R68). -/
def State.joinPlateQueue (s : State) (slot : Nat) : State :=
  match (s.cabinAt slot).bind (·.plate) with
  | none => s
  | some p => s.modTrunk p.trunk fun t => t.joinTail s.plateClassNow slot

/-- A cabin leaves its trunk's queue, and a write in flight for it is detached (R64, R65). -/
def State.leavePlate (s : State) (slot : Nat) : State :=
  match (s.cabinAt slot).bind (·.plate) with
  | none => s
  | some p => s.modTrunk p.trunk fun t => (t.leave slot).detach slot

/-- A plate becomes PENDING with retries 0 and joins its trunk's queue. -/
def State.owePlate (s : State) (slot : Nat) : State :=
  (s.modCabin slot fun c => { c with plateState := .pending, retries := 0 }).joinPlateQueue slot

/-! ### Faces (R67, R68) -/

/-- The face of a cabin as it is composed now (R67). -/
def State.faceOf (s : State) (c : Cabin) : Face :=
  { label := if c.occupancy = .vacant then [] else c.label
    privacy := c.privacy
    letter := s.letterOf c
    message := c.message.getD 0
    language := c.language
    occupancy := c.occupancy
    mode := s.musterNow.plateMode
    gen := c.contentGen }

/-- A plate is placed for delivery according to its plate state (R68). -/
def State.placePlate (s : State) (slot : Nat) : State :=
  match s.cabinAt slot with
  | none => s
  | some c =>
    match c.plateState with
    | .noPlate => s
    | .current => s.owePlate slot
    | .pending => s
    | .failed => s.owePlate slot

/-- A cabin's content generation is raised by one. -/
def State.raiseContent (s : State) (slot : Nat) : State :=
  s.modCabin slot fun c => { c with contentGen := raise c.contentGen }

/-- What a cabin's face should show has changed (R68). -/
def State.faceChanged (s : State) (slot : Nat) : State := (s.raiseContent slot).placePlate slot

/-- The faces of several cabins have changed; they are taken in ascending cabin number. -/
def State.facesChanged (s : State) (cs : List (Nat × Cabin)) : State :=
  (inNumberOrder cs).foldl (fun s r => s.faceChanged r.1) s

/-- A FAILED plate is revived: it becomes PENDING with retries 0 and is queued (R70, R104). -/
def State.revive (s : State) (slot : Nat) : State :=
  match s.cabinAt slot with
  | none => s
  | some c => if c.plateState = .failed then s.owePlate slot else s

/-! ### The service list (R71) -/

/-- A cabin leaves the service list from wherever it stands. -/
def State.leaveService (s : State) (slot : Nat) : State :=
  { s with cabin := { s.cabin with service := s.cabin.service.filter fun x => decide (x ≠ slot) } }

/-- A cabin joins the service list at the tail. -/
def State.joinService (s : State) (slot : Nat) : State :=
  { s with cabin := { s.cabin with service := s.cabin.service ++ [slot] } }

/-! ### Sweeps (R78) -/

/-- A muster entry from NORMAL makes every cabin UNSWEPT and every swept tally 0. -/
def State.clearSweeps (s : State) : State :=
  { s with
    cabin := { s.cabin with
      cabins := Table.mapAll s.cabin.cabins fun c => { c with swept := false, sweptBy := none } }
    target := { s.target with
      targets := Table.mapAll s.target.targets fun x =>
        { x with station := x.station.map fun st => { st with swept := 0 } } } }

/-- The Cabin Table takes a muster transition; the muster state is the new one already (R78). -/
def State.cabinsTakeTransition (s : State) (old : MusterState) : State :=
  if decide (old = .normal) && s.musterNow.proper then s.clearSweeps else s

/-! ### Blocking (R55, R47) -/

/-- The live cabins whose effective station differs between two states, as they stand in the later. -/
def State.reassigned (s before : State) : List (Nat × Cabin) :=
  s.cabin.cabins.filter fun r => decide (s.effective r.2 ≠ before.effective r.2)

/-- The live cabins whose effective station is a target. -/
def State.assignedTo (s : State) (t : Nat) : List (Nat × Cabin) :=
  s.cabin.cabins.filter fun r => decide (s.effective r.2 = some t)

/-- The blocked flag of a station changes: flag, affected cabins, tallies, over flags and plates, in
that order (R55, steps 1 to 5). -/
def State.setBlocked (s : State) (t : Nat) (blocked : Bool) : State :=
  let flagged := s.modStation t fun st => { st with blocked }
  let affected := flagged.reassigned s
  let cs := affected.map (·.2)
  let taken := s.withdrawAll cs
  let given := (taken.modStation t fun st => { st with blocked }).contributeAll cs
  (given.judgeOver s).facesChanged affected

end Sys2Proof.Machine
end

