-- ==== Sys2Proof/Machine/Operands.lean ====
section
/-! DEFINITION. The codes of chapter 10 (R188), the bodies of requests as raw fields (10 sections 10.3
and 10.6, R190), and the field encoders of answers. A parser answers `none` when the body length does
not match the layout (R173, check 5). -/

namespace Sys2Proof.Machine

/-! ### Codes of the enumerations (10 section 10.1) -/

def Direction.code : Direction → Nat
  | .fore => 0
  | .foreStbd => 1
  | .starboard => 2
  | .aftStbd => 3
  | .aft => 4
  | .aftPort => 5
  | .port => 6
  | .forePort => 7
  | .up => 8
  | .down => 9

def Direction.ofCode : Nat → Option Direction
  | 0 => some .fore
  | 1 => some .foreStbd
  | 2 => some .starboard
  | 3 => some .aftStbd
  | 4 => some .aft
  | 5 => some .aftPort
  | 6 => some .port
  | 7 => some .forePort
  | 8 => some .up
  | 9 => some .down
  | _ => none

def Facing.code : Facing → Nat
  | .fore => 0
  | .starboard => 2
  | .aft => 4
  | .port => 6

def Facing.ofCode : Nat → Option Facing
  | 0 => some .fore
  | 2 => some .starboard
  | 4 => some .aft
  | 6 => some .port
  | _ => none

def Arrow.code : Arrow → Nat
  | .ahead => 0
  | .aheadRight => 1
  | .right => 2
  | .behindRight => 3
  | .behind => 4
  | .behindLeft => 5
  | .left => 6
  | .aheadLeft => 7
  | .up => 8
  | .down => 9
  | .here => 10

def EdgeKind.code : EdgeKind → Nat
  | .walk => 0
  | .stair => 1
  | .lift => 2

def EdgeKind.ofCode : Nat → Option EdgeKind
  | 0 => some .walk
  | 1 => some .stair
  | 2 => some .lift
  | _ => none

def Passability.ofCode : Nat → Option Passability
  | 0 => some .opened
  | 1 => some .closed
  | _ => none

def Profile.ofCode : Nat → Option Profile
  | 0 => some .general
  | 1 => some .stepFree
  | _ => none

def AnswerKind.code : AnswerKind → Nat
  | .route => 0
  | .provisional => 1
  | .here => 2
  | .noRoute => 3
  | .hold => 4

def MapState.code : MapState → Nat
  | .empty => 0
  | .stale => 1
  | .building => 2
  | .current => 3

def QueueClass.code : QueueClass → Nat
  | .urgent => 0
  | .ordinary => 1

def Occupancy.code : Occupancy → Nat
  | .vacant => 0
  | .occupied => 1

def Occupancy.ofCode : Nat → Option Occupancy
  | 0 => some .vacant
  | 1 => some .occupied
  | _ => none

def Privacy.code : Privacy → Nat
  | .unasked => 0
  | .doNotDisturb => 1
  | .makeUpRoom => 2

def Privacy.ofCode : Nat → Option Privacy
  | 0 => some .unasked
  | 1 => some .doNotDisturb
  | 2 => some .makeUpRoom
  | _ => none

def PlateState.code : PlateState → Nat
  | .noPlate => 0
  | .pending => 1
  | .current => 2
  | .failed => 3

def PlateMode.code : PlateMode → Nat
  | .normal => 0
  | .drill => 1
  | .alarm => 2

/-- A believed mode: UNKNOWN is 3. -/
def believedCode : Option PlateMode → Nat
  | some m => m.code
  | none => 3

def TrunkState.code : TrunkState → Nat
  | .disabled => 0
  | .settling => 1
  | .idle => 2
  | .talking => 3
  | .held => 4
  | .listening => 5
  | .recovering => 6
  | .fault => 7

def Fill.code : Fill → Nat
  | .vacancies => 0
  | .filling => 1
  | .full => 2

def Fill.ofCode : Nat → Option Fill
  | 0 => some .vacancies
  | 1 => some .filling
  | 2 => some .full
  | _ => none

def EntryState.code : EntryState → Nat
  | .scheduled => 0
  | .running => 1
  | .suspended => 2
  | .ended => 3
  | .cancelled => 4

def Scope.code : Scope → Nat
  | .nothing => 0
  | .all => 1
  | .deck => 2
  | .zone => 3

def Scope.ofCode : Nat → Option Scope
  | 0 => some .nothing
  | 1 => some .all
  | 2 => some .deck
  | 3 => some .zone
  | _ => none

def Policy.code : Policy → Nat
  | .off => 0
  | .once => 1
  | .refreshed => 2

def Policy.ofCode : Nat → Option Policy
  | 0 => some .off
  | 1 => some .once
  | 2 => some .refreshed
  | _ => none

def AttachState.code : AttachState → Nat
  | .absent => 0
  | .present => 1
  | .lost => 2

def PanelClass.code : PanelClass → Nat
  | .small => 0
  | .medium => 1
  | .large => 2

def PanelClass.ofCode : Nat → Option PanelClass
  | 0 => some .small
  | 1 => some .medium
  | 2 => some .large
  | _ => none

def SlotKind.code : SlotKind → Nat
  | .route => 0
  | .programme => 1
  | .notice => 2
  | .muster => 3

def MusterState.code : MusterState → Nat
  | .normal => 0
  | .drill => 1
  | .alarm => 2
  | .standDown => 3

def MusterKind.code : MusterKind → Nat
  | .nothing => 0
  | .drill => 1
  | .alarm => 2

def LastCause.code : LastCause → Nat
  | .nothing => 0
  | .request => 1
  | .alarmIn => 2
  | .drillLimit => 3
  | .completion => 4

def TableName.code : TableName → Nat
  | .node => 0
  | .edge => 1
  | .target => 2
  | .cabin => 3
  | .entry => 4
  | .screen => 5

def TableName.ofCode : Nat → Option TableName
  | 0 => some .node
  | 1 => some .edge
  | 2 => some .target
  | 3 => some .cabin
  | 4 => some .entry
  | 5 => some .screen
  | _ => none

def LoadEnding.code : LoadEnding → Nat
  | .nothing => 0
  | .inProgress => 1
  | .completed => 2
  | .aborted => 3
  | .restarted => 4

def ResetCause.code : ResetCause → Nat
  | .powerOn => 0
  | .pin => 1
  | .warm => 2

/-- The result codes (10 section 10.2). -/
def Result.code : Result → Nat
  | .done => 0x00
  | .notFound => 0x01
  | .exists_ => 0x02
  | .full => 0x03
  | .degree => 0x04
  | .inUse => 0x05
  | .badField => 0x06
  | .refusedState => 0x07
  | .busy => 0x08
  | .badFrame => 0x09
  | .unknownRequest => 0x0A
  | .end_ => 0x0B
  | .empty => 0x0C
  | .noAnswer => 0x0D

/-- The outcomes of DONE answers. -/
inductive Outcome where
  | created | amended | unchanged | changed | retired | cancelled
  deriving DecidableEq, Repr

def Outcome.code : Outcome → Nat
  | .created => 0
  | .amended => 1
  | .unchanged => 2
  | .changed => 3
  | .retired => 4
  | .cancelled => 5

/-- The causes that refusals name (10 section 10.2, after R189). -/
inductive Cause where
  | length | check | vacant | station | node | plate | number | anchor | kind | target | list | times
  | past | venue | alarm | alarmIn | normal | loading | ended
  deriving DecidableEq, Repr

def Cause.code : Cause → Nat
  | .length => 0
  | .check => 1
  | .vacant => 2
  | .station => 3
  | .node => 4
  | .plate => 5
  | .number => 6
  | .anchor => 7
  | .kind => 8
  | .target => 9
  | .list => 10
  | .times => 11
  | .past => 12
  | .venue => 13
  | .alarm => 14
  | .alarmIn => 15
  | .normal => 16
  | .loading => 17
  | .ended => 18

/-! ### Fields of answers (10 section 10.1) -/

/-- A yes-or-no figure. -/
def yesNo (b : Bool) : List Byte := u8 (if b then 1 else 0)

/-- A node or edge id, NONE as 0xFFFF. -/
def optId (x : Option Nat) : List Byte := u16 (x.getD 0xFFFF)

/-- A one-byte field whose absence is sent as 0xFF: target ids, letters, leave directions, arrows. -/
def optByte (x : Option Nat) : List Byte := u8 (x.getD 0xFF)

/-- A catalogue number, absent as 0. -/
def optCatalogue (x : Option Nat) : List Byte := u16 (x.getD 0)

/-- A ship minute, UNSET as 0xFFFFFF. -/
def optMinute (x : Option Nat) : List Byte := u24 (x.getD 0xFFFFFF)

/-- A plate address, absent as trunk 0xFF and address 0. -/
def optPlate : Option PlateAddress → List Byte
  | none => [0xFF#8, 0#8]
  | some p => u8 p.trunk.val ++ u8 p.address

/-- A two-byte value behind its presence byte. The value bytes of an absent one are free (log 6). -/
def presence (fresh pos : Nat) : Option Word16 → List Byte
  | some w => [1#8] ++ u16 w.toNat
  | none => [0#8, Config.freeByte fresh pos, Config.freeByte fresh (pos + 1)]

/-- A label: its length, then its characters. -/
def labelBytes (l : List Word16) : List Byte := u8 l.length ++ l.flatMap fun c => u16 c.toNat

/-! ### Answers of the owning blocks -/

/-- What the owning block answers: the result code and the body (R174). -/
structure Reply where
  result : Result
  body : List Byte
  deriving DecidableEq, Repr

/-- DONE with a body. -/
def Reply.done (body : List Byte) : Reply := { result := .done, body }

/-- A refusal whose rule names no cause. -/
def Reply.refuse (r : Result) : Reply := { result := r, body := [] }

/-- A refusal that carries a cause byte. -/
def Reply.because (r : Result) (c : Cause) : Reply := { result := r, body := u8 c.code }

/-! ### Readers -/

/-- Reads a 1-byte field. -/
def take8 : List Byte → Option (Nat × List Byte)
  | b :: r => some (b.toNat, r)
  | [] => none

/-- Reads a 2-byte field. -/
def take16 : List Byte → Option (Nat × List Byte)
  | h :: l :: r => some (rd16 h l, r)
  | _ => none

/-- Reads a 3-byte field. -/
def take24 : List Byte → Option (Nat × List Byte)
  | h :: m :: l :: r => some (rd24 h m l, r)
  | _ => none

/-- Reads `n` 1-byte fields. -/
def takeBytes : Nat → List Byte → Option (List Nat × List Byte)
  | 0, r => some ([], r)
  | _ + 1, [] => none
  | n + 1, b :: r => (takeBytes n r).map fun (xs, rest) => (b.toNat :: xs, rest)

/-- Reads `n` characters. -/
def takeChars : Nat → List Byte → Option (List Word16 × List Byte)
  | 0, r => some ([], r)
  | n + 1, h :: l :: r => (takeChars n r).map fun (xs, rest) => ((h ++ l) :: xs, rest)
  | _ + 1, _ => none

/-- Reads a label by its count byte. -/
def takeLabel : List Byte → Option (List Word16 × List Byte)
  | n :: r => takeChars n.toNat r
  | [] => none

/-- Reads a language map or a shown list by its count byte. -/
def takeList : List Byte → Option (List Nat × List Byte)
  | n :: r => takeBytes n.toNat r
  | [] => none

/-- Reads a plate address: the trunk byte and the address byte. -/
def takePlate : List Byte → Option ((Nat × Nat) × List Byte)
  | t :: a :: r => some ((t.toNat, a.toNat), r)
  | _ => none

/-- Reads a field only if its mask bit is 1 (R190). -/
def takeIf {α : Type} (named : Bool) (take : List Byte → Option (α × List Byte)) (b : List Byte) :
    Option (Option α × List Byte) :=
  if named then (take b).map fun (x, r) => (some x, r) else some (none, b)

/-- The whole body has been read. -/
def whole {α : Type} : Option (α × List Byte) → Option α
  | some (x, []) => some x
  | _ => none

/-! ### Bodies of fixed length -/

/-- An empty body. -/
def body0 : List Byte → Option Unit
  | [] => some ()
  | _ => none

/-- One 1-byte field. -/
def body1 : List Byte → Option Nat
  | [a] => some a.toNat
  | _ => none

/-- One 2-byte field. -/
def body2 : List Byte → Option Nat
  | [h, l] => some (rd16 h l)
  | _ => none

/-- A 2-byte field, then a 1-byte field. -/
def body21 : List Byte → Option (Nat × Nat)
  | [h, l, a] => some (rd16 h l, a.toNat)
  | _ => none

/-- A 1-byte field, then a 2-byte field. -/
def body12 : List Byte → Option (Nat × Nat)
  | [a, h, l] => some (a.toNat, rd16 h l)
  | _ => none

/-- Two 1-byte fields. -/
def body11 : List Byte → Option (Nat × Nat)
  | [a, b] => some (a.toNat, b.toNat)
  | _ => none

/-- A 3-byte field, then a 1-byte field. -/
def body31 : List Byte → Option (Nat × Nat)
  | [h, m, l, a] => some (rd24 h m l, a.toNat)
  | _ => none

structure NodeBody where
  id : Nat
  deck : Nat
  zone : Nat
  deriving DecidableEq, Repr

def parseNode : List Byte → Option NodeBody
  | [i1, i0, d, z] => some { id := rd16 i1 i0, deck := d.toNat, zone := z.toNat }
  | _ => none

structure EdgeBody where
  id : Nat
  endA : Nat
  endB : Nat
  length : Nat
  kind : Nat
  leaveA : Nat
  leaveB : Nat
  flags : Nat
  deriving DecidableEq, Repr

def parseEdge : List Byte → Option EdgeBody
  | [i1, i0, a1, a0, b1, b0, l1, l0, k, la, lb, f] =>
    some { id := rd16 i1 i0, endA := rd16 a1 a0, endB := rd16 b1 b0, length := rd16 l1 l0,
           kind := k.toNat, leaveA := la.toNat, leaveB := lb.toNat, flags := f.toNat }
  | _ => none

structure RouteAskBody where
  origin : Nat
  target : Nat
  profile : Nat
  trace : Nat
  facing : Nat
  deriving DecidableEq, Repr

def parseRouteAsk : List Byte → Option RouteAskBody
  | [f1, f0, t, p, tr, fc] =>
    some { origin := rd16 f1 f0, target := t.toNat, profile := p.toNat, trace := tr.toNat,
           facing := fc.toNat }
  | _ => none

structure TargetBody where
  id : Nat
  kind : Nat
  anchor : Nat
  label : Nat
  letter : Nat
  capacity : Nat
  deriving DecidableEq, Repr

def parseTarget : List Byte → Option TargetBody
  | [i, k, a1, a0, l1, l0, lt, c1, c0] =>
    some { id := i.toNat, kind := k.toNat, anchor := rd16 a1 a0, label := rd16 l1 l0,
           letter := lt.toNat, capacity := rd16 c1 c0 }
  | _ => none

structure EntryBody where
  id : Nat
  start : Nat
  finish : Nat
  venue : Nat
  title : Nat
  category : Nat
  fill : Nat
  deriving DecidableEq, Repr

def parseEntry : List Byte → Option EntryBody
  | [i1, i0, s2, s1, s0, e2, e1, e0, v, t1, t0, c, f] =>
    some { id := rd16 i1 i0, start := rd24 s2 s1 s0, finish := rd24 e2 e1 e0, venue := v.toNat,
           title := rd16 t1 t0, category := c.toNat, fill := f.toNat }
  | _ => none

/-- CABIN_GET: selector, then three bytes that the selector reads. -/
structure CabinGetBody where
  selector : Nat
  first : Nat
  second : Nat
  third : Nat
  deriving DecidableEq, Repr

def parseCabinGet : List Byte → Option CabinGetBody
  | [s, a, b, c] => some { selector := s.toNat, first := a.toNat, second := b.toNat, third := c.toNat }
  | _ => none

structure NoticeSetBody where
  reach : Nat
  link : Nat
  address : Nat
  deck : Nat
  notice : Nat
  policy : Nat
  deriving DecidableEq, Repr

def parseNoticeSet : List Byte → Option NoticeSetBody
  | [r, l, a, d, n1, n0, p] =>
    some { reach := r.toNat, link := l.toNat, address := a.toNat, deck := d.toNat,
           notice := rd16 n1 n0, policy := p.toNat }
  | _ => none

/-! ### Bodies of variable length -/

structure CabinBody where
  deck : Nat
  number : Nat
  doorNode : Nat
  plate : Nat × Nat
  berths : Nat
  occupancy : Nat
  privacy : Nat
  language : Nat
  message : Nat
  primary : Nat
  alternate : Nat
  label : List Word16
  deriving DecidableEq, Repr

def parseCabin (b : List Byte) : Option CabinBody := do
  let (deck, b) ← take8 b
  let (number, b) ← take16 b
  let (doorNode, b) ← take16 b
  let (plate, b) ← takePlate b
  let (berths, b) ← take8 b
  let (occupancy, b) ← take8 b
  let (privacy, b) ← take8 b
  let (language, b) ← take8 b
  let (message, b) ← take16 b
  let (primary, b) ← take8 b
  let (alternate, b) ← take8 b
  let label ← whole (takeLabel b)
  some { deck, number, doorNode, plate, berths, occupancy, privacy, language, message, primary,
         alternate, label }

structure ScreenBody where
  link : Nat
  address : Nat
  node : Nat
  facing : Nat
  flags : Nat
  scope : Nat
  override : Nat
  notice : Nat
  policies : Nat
  languages : List Nat
  shown : List Nat
  deriving DecidableEq, Repr

def parseScreen (b : List Byte) : Option ScreenBody := do
  let (link, b) ← take8 b
  let (address, b) ← take8 b
  let (node, b) ← take16 b
  let (facing, b) ← take8 b
  let (flags, b) ← take8 b
  let (scope, b) ← take8 b
  let (override, b) ← take8 b
  let (notice, b) ← take16 b
  let (policies, b) ← take8 b
  let (languages, b) ← takeList b
  let shown ← whole (takeList b)
  some { link, address, node, facing, flags, scope, override, notice, policies, languages, shown }

/-- CABIN_AMEND (R190): the key, the mask and the fields named. -/
structure CabinAmendBody where
  deck : Nat
  number : Nat
  mask : Nat
  doorNode : Option Nat
  plate : Option (Nat × Nat)
  berths : Option Nat
  occupancy : Option Nat
  label : Option (List Word16)
  language : Option Nat
  message : Option Nat
  primary : Option Nat
  alternate : Option Nat
  privacy : Option Nat
  service : Option Nat
  deriving DecidableEq, Repr

def parseCabinAmend (b : List Byte) : Option CabinAmendBody := do
  let (deck, b) ← take8 b
  let (number, b) ← take16 b
  let (mask, b) ← take16 b
  let (doorNode, b) ← takeIf (mask.testBit 0) take16 b
  let (plate, b) ← takeIf (mask.testBit 1) takePlate b
  let (berths, b) ← takeIf (mask.testBit 2) take8 b
  let (occupancy, b) ← takeIf (mask.testBit 3) take8 b
  let (label, b) ← takeIf (mask.testBit 4) takeLabel b
  let (language, b) ← takeIf (mask.testBit 5) take8 b
  let (message, b) ← takeIf (mask.testBit 6) take16 b
  let (primary, b) ← takeIf (mask.testBit 7) take8 b
  let (alternate, b) ← takeIf (mask.testBit 8) take8 b
  let (privacy, b) ← takeIf (mask.testBit 9) take8 b
  let service ← whole (takeIf (mask.testBit 10) take8 b)
  some { deck, number, mask, doorNode, plate, berths, occupancy, label, language, message, primary,
         alternate, privacy, service }

/-- EVENT_AMEND (R190). -/
structure EntryAmendBody where
  id : Nat
  mask : Nat
  start : Option Nat
  finish : Option Nat
  venue : Option Nat
  title : Option Nat
  category : Option Nat
  fill : Option Nat
  moved : Option Nat
  deriving DecidableEq, Repr

def parseEntryAmend (b : List Byte) : Option EntryAmendBody := do
  let (id, b) ← take16 b
  let (mask, b) ← take16 b
  let (start, b) ← takeIf (mask.testBit 0) take24 b
  let (finish, b) ← takeIf (mask.testBit 1) take24 b
  let (venue, b) ← takeIf (mask.testBit 2) take8 b
  let (title, b) ← takeIf (mask.testBit 3) take16 b
  let (category, b) ← takeIf (mask.testBit 4) take8 b
  let (fill, b) ← takeIf (mask.testBit 5) take8 b
  let moved ← whole (takeIf (mask.testBit 6) take8 b)
  some { id, mask, start, finish, venue, title, category, fill, moved }

/-- SCREEN_AMEND (R190). -/
structure ScreenAmendBody where
  link : Nat
  address : Nat
  mask : Nat
  node : Option Nat
  facing : Option Nat
  flags : Option Nat
  scope : Option Nat
  override : Option Nat
  notice : Option Nat
  policies : Option Nat
  languages : Option (List Nat)
  shown : Option (List Nat)
  deriving DecidableEq, Repr

def parseScreenAmend (b : List Byte) : Option ScreenAmendBody := do
  let (link, b) ← take8 b
  let (address, b) ← take8 b
  let (mask, b) ← take16 b
  let (node, b) ← takeIf (mask.testBit 0) take16 b
  let (facing, b) ← takeIf (mask.testBit 1) take8 b
  let (flags, b) ← takeIf (mask.testBit 2) take8 b
  let (scope, b) ← takeIf (mask.testBit 3) take8 b
  let (override, b) ← takeIf (mask.testBit 4) take8 b
  let (notice, b) ← takeIf (mask.testBit 5) take16 b
  let (policies, b) ← takeIf (mask.testBit 6) take8 b
  let (languages, b) ← takeIf (mask.testBit 7) takeList b
  let shown ← whole (takeIf (mask.testBit 8) takeList b)
  some { link, address, mask, node, facing, flags, scope, override, notice, policies, languages,
         shown }

/-- The size in bytes of the setting with a code (10 section 10.6). -/
def settingSize : Nat → Nat
  | 0 => 1
  | 8 => 1
  | 10 => 1
  | _ => 2

/-- The setting codes in ascending order. -/
def settingCodes : List Nat := [0, 1, 2, 3, 4, 5, 6, 7, 8, 9, 10, 11]

/-- CONFIG_SET: the settings mask and the code and value of each setting given, in ascending code. -/
structure ConfigBody where
  mask : Nat
  values : List (Nat × Nat)
  deriving DecidableEq, Repr

/-- Reads the settings of a list of codes whose mask bit is 1. -/
def takeSettings (mask : Nat) : List Nat → List Byte → Option (List (Nat × Nat) × List Byte)
  | [], b => some ([], b)
  | c :: cs, b =>
    if mask.testBit c then do
      let (v, b) ← if settingSize c = 1 then take8 b else take16 b
      let (vs, b) ← takeSettings mask cs b
      some ((c, v) :: vs, b)
    else takeSettings mask cs b

def parseConfig (b : List Byte) : Option ConfigBody := do
  let (mask, b) ← take16 b
  let values ← whole (takeSettings mask settingCodes b)
  some { mask, values }

/-! ### Fields that a body may give as absent -/

/-- A plate address in range: absent, or a trunk 0 to 15 with an address 1 to 250. The outer absence
is a value out of range. -/
def plateOfRaw (p : Nat × Nat) : Option (Option PlateAddress) :=
  if p = (0xFF, 0) then some none
  else if h : p.1 < 16 then
    if 1 ≤ p.2 ∧ p.2 ≤ Config.plateAddresses then some (some { trunk := ⟨p.1, h⟩, address := p.2 })
    else none
  else none

/-- An optional target id: 0xFF is absent. -/
def optTargetOfRaw (t : Nat) : Option (Option Nat) :=
  if t = 0xFF then some none else if t < Config.targetSlots then some (some t) else none

/-- An optional catalogue number: 0 is absent. -/
def optCatalogueOfRaw (n : Nat) : Option Nat := if n = 0 then none else some n

/-- A character is a code from 0x0020 to 0xFFFD. -/
def charInRange (c : Word16) : Bool := decide (0x20 ≤ c.toNat) && decide (c.toNat ≤ 0xFFFD)

/-- A label has at most 24 characters, each in range. -/
def labelInRange (l : List Word16) : Bool := decide (l.length ≤ Config.maxLabel) && l.all charInRange

/-- A link number in range. -/
def linkOfRaw (l : Nat) : Option (Fin 4) := if h : l < 4 then some ⟨l, h⟩ else none

/-- A trunk number in range. -/
def trunkOfRaw (t : Nat) : Option (Fin 16) := if h : t < 16 then some ⟨t, h⟩ else none

end Sys2Proof.Machine
end

