-- ==== Sys2Proof/Machine/PlateBus.lean ====
section
/-! DEFINITION. The Plate Bus Controller's own operations (05): wires and timers, picking work, the
outcomes of writes, broadcasts and survey steps, enabling and disabling. -/

namespace Sys2Proof.Machine

/-! ### Wires and timers (R85, R86, R88) -/

/-- Both wires are high. -/
def Trunk.bothHigh (t : Trunk) : Bool := t.clockHigh && t.dataHigh

/-- The states in which the idle guard runs while both wires are high. -/
def TrunkState.guards : TrunkState → Bool
  | .settling => true
  | .listening => true
  | .disabled => false
  | .idle => false
  | .talking => false
  | .held => false
  | .recovering => false
  | .fault => false

/-- The states in which the stuck timer runs while at least one wire is low. -/
def TrunkState.watches : TrunkState → Bool
  | .settling => true
  | .idle => true
  | .listening => true
  | .recovering => true
  | .disabled => false
  | .talking => false
  | .held => false
  | .fault => false

/-- A timer that runs exactly while a condition holds: it goes on if it runs, and starts if not. -/
def runWhile (c : Bool) (t : Timer) : Timer := if c then (if t.isSome then t else started) else stopped

/-- The idle guard and the stuck timer as state and wires now have them. -/
def Trunk.retime (t : Trunk) : Trunk :=
  { t with guardTimer := runWhile (t.state.guards && t.bothHigh) t.guardTimer
           stuckTimer := runWhile (t.state.watches && !t.bothHigh) t.stuckTimer }

/-- The trunk goes to a state other than HELD. -/
def Trunk.goTo (t : Trunk) (st : TrunkState) : Trunk :=
  ({ t with state := st, holdTimer := stopped } : Trunk).retime

/-- The wires stand at these levels. -/
def Trunk.wires (t : Trunk) (clockHigh dataHigh : Bool) : Trunk := { t with clockHigh, dataHigh }

/-- The work in flight ends and the trunk goes to a state. -/
def Trunk.endWork (t : Trunk) (st : TrunkState) : Trunk := ({ t with work := none } : Trunk).goTo st

/-- The part has sent its CLOSE, which leaves both wires high (R81): the work ends at IDLE. -/
def Trunk.close (t : Trunk) : Trunk := (t.wires true true).endWork .idle

/-- RECOVERING and FAULT are left for SETTLING when both wires are high (R87, R88). -/
def Trunk.wiresSeen (t : Trunk) : Trunk :=
  match t.state with
  | .recovering => if t.bothHigh then t.goTo .settling else t.retime
  | .fault => if t.bothHigh then ({ t with believed := none } : Trunk).goTo .settling else t.retime
  | .settling => t.retime
  | .idle => t.retime
  | .listening => t.retime
  | .disabled => t
  | .talking => t
  | .held => t

/-- A wire changes without an OPEN or a CLOSE. In TALKING the part drives the wires and sees its own
levels. In HELD the clock wire rising is the hold's release (R83). -/
def Trunk.wireChange (t : Trunk) (clockHigh dataHigh : Bool) : Trunk :=
  match t.state with
  | .talking => t
  | .held => if clockHigh then (t.wires true t.dataHigh).goTo .talking else t
  | .disabled => t.wires clockHigh dataHigh
  | .settling => (t.wires clockHigh dataHigh).wiresSeen
  | .idle => (t.wires clockHigh dataHigh).wiresSeen
  | .listening => (t.wires clockHigh dataHigh).wiresSeen
  | .recovering => (t.wires clockHigh dataHigh).wiresSeen
  | .fault => (t.wires clockHigh dataHigh).wiresSeen

/-- Another talker's OPEN: the data wire falls while the clock wire is high (R81, R86). -/
def Trunk.otherOpen (t : Trunk) : Trunk :=
  match t.state with
  | .talking => t
  | .held => t
  | .idle => (t.wires true false).goTo .listening
  | .settling => (t.wires true false).goTo .listening
  | .listening => (t.wires true false).wiresSeen
  | .recovering => (t.wires true false).wiresSeen
  | .fault => (t.wires true false).wiresSeen
  | .disabled => t.wires true false

/-- Another talker's CLOSE: the data wire rises while the clock wire is high (R81, R86). -/
def Trunk.otherClose (t : Trunk) : Trunk :=
  match t.state with
  | .talking => t
  | .held => t
  | .listening => (t.wires true true).goTo .idle
  | .idle => (t.wires true true).wiresSeen
  | .settling => (t.wires true true).wiresSeen
  | .recovering => (t.wires true true).wiresSeen
  | .fault => (t.wires true true).wiresSeen
  | .disabled => t.wires true true

/-! ### Broadcasts owed (R98) -/

/-- A trunk owes a broadcast: it is enabled and its believed mode is not the required one. -/
def Trunk.owes (t : Trunk) (m : MusterState) : Bool :=
  t.enabled && decide (t.believed ≠ some m.plateMode)

/-! ### Survey cursor (R102, R103) -/

/-- The address after one: 251 becomes 1. -/
def nextAddress (a : Nat) : Nat := if a < Config.plateAddresses then a + 1 else 1

/-- The plate addresses on a trunk of live cabins. -/
def State.addressesOn (s : State) (i : Fin 16) : List Nat :=
  s.cabin.cabins.filterMap fun r => r.2.plate.bind fun p => if p.trunk = i then some p.address else none

/-- The least of a list of addresses. -/
def leastAddress (l : List Nat) : Option Nat :=
  l.foldl (fun m a => match m with | none => some a | some b => some (min a b)) none

/-- The plate a survey step reads: the lowest at or above the cursor, else the lowest. -/
def State.surveyPlate (s : State) (i : Fin 16) : Option Nat :=
  let on := s.addressesOn i
  match leastAddress (on.filter fun a => decide ((s.trunk i).cursor ≤ a)) with
  | some a => some a
  | none => leastAddress on

/-! ### Picking work (R90, R92) -/

/-- The trunk takes a cabin from the head of a class and starts its write (R92). -/
def State.startWrite (s : State) (i : Fin 16) (slot : Nat) (k : QueueClass) : State :=
  match s.cabinAt slot with
  | none => s.modTrunk i fun t => t.leave slot
  | some c =>
    let address := (c.plate.map (·.address)).getD 0
    let face := s.faceOf c
    s.modTrunk i fun t =>
      ({ t.leave slot with work := some (.write (some slot) address face k) } : Trunk).goTo .talking

/-- The head of the ORDINARY queue, if there is one. -/
def State.pickOrdinary (s : State) (i : Fin 16) : State :=
  match (s.trunk i).ordinary with
  | [] => s
  | c :: _ => s.startWrite i c .ordinary

/-- A survey step, if it is due and room can be reserved; else the ORDINARY queue (R102). -/
def State.pickSurvey (s : State) (i : Fin 16) : State :=
  if (s.trunk i).surveyDue && decide (2 ≤ s.freeEntries) then
    match s.surveyPlate i with
    | some a => s.modTrunk i fun t => ({ t with work := some (.survey a false) } : Trunk).goTo .talking
    | none => (s.modTrunk i fun t => { t with surveyDue := false }).pickOrdinary i
  else s.pickOrdinary i

/-- A trunk that is IDLE with both wires high takes the first work that applies (R90). -/
def State.pick (s : State) (i : Fin 16) : State :=
  let t := s.trunk i
  if t.state = .idle ∧ t.bothHigh = true then
    if t.owes s.musterNow then
      s.modTrunk i fun t =>
        ({ t with work := some (.broadcast s.musterNow.plateMode) } : Trunk).goTo .talking
    else match t.urgent with
      | c :: _ => s.startWrite i c .urgent
      | [] => s.pickSurvey i
  else s

/-- Every trunk picks at the end of an event. DESIGN CHOICE (log 38), unsafe: in ascending trunk number. -/
def State.pickAll (s : State) : State := allTrunks.foldl State.pick s

/-! ### Outcomes of writes (R93, R94, R96, R97) -/

/-- A write of a face of generation `g` completed for a cabin (R93). -/
def State.writeDone (s : State) (slot : Nat) (g : Gen) : State :=
  let s := s.modCabin slot fun c => { c with deliveredGen := g, retries := 0 }
  match s.cabinAt slot with
  | none => s
  | some c =>
    if c.contentGen = g then s.modCabin slot fun c => { c with plateState := .current }
    else s.joinPlateQueue slot

/-- A write for a cabin failed (R94). -/
def State.writeFailed (s : State) (slot : Nat) : State :=
  let s := s.modCabin slot fun c => { c with retries := c.retries + 1 }
  match s.cabinAt slot with
  | none => s
  | some c =>
    if c.retries < Config.retryLimit then s.joinPlateQueue slot
    else (s.modCabin slot fun c => { c with plateState := .failed }).raiseNotice .plateFailed

/-- A write that was lost or abandoned by a disable is returned to the head of its class (R96). -/
def Trunk.returnWrite (t : Trunk) : Trunk :=
  match t.work with
  | some (.write (some c) _ _ k) => t.joinHead k c
  | some (.write none _ _ _) => t
  | some (.broadcast _) => t
  | some (.survey _ _) => t
  | none => t

/-! ### Surveys (R103, R104, R191) -/

/-- A plate that ACCEPTed its address revives the FAILED cabin the index names (R104). -/
def State.surveyRevives (s : State) (i : Fin 16) (address : Nat) : State :=
  match s.cabinByPlate { trunk := i, address } with
  | none => s
  | some (slot, _) => s.revive slot

/-- What the part makes of a news byte (R191). -/
inductive News where
  /-- The empty item. -/
  | empty
  /-- An ill-formed item. -/
  | illFormed (more : Bool)
  /-- The plate stopped before the second tag byte of a SWEEP_CLEAR. -/
  | cutShort
  /-- A report. -/
  | report (parts : List ReportPart) (more : Bool)
  deriving DecidableEq, Repr

/-- The report of an item of kinds 1 to 4 without a reserved bit. -/
def wellFormedNews (kind value : Nat) (tag : List Byte) (more : Bool) : News :=
  match kind with
  | 1 =>
    match Privacy.ofCode value with
    | some v => .report [.privacy v] more
    | none => .illFormed more
  | 2 => .report [.serviceCall] more
  | 3 =>
    match tag with
    | hi :: lo :: _ => .report [.sweepClear, .crewTag (hi ++ lo)] more
    | _ => .cutShort
  | 4 => .report [.toolWrite] more
  | _ => .illFormed more

/-- Decodes a news byte and the bytes of crew tag behind it (R191). DESIGN CHOICE, safe: two bytes that the
rule names in two of its cases fall under either, kind 0 with a reserved bit (log 32) and kind 3 with a
reserved bit and its tag cut short (log 34). -/
def decodeNews (item : Byte) (tag : List Byte) : News :=
  let kind := item.toNat / 32
  let more := item.getLsbD 4
  let reserved := item.getLsbD 3 || item.getLsbD 2
  if kind = 0 then
    if reserved && Config.reservedSpoilsEmpty then .illFormed more else .empty
  else if reserved then
    if kind = 3 ∧ tag.length < 2 ∧ Config.reservedSpoilsCutShort = false then .cutShort
    else .illFormed more
  else wellFormedNews kind (item.toNat % 4) tag more

/-- Whether the plate is revived at a step's end, when it had not ACCEPTed its address before. -/
def endAccepts : SurveyEnd → Bool
  | .refusedAddress => false
  | .refusedCommand => Config.commandRefuseRevives
  | .news _ _ => true

/-- How many bytes the part gives ACCEPT in the answer slot behind them: the news byte and each byte of crew
tag that it receives, whatever it decodes (R191). The missing bytes of a tag cut short have no slot. -/
def newsAcceptsOf : SurveyEnd → Nat
  | .refusedAddress => 0
  | .refusedCommand => 0
  | .news _ tag => 1 + tag.length

/-- The report and the cursor that a step's end leaves, for the address read (R103, R191). -/
def surveyResult (address : Nat) : SurveyEnd → List ReportPart × Nat
  | .refusedAddress => ([], nextAddress address)
  | .refusedCommand => ([], nextAddress address)
  | .news item tag =>
    match decodeNews item tag with
    | .empty => ([], nextAddress address)
    | .illFormed more => ([], if more then address else nextAddress address)
    | .cutShort => ([], nextAddress address)
    | .report parts more => (parts, if more then address else nextAddress address)

/-- A report joins the tail of the Inbound Report Queue (R105). -/
def State.addReport (s : State) (i : Fin 16) (address : Nat) (parts : List ReportPart) : State :=
  { s with plate := { s.plate with
      inbound := s.plate.inbound ++ parts.map fun part => { trunk := i, address, part } } }

/-- A survey step ends, but not by arbitration or a disable: its reservation goes with the work,
survey-due is cleared and the cursor moves (R103). -/
def Trunk.surveyEnded (t : Trunk) (cursor : Nat) : Trunk := { t with cursor, surveyDue := false }

/-- A survey step ends in one of the ways of R103 that end at IDLE. -/
def State.endSurveyStep (s : State) (i : Fin 16) (address : Nat) (accepted : Bool) (how : SurveyEnd) :
    State :=
  let (parts, cursor) := surveyResult address how
  let s := (s.modTrunk i fun t =>
    ({ t.surveyEnded cursor with newsAccepts := newsAcceptsOf how } : Trunk).close).addReport i address parts
  if accepted || endAccepts how then s.surveyRevives i address else s

/-! ### Holds (R83, R87) -/

/-- A plate holds: the trunk goes to HELD and its hold timer starts. -/
def Trunk.held (t : Trunk) (addressAccepted : Bool) : Trunk :=
  let work := match t.work with
    | some (.survey a acc) => some (.survey a (acc || addressAccepted))
    | some (.write c a f k) => some (.write c a f k)
    | some (.broadcast m) => some (.broadcast m)
    | none => none
  ({ t with state := .held, work, clockHigh := false, holdTimer := started } : Trunk).retime

/-- The hold timer expires: the part gives up the transaction and the trunk goes to RECOVERING. The
plate still keeps the clock wire low, and the part has let the data wire go (log 12). -/
def State.holdExpires (s : State) (i : Fin 16) : State :=
  let recover (t : Trunk) : Trunk := (t.wires false true).endWork .recovering
  match (s.trunk i).work with
  | some (.write (some c) _ _ _) => (s.modTrunk i recover).writeFailed c
  | some (.write none _ _ _) => s.modTrunk i recover
  | some (.broadcast _) => s.modTrunk i recover
  | some (.survey a accepted) =>
    let s := s.modTrunk i fun t => recover (t.surveyEnded (nextAddress a))
    if accepted then s.surveyRevives i a else s
  | none => s.modTrunk i recover

/-! ### Arbitration (R84, R96, R99, R103) -/

/-- The part loses arbitration: the other talker holds the data wire low (log 12). -/
def State.loses (s : State) (i : Fin 16) (addressAccepted : Bool) : State :=
  let lose (t : Trunk) : Trunk := (t.returnWrite.wires true false).endWork .listening
  match (s.trunk i).work with
  | some (.survey a accepted) =>
    let s := s.modTrunk i lose
    if accepted || addressAccepted then s.surveyRevives i a else s
  | some (.write _ _ _ _) => s.modTrunk i lose
  | some (.broadcast _) => s.modTrunk i lose
  | none => s.modTrunk i lose

/-! ### Enabling and disabling (R85, R89) -/

/-- An enabled trunk starts afresh: SETTLING, believed mode UNKNOWN, survey-due clear and the survey
timer from zero. -/
def Trunk.begin (t : Trunk) : Trunk :=
  ({ t with believed := none, surveyDue := false, surveyTimer := started, guardTimer := stopped,
            stuckTimer := stopped } : Trunk).goTo .settling

/-- Enabling a DISABLED trunk (R85). -/
def Trunk.enable (t : Trunk) : Trunk := ({ t with enabled := true } : Trunk).begin

/-- The levels of the wires once the part has let them go: in HELD the plate keeps the clock wire as it
is and the part's data wire rises (log 12). -/
def Trunk.letGo (t : Trunk) : Trunk :=
  match t.state with
  | .held => t.wires t.clockHigh true
  | .talking => t.wires true true
  | .disabled => t
  | .settling => t
  | .idle => t
  | .listening => t
  | .recovering => t
  | .fault => t

/-- Every timer of a trunk stops. -/
def Trunk.stopTimers (t : Trunk) : Trunk :=
  { t with surveyTimer := stopped, guardTimer := stopped, holdTimer := stopped, stuckTimer := stopped }

/-- A trunk that is disabled: it owns nothing, no timer of it runs, and the work in flight is given up. -/
def Trunk.disable (t : Trunk) : Trunk :=
  { t.returnWrite.letGo.stopTimers with
    enabled := false, work := none, surveyDue := false, state := .disabled }

/-- Whether the plate of a survey step has ACCEPTed its address when a disable ends the step (R104). A hold
tells it up to its release; what comes after a hold, or without one, is free (log 11). -/
def State.addressAcceptedBy (s : State) (i : Fin 16) (accepted : Bool) : Bool :=
  accepted || (decide ((s.trunk i).state = .talking) && Config.addressAccepted s.fresh i.val)

/-- Disabling an enabled trunk (R89); a survey step that ends by it revives as any other does (R104). -/
def State.disableTrunk (s : State) (i : Fin 16) : State :=
  let off := s.modTrunk i Trunk.disable
  match (s.trunk i).work with
  | some (.survey a accepted) => if s.addressAcceptedBy i accepted then off.surveyRevives i a else off
  | some (.write _ _ _ _) => off
  | some (.broadcast _) => off
  | none => off

/-! ### Settings (R87, R101) -/

/-- The survey period changes: the survey timer of every enabled trunk restarts from zero. -/
def State.setSurveyPeriod (s : State) (n : Nat) : State :=
  { s with plate := { s.plate with
      surveyPeriod := n
      trunks := s.plate.trunks.map fun t =>
        if t.enabled then { t with surveyTimer := started } else t } }

/-- The hold limit changes: each hold timer that runs restarts from zero. -/
def State.setHoldLimit (s : State) (n : Nat) : State :=
  { s with plate := { s.plate with
      holdLimit := n
      trunks := s.plate.trunks.map fun t =>
        if t.holdTimer.isSome then { t with holdTimer := started } else t } }

/-! ### Warm restart (R109, R80) -/

/-- One trunk at a warm restart, before the queues are filled again. -/
def Trunk.restart (t : Trunk) : Trunk :=
  let t := { t.letGo with work := none, urgent := [], ordinary := [], cursor := 1, surveyDue := false }
  if t.enabled then t.begin
  else { t.stopTimers with state := .disabled }

/-- The plate bus at a warm restart, before the queues are filled again. -/
def State.restartTrunks (s : State) : State :=
  { s with plate := { s.plate with inbound := [], trunks := s.plate.trunks.map Trunk.restart } }

/-- The cabins on a trunk with their slots, in ascending plate address. -/
def State.cabinsOnTrunk (s : State) (i : Fin 16) : List (Nat × Nat) :=
  sortBy (fun a b => decide (a.2 < b.2))
    (s.cabin.cabins.filterMap fun r =>
      r.2.plate.bind fun p => if p.trunk = i then some (r.1, p.address) else none)

/-- Every cabin with a plate becomes PENDING with retries 0 and joins its trunk's queue, trunk by
trunk in ascending plate address (R80). -/
def State.refillPlateQueues (s : State) : State :=
  allTrunks.foldl (fun s i => (s.cabinsOnTrunk i).foldl (fun s r => s.owePlate r.1) s) s

end Sys2Proof.Machine
end

