-- ==== Sys2Proof/Machine/ServicePort.lean ====
section
/-! DEFINITION. The Service Port's own operations (09): taking a request, placing its answer, the bytes
of a transaction and the load state. -/

namespace Sys2Proof.Machine

/-! ### Taking a request (R172 to R174, R176) -/

/-- Processing begins: the transaction's status byte has been sent, and the answer buffer is emptied. -/
def State.beginRequest (s : State) : State :=
  { s with port := { s.port with out := [s.statusByte], answer := none, processing := true } }

/-- The answer is placed in the buffer and processing ends. -/
def State.placeAnswer (s : State) (tag : Byte) (r : Reply) : State :=
  { s with port := { s.port with answer := some { tag, result := r.result, body := r.body }, processing := false }
           fresh := s.fresh + 1 }

/-- The block that owns a request: what it does to the state, and what it answers. -/
abbrev Owner (α : Type) := α → State → State × Reply

/-- Gives a request to its owning block, or refuses a changing one with BUSY while LOADING (R176). -/
def handOver {α : Type} (changing : Bool) (op : Owner α) (b : α) (s : State) : State × Reply :=
  if changing && s.loading then (s, .refuse .busy) else op b s

/-- The whole of a request but for placing its answer: a body that does not parse is BAD_FIELD with
LENGTH (R173, check 5), before BUSY (log 16). -/
def judgeRequest {α : Type} (parsed : Option α) (changing : Bool) (op : Owner α) (s : State) :
    State × Reply :=
  match parsed with
  | none => (s, .because .badField .length)
  | some b => handOver changing op b s

/-- A request is taken: its owning block answers, and the answer is placed in the same event (R174). -/
def serve {α : Type} (tag : Byte) (parsed : Option α) (changing : Bool) (op : Owner α) (s : State) : State :=
  let (s', r) := judgeRequest parsed changing op s.beginRequest
  s'.placeAnswer tag r

/-- An owner that reads and changes nothing. -/
def reading {α : Type} (f : α → State → Reply) : Owner α := fun b s => (s, f b s)

/-! ### Answer frames and READ_ANSWER (R175, R189) -/

/-- The frame of an answer (10 section 10.2). -/
def Answer.frame (a : Answer) : List Byte :=
  withCrc (a.tag :: u8 a.result.code ++ u16 a.body.length ++ a.body)

/-- The frame read while no answer is held: tag 0, result NONE, no body. -/
def noAnswer : Answer := { tag := 0#8, result := .noAnswer, body := [] }

/-- The frame that a READ_ANSWER clocks out now. -/
def State.answerFrame (s : State) : List Byte :=
  if s.port.processing then noAnswer.frame
  else match s.port.answer with
    | none => noAnswer.frame
    | some a => a.frame

/-- What the part drives in a transaction after the status byte: the answer frame for
READ_ANSWER (0x5A), and high for a byte that names neither kind (R172). A REQUEST (0xA5) is answered by
the status byte alone here; its frame is a command of its own. DESIGN CHOICE (log 5), unsafe: the spec is
silent on a READ_ANSWER clocked beyond its whole frame, and the part drives no byte there. -/
def State.driven (s : State) (x : Transaction) : List Byte :=
  if x.byte = 0x5A#8 then s.answerFrame.take x.clocks
  else if x.byte = 0xA5#8 then []
  else List.replicate x.clocks 0xFF#8

/-- The part has driven these bytes in a transaction. -/
def State.drive (s : State) (out : List Byte) : State := { s with port := { s.port with out } }

/-- SP_DO while SP_SEL_N is low: the status byte, then what the transaction drives. -/
def State.transact (s : State) (x : Transaction) : State := s.drive (s.statusByte :: s.driven x)

/-! ### Loads (R179 to R181) -/

/-- A load under way has these counts; the summary takes them. -/
def ServicePort.loadCounts (p : ServicePort) (l : Load) : ServicePort :=
  { p with load := some l, summary := { p.summary with remaining := l.remaining, refused := l.refused } }

/-- The load under way ends; the summary keeps its counts. -/
def ServicePort.endLoad (p : ServicePort) (ending : LoadEnding) : ServicePort :=
  { p with load := none, summary := { p.summary with ending } }

/-- How many slots a table has. -/
def TableName.slots : TableName → Nat
  | .node => Config.nodeSlots
  | .edge => Config.edgeSlots
  | .target => Config.targetSlots
  | .cabin => Config.cabinSlots
  | .entry => Config.entrySlots
  | .screen => Config.screenSlots

end Sys2Proof.Machine
end

