-- ==== Sys2Proof/Machine/CabinRequests.lean ====
section
/-! DEFINITION. The requests on cabins (04) and TRUNK_GET (05 section 5.8). -/

namespace Sys2Proof.Machine

/-! ### Checks that CABIN_PUT and CABIN_AMEND share (R60, R61) -/

/-- A cabin number in range. -/
def cabinNumberInRange (deck number : Nat) : Bool :=
  decide (deck ≤ Config.maxDeck) && decide (1 ≤ number) && decide (number ≤ Config.maxCabinNumber)

/-- Whether an optional field is absent or passes a test. -/
def optOk {α : Type} (p : α → Bool) : Option α → Bool
  | none => true
  | some x => p x

/-- Whether a target is a live STATION; a blocked one passes. -/
def State.stationOk (s : State) (t : Nat) : Bool := (s.stationAt t).isSome

/-- EXISTS, with PLATE and the holding cabin's number. -/
def plateHeld (n : CabinNumber) : Reply :=
  { result := .exists_, body := u8 Cause.plate.code ++ u8 n.deck ++ u16 n.number }

/-! ### CABIN_PUT (R60) -/

/-- The typed fields of a CABIN_PUT. -/
structure CabinFields where
  number : CabinNumber
  doorNode : Nat
  plate : Option PlateAddress
  berths : Nat
  occupancy : Occupancy
  privacy : Privacy
  language : Nat
  message : Option Nat
  primary : Nat
  alternate : Option Nat
  label : List Word16
  deriving DecidableEq, Repr

/-- The fields of a body, if each is in its range (R60, check 1). -/
def CabinBody.fields (b : CabinBody) : Option CabinFields :=
  match plateOfRaw b.plate, Occupancy.ofCode b.occupancy, Privacy.ofCode b.privacy,
    optTargetOfRaw b.alternate with
  | some plate, some occupancy, some privacy, some alternate =>
    if cabinNumberInRange b.deck b.number && decide (b.doorNode < Config.nodeSlots) &&
        decide (1 ≤ b.berths) && decide (b.berths ≤ Config.maxBerths) && labelInRange b.label &&
        decide (b.language < Config.languages) && decide (b.primary < Config.targetSlots) then
      some { number := { deck := b.deck, number := b.number }, doorNode := b.doorNode, plate,
             berths := b.berths, occupancy, privacy, language := b.language,
             message := optCatalogueOfRaw b.message, primary := b.primary, alternate, label := b.label }
    else none
  | _, _, _, _ => none

/-- VACANT with contents (R60, check 2). -/
def CabinFields.vacantContents (f : CabinFields) : Bool :=
  decide (f.occupancy = .vacant) &&
    (!f.label.isEmpty || decide (f.privacy ≠ .unasked) || f.message.isSome)

/-- The record of a new cabin. -/
def CabinFields.cabin (f : CabinFields) : Cabin :=
  { number := f.number, doorNode := f.doorNode, plate := f.plate, berths := f.berths,
    occupancy := f.occupancy, label := f.label, language := f.language, message := f.message,
    primary := f.primary, alternate := f.alternate, privacy := f.privacy, service := false,
    serviceMinute := none, swept := false, sweptBy := none, contentGen := 0#16, deliveredGen := 0#16,
    plateState := if f.plate.isSome then .pending else .noPlate, retries := 0 }

/-- The stations a cabin names. -/
def Cabin.stations (c : Cabin) : List Nat := c.primary :: c.alternate.toList

/-- A CABIN_PUT that passes its checks (R60). -/
def State.createCabin (s : State) (slot : Nat) (c : Cabin) : State :=
  let before := s
  let s := { s with cabin := { s.cabin with cabins := Table.put s.cabin.cabins slot c } }
  let s := ((s.claimNode c.doorNode).claimTargets c.stations).contribute c
  ((s.judgeOver before).joinPlateQueue slot).pickAll

/-- CABIN_PUT (R60). -/
def cabinPut : Owner CabinBody := fun b s =>
  match b.fields with
  | none => (s, .refuse .badField)
  | some f =>
    if f.vacantContents then (s, .because .badField .vacant)
    else if f.alternate = some f.primary then (s, .because .badField .station)
    else if (s.node f.doorNode).isNone then (s, .because .badField .node)
    else if !s.stationOk f.primary || !optOk s.stationOk f.alternate then (s, .because .badField .station)
    else if (s.cabinByNumber f.number).isSome then (s, .because .exists_ .number)
    else match f.plate.bind s.cabinByPlate with
      | some (_, holder) => (s, plateHeld holder.number)
      | none =>
        match Table.lowestFree s.cabin.cabins Config.cabinSlots 0 with
        | none => (s, .refuse .full)
        | some slot =>
          (s.createCabin slot f.cabin,
           .done (u8 Outcome.created.code ++ u16 slot ++ u16 f.cabin.contentGen.toNat))

/-! ### CABIN_AMEND (R61 to R64) -/

/-- The typed fields that a CABIN_AMEND gives. -/
structure CabinChange where
  doorNode : Option Nat
  plate : Option (Option PlateAddress)
  berths : Option Nat
  occupancy : Option Occupancy
  label : Option (List Word16)
  language : Option Nat
  message : Option (Option Nat)
  primary : Option Nat
  alternate : Option (Option Nat)
  privacy : Option Privacy
  /-- The service flag is given, and it is CLEAR. -/
  serviceClear : Bool
  deriving DecidableEq, Repr

/-- A field given, turned into its typed value; the outer absence is a value out of range. -/
def given {α β : Type} (f : α → Option β) : Option α → Option (Option β)
  | none => some none
  | some x => (f x).map some

/-- A value that passes a test. -/
def inRange (p : Nat → Bool) (n : Nat) : Option Nat := if p n then some n else none

/-- The fields of an amend, if each is in its range (R61, check 1; R190). -/
def CabinAmendBody.change (b : CabinAmendBody) : Option CabinChange := do
  let doorNode ← given (inRange fun n => decide (n < Config.nodeSlots)) b.doorNode
  let plate ← given plateOfRaw b.plate
  let berths ← given (inRange fun n => decide (1 ≤ n) && decide (n ≤ Config.maxBerths)) b.berths
  let occupancy ← given Occupancy.ofCode b.occupancy
  let label ← given (fun l => if labelInRange l then some l else none) b.label
  let language ← given (inRange fun n => decide (n < Config.languages)) b.language
  let primary ← given (inRange fun n => decide (n < Config.targetSlots)) b.primary
  let alternate ← given optTargetOfRaw b.alternate
  let privacy ← given Privacy.ofCode b.privacy
  let service ← given (inRange fun n => decide (n = 0)) b.service
  if cabinNumberInRange b.deck b.number && decide (b.mask < 2048) then
    some { doorNode, plate, berths, occupancy, label, language,
           message := b.message.map optCatalogueOfRaw, primary, alternate, privacy,
           serviceClear := service.isSome }
  else none

/-- Whether an amend sets an OCCUPIED cabin VACANT (R63). -/
def CabinChange.vacates (g : CabinChange) (c : Cabin) : Bool :=
  decide (c.occupancy = .occupied) && decide (g.occupancy = some .vacant)

/-- The resulting occupancy is VACANT and contents are given (R61, check 3). -/
def CabinChange.vacantContents (g : CabinChange) (c : Cabin) : Bool :=
  decide (g.occupancy.getD c.occupancy = .vacant) &&
    (g.label.any (fun l => !l.isEmpty) || g.privacy.any (fun p => decide (p ≠ .unasked)) ||
      g.message.any Option.isSome)

/-- The record's own fields after an amend, the plate apart (R62, R63). -/
def CabinChange.applyTo (g : CabinChange) (c : Cabin) : Cabin :=
  let c' := { c with
    doorNode := g.doorNode.getD c.doorNode
    berths := g.berths.getD c.berths
    occupancy := g.occupancy.getD c.occupancy
    label := g.label.getD c.label
    language := g.language.getD c.language
    message := g.message.getD c.message
    primary := g.primary.getD c.primary
    alternate := g.alternate.getD c.alternate
    privacy := g.privacy.getD c.privacy
    service := c.service && !g.serviceClear }
  if g.vacates c then
    { c' with label := [], privacy := .unasked, message := none, service := false }
  else c'

/-- Whether a face field differs (R62, R68). -/
def faceFieldsDiffer (a b : Cabin) : Bool :=
  decide (a.label ≠ b.label) || decide (a.language ≠ b.language) || decide (a.message ≠ b.message) ||
    decide (a.privacy ≠ b.privacy) || decide (a.occupancy ≠ b.occupancy)

/-- What a cabin gives to the station accounting. -/
def State.contributionOf (s : State) (c : Cabin) : Option Nat × Nat × Nat :=
  (s.effective c, c.sweptOne, c.occupiedBerths)

/-- Moves a cabin's contribution if it changed (R52). -/
def State.moveContribution (s : State) (old new : Cabin) : State :=
  if s.contributionOf old = s.contributionOf new then s
  else (s.withdraw old).contribute new

/-- The reference counts follow the door node and the stations (R5, R50). -/
def State.moveCabinClaims (s : State) (old new : Cabin) : State :=
  let s := if old.doorNode = new.doorNode then s
    else (s.releaseNode old.doorNode).claimNode new.doorNode
  (s.releaseTargets (old.stations.filter fun t => decide (t ∉ new.stations))).claimTargets
    (new.stations.filter fun t => decide (t ∉ old.stations))

/-- The plate after an amend (R64, R68): an address gained or moved, one lost, or the face alone. -/
def State.amendPlate (s : State) (slot : Nat) (old : Option PlateAddress) (new : Option PlateAddress)
    (faceChanged : Bool) : State :=
  if old = new then (if faceChanged then s.faceChanged slot else s)
  else
    let s := s.leavePlate slot
    match new with
    | some p => ((s.modCabin slot fun c => { c with plate := some p }).raiseContent slot).owePlate slot
    | none =>
      let s := s.modCabin slot fun c => { c with plate := none, plateState := .noPlate, retries := 0 }
      if faceChanged then s.raiseContent slot else s

/-- An accepted CABIN_AMEND; `new` is the record after it, the plate apart (R62). -/
def State.amendCabin (s : State) (slot : Nat) (old new : Cabin) (plate : Option PlateAddress)
    (faceChanged : Bool) : State :=
  let before := s
  let s := (s.moveContribution old new).moveCabinClaims old new
  let s := s.modCabin slot fun _ => new
  let s := if old.service && !new.service then s.leaveService slot else s
  ((s.judgeOver before).amendPlate slot old.plate plate faceChanged).pickAll

/-- CABIN_AMEND (R61, R62). -/
def cabinAmend : Owner CabinAmendBody := fun b s =>
  match b.change with
  | none => (s, .refuse .badField)
  | some g =>
    match s.cabinByNumber { deck := b.deck, number := b.number } with
    | none => (s, .refuse .notFound)
    | some (slot, old) =>
      let new := g.applyTo old
      let plate := g.plate.getD old.plate
      let faceChanged := faceFieldsDiffer old new || decide (s.effective old ≠ s.effective new)
      if g.vacantContents old then (s, .because .badField .vacant)
      else if new.alternate = some new.primary then (s, .because .badField .station)
      else if !optOk (fun n => (s.node n).isSome) g.doorNode then (s, .because .badField .node)
      else if !optOk s.stationOk g.primary || !optOk (optOk s.stationOk) g.alternate then
        (s, .because .badField .station)
      else match (g.plate.bind id).bind s.cabinByPlate |>.filter fun r => decide (r.1 ≠ slot) with
        | some (_, holder) => (s, plateHeld holder.number)
        | none =>
          let raised := faceChanged || (decide (plate ≠ old.plate) && plate.isSome)
          let s := s.amendCabin slot old new plate faceChanged
          (s, .done (u8 Outcome.amended.code ++
            u16 (((s.cabinAt slot).map (·.contentGen.toNat)).getD 0) ++ yesNo raised))

/-! ### CABIN_RETIRE, PLATE_RETRY and SERVICE_TAKE (R65, R70, R72) -/

/-- A VACANT cabin is retired (R65). -/
def State.removeCabin (s : State) (slot : Nat) (c : Cabin) : State :=
  let s := (s.leavePlate slot).withdraw c
  let s := { s with cabin := { s.cabin with cabins := Table.del s.cabin.cabins slot } }
  (s.releaseNode c.doorNode).releaseTargets c.stations

/-- CABIN_RETIRE (R65). -/
def cabinRetire : Owner (Nat × Nat) := fun b s =>
  if cabinNumberInRange b.1 b.2 then
    match s.cabinByNumber { deck := b.1, number := b.2 } with
    | none => (s, .refuse .notFound)
    | some (slot, c) =>
      if c.occupancy = .occupied then (s, .refuse .refusedState)
      else (s.removeCabin slot c, .done [])
  else (s, .refuse .badField)

/-- PLATE_RETRY (R70). -/
def plateRetry : Owner (Nat × Nat) := fun b s =>
  if cabinNumberInRange b.1 b.2 then
    match s.cabinByNumber { deck := b.1, number := b.2 } with
    | none => (s, .refuse .notFound)
    | some (slot, c) =>
      if c.plateState = .failed then ((s.owePlate slot).pickAll, .done [])
      else (s, { result := .refusedState, body := u8 c.plateState.code })
  else (s, .refuse .badField)

/-- SERVICE_TAKE (R72). -/
def serviceTake : Owner Unit := fun _ s =>
  match s.cabin.service with
  | [] => (s, .refuse .empty)
  | slot :: rest =>
    let s' := ({ s with cabin := { s.cabin with service := rest } } : State).modCabin slot fun c =>
      { c with service := false }
    match s.cabinAt slot with
    | none => (s', .refuse .empty)
    | some c =>
      (s', .done (u8 c.number.deck ++ u16 c.number.number ++ optMinute c.serviceMinute ++ u16 rest.length))

/-! ### CABIN_GET (R66) -/

/-- The place of a plate: kind, trunk, class and position. The bytes that a plate not queued has no value
for are free (log 7). -/
def State.platePlace (s : State) (slot : Nat) (c : Cabin) : List Byte :=
  let free := [Config.freeByte s.fresh 2, Config.freeByte s.fresh 3, Config.freeByte s.fresh 4]
  match c.plate with
  | none => 0#8 :: free
  | some p =>
    let t := s.trunk p.trunk
    if t.writing slot then 2#8 :: free
    else match position slot t.urgent, position slot t.ordinary with
      | 0, 0 => 0#8 :: free
      | 0, n + 1 => u8 1 ++ u8 p.trunk.val ++ u8 QueueClass.ordinary.code ++ u8 (n + 1)
      | n + 1, _ => u8 1 ++ u8 p.trunk.val ++ u8 QueueClass.urgent.code ++ u8 (n + 1)

/-- The record of a cabin as CABIN_GET answers it (10 section 10.3). -/
def State.cabinBytes (s : State) (slot : Nat) (c : Cabin) : List Byte :=
  u8 c.number.deck ++ u16 c.number.number ++ u16 c.doorNode ++ optPlate c.plate ++ u8 c.berths ++
    u8 c.occupancy.code ++ u8 c.privacy.code ++ u8 c.language ++ optCatalogue c.message ++
    u8 c.primary ++ optByte c.alternate ++ labelBytes c.label ++
    u16 slot ++ yesNo c.service ++ optMinute c.serviceMinute ++ yesNo c.swept ++
    presence s.fresh 0 c.sweptBy ++ u16 c.contentGen.toNat ++ u16 c.deliveredGen.toNat ++
    u8 c.plateState.code ++ u8 c.retries ++ optByte (s.effective c) ++ s.platePlace slot c

/-- The cabin that a CABIN_GET names; the outer absence is a value out of range. -/
def State.cabinNamed (s : State) (b : CabinGetBody) : Option (Option (Nat × Cabin)) :=
  match b.selector with
  | 0 =>
    let number := b.second * 256 + b.third
    if cabinNumberInRange b.first number then some (s.cabinByNumber { deck := b.first, number }) else none
  | 1 =>
    match trunkOfRaw b.first with
    | none => none
    | some trunk =>
      if 1 ≤ b.second ∧ b.second ≤ Config.plateAddresses ∧ b.third = 0 then
        some (s.cabinByPlate { trunk, address := b.second })
      else none
  | _ => none

/-- CABIN_GET (R66). -/
def cabinGet (b : CabinGetBody) (s : State) : Reply :=
  match s.cabinNamed b with
  | none => .refuse .badField
  | some none => .refuse .notFound
  | some (some (slot, c)) => .done (s.cabinBytes slot c)

/-! ### TRUNK_GET (R107) -/

/-- How many cabins on a trunk have a plate in a state. -/
def State.platesIn (s : State) (i : Fin 16) (st : PlateState) : Nat :=
  Table.count s.cabin.cabins fun c =>
    c.plate.any (fun p => decide (p.trunk = i)) && decide (c.plateState = st)

/-- The number of a cabin, by slot. -/
def State.numberOf (s : State) (slot : Nat) : CabinNumber :=
  ((s.cabinAt slot).map (·.number)).getD { deck := 0, number := 0 }

/-- The work in flight: its kind and three bytes of detail. -/
def State.workBytes (s : State) : Option Work → List Byte
  | none => [0#8, 0#8, 0#8, 0#8]
  | some (.write (some slot) _ _ _) => u8 1 ++ u8 (s.numberOf slot).deck ++ u16 (s.numberOf slot).number
  | some (.write none _ _ _) => [2#8, 0#8, 0#8, 0#8]
  | some (.broadcast m) => u8 3 ++ u8 m.code ++ [0#8, 0#8]
  | some (.survey a _) => u8 4 ++ u8 a ++ [0#8, 0#8]

/-- The numbers of a trunk's cabins whose plates are PENDING, CURRENT and FAILED. -/
def State.plateCountBytes (s : State) (i : Fin 16) : List Byte :=
  u8 (s.platesIn i .pending) ++ u8 (s.platesIn i .current) ++ u8 (s.platesIn i .failed)

/-- The answer of TRUNK_GET (10 section 10.6). DEDUCED (log 17), unsafe: a disabled trunk shows the mode
its enabling would require, and owes nothing. -/
def State.trunkBytes (s : State) (i : Fin 16) : List Byte :=
  let t := s.trunk i
  u8 t.state.code ++ yesNo t.enabled ++ u8 (believedCode t.believed) ++ u8 s.musterNow.plateMode.code ++
    yesNo (t.owes s.musterNow) ++ s.workBytes t.work ++ u8 t.urgent.length ++ u8 t.ordinary.length ++
    u8 t.cursor ++ yesNo t.surveyDue ++ s.plateCountBytes i ++ u8 s.held ++ u8 s.reserved ++
    u8 s.freeEntries

/-- TRUNK_GET (R107). -/
def trunkGet (n : Nat) (s : State) : Reply :=
  match trunkOfRaw n with
  | none => .refuse .badField
  | some i => .done (s.trunkBytes i)

/-! ### Commands -/

def execCabinPut (tag : Byte) (body : List Byte) (s : State) : Host.Outcome State Fault Refusal :=
  .next (serve tag (parseCabin body) true cabinPut s)

def execCabinAmend (tag : Byte) (body : List Byte) (s : State) : Host.Outcome State Fault Refusal :=
  .next (serve tag (parseCabinAmend body) true cabinAmend s)

def execCabinRetire (tag : Byte) (body : List Byte) (s : State) : Host.Outcome State Fault Refusal :=
  .next (serve tag (body12 body) true cabinRetire s)

def execCabinGet (tag : Byte) (body : List Byte) (s : State) : Host.Outcome State Fault Refusal :=
  .next (serve tag (parseCabinGet body) false (reading cabinGet) s)

def execPlateRetry (tag : Byte) (body : List Byte) (s : State) : Host.Outcome State Fault Refusal :=
  .next (serve tag (body12 body) true plateRetry s)

def execServiceTake (tag : Byte) (body : List Byte) (s : State) : Host.Outcome State Fault Refusal :=
  .next (serve tag (body0 body) true serviceTake s)

def execTrunkGet (tag : Byte) (body : List Byte) (s : State) : Host.Outcome State Fault Refusal :=
  .next (serve tag (body1 body) false (reading trunkGet) s)

end Sys2Proof.Machine
end

