-- ==== Sys2Proof/Machine/ProgrammeTable.lean ====
section
/-! DEFINITION. The Programme Table's own operations (06): the programme list, the judgement of
entries, minute events, clock steps, muster transitions and the Ship Clock. An event that changes
entries answers, beside the state, the venues of its entry changes (R120). -/

namespace Sys2Proof.Machine

/-! ### Index and list (R110, R111) -/

/-- The live entry that holds an entry id, with its slot. -/
def State.entryById (s : State) (id : Nat) : Option (Nat × Entry) :=
  Table.find s.programme.entries fun e => decide (e.id = id)

/-- Whether one entry stands before another: by start minute and then by entry id. -/
def Entry.before (a b : Entry) : Bool :=
  decide (a.start < b.start) || (decide (a.start = b.start) && decide (a.id < b.id))

/-- The programme list: the live entries with their slots, in order of start and id (R111). -/
def State.programmeList (s : State) : List (Nat × Entry) :=
  sortBy (fun a b => a.2.before b.2) s.programme.entries

/-- The 1-based position of a slot in the programme list. -/
def State.listPosition (s : State) (slot : Nat) : Nat := position slot (s.programmeList.map (·.1))

/-! ### The judgement (R112) -/

/-- The state of a started and not ended entry. -/
def MusterState.entryState : MusterState → EntryState
  | .normal => .running
  | .drill => .suspended
  | .alarm => .suspended
  | .standDown => .suspended

/-- An entry whose end is at or below now: ENDED, or retired after its linger. -/
def endedOrRetired (finish linger now : Nat) : Option EntryState :=
  if finish + linger ≤ now then none else some .ended

/-- The state an entry is judged to at minute now; none is retired (R112). -/
def Entry.judge (e : Entry) (now linger : Nat) (m : MusterState) : Option EntryState :=
  if e.state = .cancelled then
    if now < e.start then some .cancelled else none
  else if now < e.start then some .scheduled
  else if now < e.finish then some m.entryState
  else endedOrRetired e.finish linger now

/-- The judgement of an entry now, at a minute (R112). -/
def State.judgement (s : State) (now : Nat) (e : Entry) : Option EntryState :=
  e.judge now s.programme.linger s.musterNow

/-- The judgement of an entry at the clock's present minute; while the clock is UNSET the entry keeps
its state (R114, R116). -/
def State.judgeNow (s : State) (e : Entry) : Option EntryState :=
  match s.programme.clock with
  | none => some e.state
  | some c => s.judgement c.minute e

/-! ### Retirement (R110) -/

/-- An entry is retired: its slot becomes free and its venue's count falls by one. -/
def State.retireEntry (s : State) (slot venue : Nat) : State :=
  ({ s with programme := { s.programme with entries := Table.del s.programme.entries slot } } : State)
    |>.releaseTarget venue

/-- An entry takes the state it was judged to, or is retired. -/
def State.applyJudgement (s : State) (slot venue : Nat) (j : Option EntryState) : State :=
  match j with
  | none => s.retireEntry slot venue
  | some st => s.modEntry slot fun e => { e with state := st }

/-! ### Minute events, clock steps and muster transitions (R124 to R127) -/

/-- What one event did to the entries: how many changed, retired ones among them, how many were
retired, and the venues of the entry changes. -/
structure EntryChanges where
  changed : Nat
  retired : Nat
  venues : List Nat
  deriving DecidableEq, Repr

/-- The entries that a rule changes, in programme-list order, with what it makes of each. -/
def State.entriesChangedBy (s : State) (f : Entry → Option EntryState) :
    List (Nat × Entry × Option EntryState) :=
  (s.programmeList.map fun r => (r.1, r.2, f r.2)).filter fun r => decide (r.2.2 ≠ some r.2.1.state)

/-- Every live entry takes what a rule makes of it, in programme-list order. -/
def State.moveEntries (s : State) (f : Entry → Option EntryState) : State × EntryChanges :=
  let moved := s.entriesChangedBy f
  (moved.foldl (fun s r => s.applyJudgement r.1 r.2.1.venue r.2.2) s,
   { changed := moved.length
     retired := (moved.filter fun r => r.2.2.isNone).length
     venues := moved.map fun r => r.2.1.venue })

/-- Every live entry is judged at a minute (R124, R125). -/
def State.judgeEntries (s : State) (now : Nat) : State × EntryChanges :=
  s.moveEntries (s.judgement now)

/-- Suspension at entry from NORMAL (R126). -/
def suspend (e : Entry) : Option EntryState :=
  if e.state = .running then some .suspended else some e.state

/-- Resumption at the return to NORMAL (R127). -/
def resume (linger now : Nat) (e : Entry) : Option EntryState :=
  if e.state = .suspended then
    if now < e.finish then some .running else endedOrRetired e.finish linger now
  else some e.state

/-- The Programme Table takes a muster transition; the muster state is the new one already (R126,
R127). While the clock is UNSET no entry is SUSPENDED; minute 0 stands in for it there. -/
def State.programmeTakesTransition (s : State) (old : MusterState) : State × EntryChanges :=
  if decide (old = .normal) && s.musterNow.proper then s.moveEntries suspend
  else if decide (old = .standDown) && decide (s.musterNow = .normal) then
    s.moveEntries (resume s.programme.linger ((s.programme.clock.map (·.minute)).getD 0))
  else (s, { changed := 0, retired := 0, venues := [] })

/-! ### The Ship Clock (R121, R122) -/

/-- The clock one second later, and whether its minute rose. It holds at its last position. -/
def ClockTime.tick (c : ClockTime) : ClockTime × Bool :=
  if c.second + 1 < 60 then ({ c with second := c.second + 1 }, false)
  else if c.minute < Config.maxMinute then ({ minute := c.minute + 1, second := 0 }, true)
  else (c, false)

/-- The clock is set and its second timer starts from zero. -/
def State.setClock (s : State) (c : ClockTime) : State :=
  { s with programme := { s.programme with clock := some c, secondTimer := started } }

/-- The lowest free entry slot. -/
def State.freeEntrySlot (s : State) : Option Nat :=
  Table.lowestFree s.programme.entries Config.entrySlots 0

end Sys2Proof.Machine
end

