-- ==== Sys2Proof/Machine/GraphStore.lean ====
section
/-! DEFINITION. The Graph Store's own operations (01): edge ends, degree and reference counts,
usability, the open-lift count and the two profile generations. -/

namespace Sys2Proof.Machine

/-! ### Edges -/

/-- Whether a node is an end of an edge. -/
def Edge.hasEnd (e : Edge) (n : Nat) : Bool := decide (e.endA = n) || decide (e.endB = n)

/-- The other end of an edge, seen from one of its ends. -/
def Edge.other (e : Edge) (n : Nat) : Nat := if e.endA = n then e.endB else e.endA

/-- The leave direction at the end of an edge that is a given node. -/
def Edge.leaveAt (e : Edge) (n : Nat) : Direction := if e.endA = n then e.leaveA else e.leaveB

/-- LIFT, OPEN and not crew-only (R16). -/
def Edge.openLift (e : Edge) : Bool :=
  decide (e.kind = .lift) && decide (e.pass = .opened) && !e.crewOnly

/-- Conditions 2 to 5 of R12 for a live edge. -/
def Edge.usableIn (e : Edge) (p : Profile) (m : MusterState) : Bool :=
  decide (e.pass = .opened) && !e.crewOnly && (decide (p = .general) || decide (e.kind ≠ .stair)) &&
    (!m.proper || decide (e.kind ≠ .lift))

/-- Whether the edge of an id is usable in a profile now (R12, R13). -/
def State.usable (s : State) (p : Profile) (id : Nat) : Bool :=
  match s.edge id with
  | none => false
  | some e => e.usableIn p s.musterNow

/-- The live edge ends at a node that belong to edges other than one (R8). -/
def State.endsOfOthers (s : State) (id n : Nat) : Nat :=
  (s.graph.edges.filter fun r => decide (r.1 ≠ id) && r.2.hasEnd n).length

/-! ### Degree and reference count (R5) -/

/-- One more edge end at a node. -/
def State.addEnd (s : State) (n : Nat) : State :=
  s.modNode n fun x => { x with degree := x.degree + 1, refs := x.refs + 1 }

/-- One edge end at a node fewer. -/
def State.dropEnd (s : State) (n : Nat) : State :=
  s.modNode n fun x => { x with degree := x.degree - 1, refs := x.refs - 1 }

/-- The ends of an old edge that are no ends of the new one fall, and the ends of the new one that
were none of the old rise (R5). -/
def State.moveEnds (s : State) (old new : Edge) : State :=
  let s := if new.hasEnd old.endA then s else s.dropEnd old.endA
  let s := if new.hasEnd old.endB then s else s.dropEnd old.endB
  let s := if old.hasEnd new.endA then s else s.addEnd new.endA
  if old.hasEnd new.endB then s else s.addEnd new.endB

/-! ### The open-lift count (R16) -/

/-- The open-lift count rises by one if a condition holds. -/
def State.liftRises (s : State) (c : Bool) : State :=
  if c then { s with graph := { s.graph with openLifts := s.graph.openLifts + 1 } } else s

/-- The open-lift count falls by one if a condition holds. -/
def State.liftFalls (s : State) (c : Bool) : State :=
  if c then { s with graph := { s.graph with openLifts := s.graph.openLifts - 1 } } else s

/-! ### Generations -/

/-- The present generation of a profile. -/
def State.genOf (s : State) : Profile → Gen
  | .general => s.graph.genGeneral
  | .stepFree => s.graph.genStepFree

/-- Raises the GENERAL generation, and the STEP_FREE generation if asked (R14). -/
def State.raiseGens (s : State) (stepFree : Bool) : State :=
  { s with graph := { s.graph with
      genGeneral := raise s.graph.genGeneral
      genStepFree := if stepFree then raise s.graph.genStepFree else s.graph.genStepFree } }

end Sys2Proof.Machine
end

