-- ==== Sys2Proof/Machine/RouteEngine.lean ====
section
/-! DEFINITION. The Route Engine's own operations (02): the rebuild queue, the build and its result,
lookups, traces and arrows. -/

namespace Sys2Proof.Machine

/-! ### Maps by name -/

/-- The two profiles, GENERAL first. -/
def allProfiles : List Profile := [.general, .stepFree]

/-- The map slot of a map: 2t for GENERAL and 2t + 1 for STEP_FREE. -/
def MapName.slot (m : MapName) : Nat :=
  2 * m.target + (match m.profile with | .general => 0 | .stepFree => 1)

/-- The map of a map slot. -/
def mapOfSlot (k : Nat) : MapName :=
  { target := k / 2, profile := if k % 2 = 0 then .general else .stepFree }

def State.mapAt (s : State) (m : MapName) : Option RouteMap := Table.get s.route.maps m.slot

def State.modMap (s : State) (m : MapName) (f : RouteMap → RouteMap) : State :=
  { s with route := { s.route with maps := Table.modify s.route.maps m.slot f } }

/-- The live maps in ascending target id, GENERAL before STEP_FREE. -/
def State.liveMaps (s : State) : List MapName := s.route.maps.map fun r => mapOfSlot r.1

/-- The two maps of a target, GENERAL first. -/
def mapsOf (t : Nat) : List MapName := allProfiles.map fun p => { target := t, profile := p }

/-- Whether a target is a STATION. -/
def State.isStation (s : State) (t : Nat) : Bool := (s.stationAt t).isSome

/-! ### The rebuild queue (R25, R26) -/

/-- The class in which a map joins now (R26). -/
def State.classOf (s : State) (m : MapName) : QueueClass :=
  if s.isStation m.target && s.musterNow.proper then .urgent else .ordinary

/-- A map joins at the tail of its class. -/
def State.joinTail (s : State) (m : MapName) : State :=
  match s.classOf m with
  | .urgent => { s with route := { s.route with urgent := s.route.urgent ++ [m] } }
  | .ordinary => { s with route := { s.route with ordinary := s.route.ordinary ++ [m] } }

/-- A map whose build is abandoned joins at the head of its class. -/
def State.joinHead (s : State) (m : MapName) : State :=
  match s.classOf m with
  | .urgent => { s with route := { s.route with urgent := m :: s.route.urgent } }
  | .ordinary => { s with route := { s.route with ordinary := m :: s.route.ordinary } }

/-- A map leaves the queue from wherever it stands. -/
def State.leaveQueue (s : State) (m : MapName) : State :=
  { s with route := { s.route with
      urgent := s.route.urgent.filter fun x => decide (x ≠ m)
      ordinary := s.route.ordinary.filter fun x => decide (x ≠ m) } }

/-- The state of a map that is not BUILDING and not CURRENT. -/
def RouteMap.waiting (r : RouteMap) : RouteMap :=
  { r with state := if r.contentHeld then .stale else .empty }

/-- The build of a map is abandoned (R29, R32). -/
def State.abandon (s : State) (m : MapName) : State :=
  let s := { s with route := { s.route with build := none } }
  (s.modMap m RouteMap.waiting).joinHead m

/-- A map goes out of date: by its state, it becomes STALE at the tail, its build is abandoned, or it
keeps its place (R29, R32). -/
def State.outdate (s : State) (m : MapName) : State :=
  match s.mapAt m with
  | none => s
  | some r =>
    match r.state with
    | .current => (s.modMap m fun r => { r with state := .stale }).joinTail m
    | .building => s.abandon m
    | .stale => s
    | .empty => s

/-- The engine takes a raise of GENERAL, and of STEP_FREE if that was raised (R29). -/
def State.takeRaise (s : State) (stepFree : Bool) : State :=
  (s.liveMaps.filter fun m => decide (m.profile = .general) || stepFree).foldl State.outdate s

/-- An edge request raises the generations and hands the raise to the engine (R14, R17). -/
def State.graphRaise (s : State) (stepFree : Bool) : State := (s.raiseGens stepFree).takeRaise stepFree

/-- The engine starts the head of URGENT, else of ORDINARY, if its build record is idle (R27). -/
def State.startBuild (s : State) : State :=
  match s.route.build with
  | some _ => s
  | none =>
    match s.route.urgent, s.route.ordinary with
    | m :: us, _ =>
      { s with route := { s.route with urgent := us, build := some { map := m, gen := s.genOf m.profile } } }
        |>.modMap m fun r => { r with state := .building }
    | [], m :: os =>
      { s with route := { s.route with ordinary := os, build := some { map := m, gen := s.genOf m.profile } } }
        |>.modMap m fun r => { r with state := .building }
    | [], [] => s

/-- The engine is settled (R36). -/
def State.settled (s : State) : Bool :=
  s.route.build.isNone && s.route.urgent.isEmpty && s.route.ordinary.isEmpty

/-! ### Muster transitions at the graph and the engine (R15, R30) -/

/-- Every ORDINARY item of a STATION moves to the tail of URGENT (R30, step 1). -/
def State.hurryStations (s : State) : State :=
  { s with route := { s.route with
      urgent := s.route.urgent ++ s.route.ordinary.filter fun m => s.isStation m.target
      ordinary := s.route.ordinary.filter fun m => !s.isStation m.target } }

/-- The Graph Store and the Route Engine take a muster transition; the muster state is the new one
already (R15, R30). -/
def State.graphTakesTransition (s : State) (old : MusterState) : State :=
  let s := if s.musterNow.proper && !old.proper then s.hurryStations else s
  if decide (s.musterNow.proper ≠ old.proper) && decide (0 < s.graph.openLifts) then
    s.graphRaise true
  else s

/-! ### What a build produces (R22, R23) -/

/-- The live edges usable in a profile, in rising id. -/
def State.usableEdges (s : State) (p : Profile) : Table Edge :=
  s.graph.edges.filter fun r => r.2.usableIn p s.musterNow

/-- Offers a distance to a node: the lesser one stands. -/
def offer (d : Table Nat) (n x : Nat) : Table Nat :=
  match Table.get d n with
  | none => Table.put d n x
  | some y => if x < y then Table.put d n x else d

/-- Walks one edge both ways. -/
def relaxEdge (d : Table Nat) (e : Edge) : Table Nat :=
  let d := match Table.get d e.endA with
    | none => d
    | some x => offer d e.endB (x + e.length)
  match Table.get d e.endB with
  | none => d
  | some x => offer d e.endA (x + e.length)

/-- Walks every edge once. -/
def relaxAll (edges : Table Edge) (d : Table Nat) : Table Nat :=
  edges.foldl (fun d r => relaxEdge d r.2) d

/-- Walks the edges until nothing changes, at most `fuel` times. -/
def relaxUntil (edges : Table Edge) : Nat → Table Nat → Table Nat
  | 0, d => d
  | fuel + 1, d =>
    let d' := relaxAll edges d
    if d' = d then d else relaxUntil edges fuel d'

/-- The distance of every node that has one of at most 65,534 (R22). -/
def distances (edges : Table Edge) (anchor : Nat) : Table Nat :=
  (relaxUntil edges edges.length [(anchor, 0)]).filter fun r => decide (r.2 < Config.unreachable)

/-- The lowest-numbered edge that begins a least-length path (R23). -/
def nextEdge (edges : Table Edge) (d : Table Nat) (n x : Nat) : Option Nat :=
  (edges.find? fun r => r.2.hasEnd n &&
    decide ((Table.get d (r.2.other n)).map (· + r.2.length) = some x)).map (·.1)

/-- The entries of a built map (R22, R23). -/
def buildEntries (edges : Table Edge) (anchor : Nat) : Table MapEntry :=
  let d := distances edges anchor
  d.map fun r => (r.1, { next := if r.1 = anchor then none else nextEdge edges d r.1 r.2, dist := r.2 })

/-- The anchor of a target. -/
def State.anchorOf (s : State) (t : Nat) : Option Nat := (s.targetAt t).map (·.anchor)

/-- The result of a build of a map now. -/
def State.buildResult (s : State) (m : MapName) : Table MapEntry :=
  match s.anchorOf m.target with
  | none => []
  | some a => buildEntries (s.usableEdges m.profile) a

/-! ### Creation, retirement, kind and anchor changes -/

/-- A new map (R20). -/
def RouteMap.fresh : RouteMap := { state := .empty, contentHeld := false, builtGen := none, entries := [] }

/-- The maps of a created target become live and join the queue (R20, R28). -/
def State.createMaps (s : State) (t : Nat) : State :=
  (mapsOf t).foldl (fun s m =>
    ({ s with route := { s.route with maps := Table.put s.route.maps m.slot RouteMap.fresh } } : State).joinTail m) s

/-- A map of a retired target becomes free (R33). -/
def State.freeMap (s : State) (m : MapName) : State :=
  let s := s.leaveQueue m
  { s with route := { s.route with
      maps := Table.del s.route.maps m.slot
      build := match s.route.build with
        | some b => if b.map = m then none else some b
        | none => none } }

/-- The maps of a retired target become free, and the engine may become settled by it (R33, R36). -/
def State.freeMaps (s : State) (t : Nat) : State :=
  let before := s.settled
  let s := (mapsOf t).foldl State.freeMap s
  if s.settled && !before then s.raiseNotice .mapsSettled else s

/-- VENUE to STATION during DRILL or ALARM: the target's ORDINARY items move to the tail of URGENT
(R31). -/
def State.hurryTarget (s : State) (t : Nat) : State :=
  (mapsOf t).foldl (fun s m =>
    if m ∈ s.route.ordinary then
      { s with route := { s.route with
          urgent := s.route.urgent ++ [m]
          ordinary := s.route.ordinary.filter fun x => decide (x ≠ m) } }
    else s) s

/-- The anchor of a target has changed: both maps are cleared and go out of date (R32). -/
def State.anchorMoved (s : State) (t : Nat) : State :=
  (mapsOf t).foldl (fun s m => (s.modMap m fun r => { r with entries := [] }).outdate m) s

/-! ### Lookups (R37, R38) -/

/-- The answer of a lookup. Without values the distance is 65,535. -/
structure RouteAnswer where
  kind : AnswerKind
  dist : Nat
  next : Option Nat
  leave : Option Direction
  deriving DecidableEq, Repr

/-- An answer that gives no values. -/
def RouteAnswer.bare (k : AnswerKind) : RouteAnswer :=
  { kind := k, dist := Config.unreachable, next := none, leave := none }

/-- HERE, at distance 0. -/
def RouteAnswer.atAnchor : RouteAnswer := { kind := .here, dist := 0, next := none, leave := none }

/-- An answer with the values of an entry, and the leave direction of the present edge record. -/
def State.leadOn (s : State) (k : AnswerKind) (origin : Nat) (e : MapEntry) : RouteAnswer :=
  { kind := k, dist := e.dist, next := e.next,
    leave := (e.next.bind s.edge).map fun x => x.leaveAt origin }

/-- The four conditions of R38. -/
def State.stillLeads (s : State) (p : Profile) (origin : Nat) (e : MapEntry) : Bool :=
  match e.next with
  | none => false
  | some id =>
    match s.edge id with
    | none => false
    | some x => x.hasEnd origin && x.usableIn p s.musterNow

/-- A lookup from a map that is CURRENT. -/
def State.lookupCurrent (s : State) (r : RouteMap) (origin : Nat) (anchor : Option Nat) : RouteAnswer :=
  if anchor = some origin then RouteAnswer.atAnchor
  else match Table.get r.entries origin with
    | none => RouteAnswer.bare .noRoute
    | some e => s.leadOn .route origin e

/-- A lookup from the old content of a map that is STALE or BUILDING. -/
def State.lookupOld (s : State) (r : RouteMap) (p : Profile) (origin : Nat) (anchor : Option Nat) :
    RouteAnswer :=
  let rest := if anchor = some origin then RouteAnswer.atAnchor else RouteAnswer.bare .hold
  match Table.get r.entries origin with
  | none => rest
  | some e => if s.stillLeads p origin e then s.leadOn .provisional origin e else rest

/-- The answer of a lookup (R37). A BUILDING map without content has no entry and so, like an EMPTY
one, answers HOLD but at the anchor. -/
def State.lookup (s : State) (m : MapName) (origin : Nat) : RouteAnswer :=
  match s.mapAt m with
  | none => RouteAnswer.bare .hold
  | some r =>
    match r.state with
    | .current => s.lookupCurrent r origin (s.anchorOf m.target)
    | .stale => s.lookupOld r m.profile origin (s.anchorOf m.target)
    | .building => s.lookupOld r m.profile origin (s.anchorOf m.target)
    | .empty => RouteAnswer.bare .hold

/-! ### Arrows (R42, R43) -/

/-- The flat arrow of a code. -/
def Arrow.ofFlat : Nat → Arrow
  | 0 => .ahead
  | 1 => .aheadRight
  | 2 => .right
  | 3 => .behindRight
  | 4 => .behind
  | 5 => .behindLeft
  | 6 => .left
  | _ => .aheadLeft

/-- A leave direction in the viewer's frame (R42): the flat codes differ by the turn (10 section
10.1). -/
def Direction.arrow (d : Direction) (f : Facing) : Arrow :=
  let flat (n : Nat) : Arrow := Arrow.ofFlat ((n + 8 - f.code) % 8)
  match d with
  | .fore => flat 0
  | .foreStbd => flat 1
  | .starboard => flat 2
  | .aftStbd => flat 3
  | .aft => flat 4
  | .aftPort => flat 5
  | .port => flat 6
  | .forePort => flat 7
  | .up => .up
  | .down => .down

/-- The arrow of a lookup answer for a viewer (R43). -/
def RouteAnswer.arrow (a : RouteAnswer) (f : Facing) : Option Arrow :=
  match a.kind with
  | .route => a.leave.map fun d => d.arrow f
  | .provisional => a.leave.map fun d => d.arrow f
  | .here => some .here
  | .noRoute => none
  | .hold => none

/-! ### Traces (R41) -/

/-- The edges followed from a node, with the leave direction at each, at most `fuel` of them; and
whether the anchor was not reached. -/
def State.follow (s : State) (entries : Table MapEntry) (anchor : Nat) :
    Nat → Nat → List (Nat × Direction) × Bool
  | 0, n => ([], decide (n ≠ anchor))
  | fuel + 1, n =>
    if n = anchor then ([], false)
    else match (Table.get entries n).bind (·.next) with
      | none => ([], true)
      | some id =>
        match s.edge id with
        | none => ([], true)
        | some e =>
          let (l, cut) := s.follow entries anchor fuel (e.other n)
          ((id, e.leaveAt n) :: l, cut)

/-- The trace of a ROUTE answer of a CURRENT map; empty and not TRUNCATED otherwise. -/
def State.traceOf (s : State) (m : MapName) (origin : Nat) (asked : Bool) :
    List (Nat × Direction) × Bool :=
  match s.mapAt m, s.anchorOf m.target with
  | some r, some a =>
    if asked && decide (r.state = .current) && decide ((s.lookup m origin).kind = .route) then
      s.follow r.entries a Config.maxTrace origin
    else ([], false)
  | _, _ => ([], false)

end Sys2Proof.Machine
end

