-- ==== Sys2Proof/Machine/ScreenLinks.lean ====
section
/-! DEFINITION. The Screen Link Controller's own operations (07): marking slots, composing panels,
link periods, exchanges and their answers. -/

namespace Sys2Proof.Machine

/-! ### Screens by link and address (R130) -/

/-- The table slot of a screen. -/
def screenSlot (link : Fin 4) (address : Nat) : Nat := link.val * Config.screenAddresses + address - 1

/-- The link of a table slot. -/
def linkOfScreen (n : Nat) : Fin 4 :=
  if n < 128 then 0 else if n < 256 then 1 else if n < 384 then 2 else 3

/-- The address of a table slot. -/
def addressOfScreen (n : Nat) : Nat := n % Config.screenAddresses + 1

/-- The screens on a link with their slots, in ascending address. -/
def State.screensOn (s : State) (l : Fin 4) : List (Nat × Screen) :=
  s.screen.screens.filter fun r => decide (linkOfScreen r.1 = l)

/-! ### Slots, queues and marks (R131, R132) -/

/-- A slot is dirty when its generation differs from its accepted generation. -/
def Slot.dirty (x : Slot) : Bool := decide (x.accepted ≠ some x.gen)

/-- A screen that may be sent panels: PRESENT with its descriptor valid. -/
def Screen.ready (x : Screen) : Bool := decide (x.attach = .present) && x.descValid

/-- Whether a slot is the subject of the exchange in flight on its link. -/
def Link.sending (k : Link) (r : SlotRef) : Bool :=
  match k.exchange with
  | none => false
  | some e =>
    match e.packet with
    | .slot kind _ _ _ => !e.detached && decide (e.screen = r.screen) && decide (kind = r.kind)
    | .discover => false
    | .keepalive => false

/-- Whether a slot stands in a queue of its link. -/
def Link.queued (k : Link) (r : SlotRef) : Bool := decide (r ∈ k.musterQueue) || decide (r ∈ k.dirtyQueue)

/-- A slot joins the tail of its queue. -/
def Link.join (k : Link) (r : SlotRef) : Link :=
  match r.kind with
  | .muster => { k with musterQueue := k.musterQueue ++ [r] }
  | .route => { k with dirtyQueue := k.dirtyQueue ++ [r] }
  | .programme => { k with dirtyQueue := k.dirtyQueue ++ [r] }
  | .notice => { k with dirtyQueue := k.dirtyQueue ++ [r] }

/-- A slot leaves both queues. -/
def Link.leaveSlot (k : Link) (r : SlotRef) : Link :=
  { k with musterQueue := k.musterQueue.filter fun x => decide (x ≠ r)
           dirtyQueue := k.dirtyQueue.filter fun x => decide (x ≠ r) }

/-- Every slot of a screen leaves both queues. -/
def Link.leaveScreen (k : Link) (n : Nat) : Link :=
  { k with musterQueue := k.musterQueue.filter fun x => decide (x.screen ≠ n)
           dirtyQueue := k.dirtyQueue.filter fun x => decide (x.screen ≠ n) }

/-- A dirty slot of a ready screen joins its queue, unless it stands there or is being sent. -/
def State.queueIfOwed (s : State) (r : SlotRef) : State :=
  match s.screenAt r.screen with
  | none => s
  | some x =>
    let l := linkOfScreen r.screen
    if (x.slot r.kind).dirty && x.ready && !(s.link l).queued r && !(s.link l).sending r then
      s.modLink l fun k => k.join r
    else s

/-- Raises the generation of a slot. -/
def State.raiseSlot (s : State) (r : SlotRef) : State :=
  s.modScreen r.screen fun x => x.modSlot r.kind fun y => { y with gen := raise y.gen }

/-- A slot's generation is raised if asked, and the slot is queued if it is owed. -/
def State.touchSlot (s : State) (r : SlotRef) (raised : Bool) : State :=
  (if raised then s.raiseSlot r else s).queueIfOwed r

/-- Marks a slot: its generation is raised unless its policy is OFF, and it is queued if owed (R131). -/
def State.markSlot (s : State) (r : SlotRef) : State :=
  match s.screenAt r.screen with
  | none => s
  | some x => s.touchSlot r (decide ((x.slot r.kind).policy ≠ .off))

/-- The causes of one event: for a screen, by table slot, and one of its slots, whether any cause of the
event reaches it. -/
abbrev Causes := Nat → Screen → SlotKind → Bool

/-- No cause. -/
def noCause : Causes := fun _ _ _ => false

/-- Either of two sets of causes. -/
def Causes.or (a b : Causes) : Causes := fun n x k => a n x k || b n x k

/-- The slots that the causes of one event reach, in ascending link and address, and on each screen in
the order of its slots. -/
def State.slotsReached (s : State) (p : Causes) : List SlotRef :=
  s.screen.screens.flatMap fun r => (slotOrder.filter (p r.1 r.2)).map fun k => { screen := r.1, kind := k }

/-- Marks once each slot that the causes of one event reach (R131). -/
def State.mark (s : State) (p : Causes) : State := (s.slotsReached p).foldl State.markSlot s

/-! ### What a change reaches (R143, R144) -/

/-- The profile a screen reads. -/
def Screen.profile (x : Screen) : Profile := if x.stepFree then .stepFree else .general

/-- Whether two nodes are live and agree in a field. -/
def State.sameAt (s : State) (f : Node → Nat) (a b : Option Nat) : Bool :=
  match a.bind s.node, b.bind s.node with
  | some x, some y => decide (f x = f y)
  | some _, none => false
  | none, _ => false

/-- Whether a venue passes a screen's programme scope (R141). -/
def State.passes (s : State) (x : Screen) (venue : Nat) : Bool :=
  match x.scope with
  | .nothing => false
  | .all => true
  | .deck => s.sameAt (·.deck) (s.anchorOf venue) (some x.node)
  | .zone => s.sameAt (·.zone) (s.anchorOf venue) (some x.node)

/-- MUSTER of every screen. -/
def everyMuster : Causes := fun _ _ k => decide (k = .muster)

/-- All four slots of every screen. -/
def everySlot : Causes := fun _ _ _ => true

/-- ROUTE of each screen whose shown list names a target. -/
def routesShowing (t : Nat) : Causes := fun _ x k => decide (k = .route) && decide (t ∈ x.shown)

/-- PROGRAMME of each screen that one of some venues passes: the entry changes of an event (R144). -/
def State.entryCauses (s : State) (venues : List Nat) : Causes :=
  fun _ x k => decide (k = .programme) && venues.any fun v => s.passes x v

/-- PROGRAMME of every screen whose scope is not NONE: a minute notice (R144). -/
def minuteCauses : Causes := fun _ x k => decide (k = .programme) && decide (x.scope ≠ .nothing)

/-- Whether a target is a VENUE named by a live programme entry. -/
def State.namedVenue (s : State) (t : Nat) : Bool :=
  (s.targetAt t).any (fun x => x.station.isNone) && s.programme.entries.any fun r => decide (r.2.venue = t)

/-- A target's map in a profile has completed (R143). -/
def State.mapCauses (s : State) (m : MapName) : Causes := fun n x k =>
  (routesShowing m.target n x k && decide (x.profile = m.profile)) ||
  (decide (k = .programme) && decide (x.profile = m.profile) && s.namedVenue m.target && s.passes x m.target) ||
  (decide (k = .muster) && s.isStation m.target)

/-- A target's label has changed (R143). -/
def State.labelCauses (s : State) (t : Nat) : Causes := fun n x k =>
  routesShowing t n x k ||
  (decide (k = .programme) && s.namedVenue t && s.passes x t) ||
  (decide (k = .muster) && s.isStation t)

/-- A node's deck or fire zone has changed (R143). -/
def placeCauses : Causes := fun _ x k =>
  decide (k = .programme) && (decide (x.scope = .deck) || decide (x.scope = .zone))

/-- A muster transition into a state (R145). -/
def transitionCauses : MusterState → Causes
  | .drill => everyMuster
  | .alarm => everyMuster
  | .standDown => everySlot
  | .normal => everySlot

/-! ### Composition (R138 to R142) -/

/-- Whether a language is in the set of a descriptor. -/
def Descriptor.renders (d : Descriptor) (lang : Nat) : Bool := d.rendered.getLsbD lang

/-- The effective languages of a screen (R138). -/
def Screen.effectiveLanguages (x : Screen) : List Nat :=
  let shown := match x.descriptor with
    | none => []
    | some d => x.languages.filter d.renders
  if shown.isEmpty then [0] else shown

/-- The route a screen is shown to a target (R139). -/
def State.screenRoute (s : State) (x : Screen) (t : Nat) : RouteAnswer :=
  s.lookup { target := t, profile := x.profile } x.node

def State.labelOf (s : State) (t : Nat) : Nat := ((s.targetAt t).map (·.label)).getD 0

def State.stationLetter (s : State) (t : Nat) : Option Nat := (s.stationAt t).map (·.letter)

/-- One line of a ROUTE panel (R140). DESIGN CHOICE (log 18), unsafe: a HERE line carries distance 0. -/
def State.routeLine (s : State) (x : Screen) (t : Nat) : RouteLine :=
  let a := s.screenRoute x t
  { label := s.labelOf t, letter := s.stationLetter t, kind := a.kind, arrow := a.arrow x.facing,
    dist := a.dist }

/-- The lines a ROUTE panel may have. -/
def Descriptor.routeLines (d : Descriptor) : Nat :=
  if d.panelClass = .small then min d.lines 3 else d.lines

/-- The ROUTE panel (R140). -/
def State.routePanel (s : State) (x : Screen) (d : Descriptor) : Content :=
  let lines := (x.shown.take d.routeLines).map (s.routeLine x)
  if lines.isEmpty then .blank else .route lines

/-- The mark of a programme line: none 0, HELD 1, ENDED 2, CANCELLED 3. -/
def EntryState.mark : EntryState → Nat
  | .scheduled => 0
  | .running => 0
  | .suspended => 1
  | .ended => 2
  | .cancelled => 3

/-- Whether an entry's state passes the horizon (R141). -/
def Entry.admitted (e : Entry) (now horizon : Nat) : Bool :=
  match e.state with
  | .running => true
  | .suspended => true
  | .ended => true
  | .scheduled => decide (e.start ≤ now + horizon)
  | .cancelled => decide (e.start ≤ now + horizon)

/-- One line of a PROGRAMME panel (R141). -/
def State.programmeLine (s : State) (x : Screen) (now : Nat) (e : Entry) : ProgrammeLine :=
  let a := s.screenRoute x e.venue
  { title := e.title, category := e.category, start := e.start,
    minutesToStart := (e.start : Int) - (now : Int), mark := e.state.mark, fill := e.fill,
    moved := e.moved, label := s.labelOf e.venue, kind := a.kind, arrow := a.arrow x.facing,
    dist := a.dist }

/-- The PROGRAMME panel (R141). -/
def State.programmePanel (s : State) (x : Screen) (d : Descriptor) : Content :=
  match s.programme.clock with
  | none => .blank
  | some c =>
    if x.scope = .nothing then .blank
    else
      let admitted := (s.programmeList.map (·.2)).filter fun e =>
        s.passes x e.venue && e.admitted c.minute s.programme.horizon
      .programme ((admitted.take (min 6 d.lines)).map (s.programmeLine x c.minute))

/-- Of two distances with their stations, the lesser; of equal ones the first. -/
def nearer (a : Option (Nat × Nat)) (b : Nat × Nat) : Option (Nat × Nat) :=
  match a with
  | none => some b
  | some x => if b.2 < x.2 then some b else some x

/-- The nearest station: among those not blocked whose map in the screen's profile is CURRENT and
reaches the screen's node, the one of least distance, and of these the lowest id (R142). -/
def State.nearestStation (s : State) (x : Screen) : Option Nat :=
  let reached := s.stations.filterMap fun r =>
    let m : MapName := { target := r.1, profile := x.profile }
    let current := (s.mapAt m).any fun r => decide (r.state = .current)
    let d := (s.lookup m x.node).dist
    if !r.2.blocked && current && decide (d < Config.unreachable) then some (r.1, d) else none
  (reached.foldl nearer none).map (·.1)

/-- The station chosen for a MUSTER panel (R142). -/
def State.musterStation (s : State) (x : Screen) : Option Nat :=
  match x.override with
  | none => s.nearestStation x
  | some t =>
    if (s.stationAt t).any fun st => !st.blocked then some t else s.nearestStation x

/-- The line without a station. -/
def followCrewLine (marker : MusterKind) : MusterLine :=
  { marker, followCrew := true, letter := none, label := 0, kind := .hold, arrow := none,
    dist := Config.unreachable }

/-- The answer kinds with which a chosen station is shown. -/
def AnswerKind.leads : AnswerKind → Bool
  | .route => true
  | .provisional => true
  | .here => true
  | .noRoute => false
  | .hold => false

/-- The MUSTER panel of DRILL or ALARM (R142). -/
def State.musterPanel (s : State) (x : Screen) (marker : MusterKind) : Content :=
  match s.musterStation x with
  | none => .muster (followCrewLine marker)
  | some t =>
    let a := s.screenRoute x t
    if a.kind.leads then
      .muster { marker, followCrew := false, letter := s.stationLetter t, label := s.labelOf t,
                kind := a.kind, arrow := a.arrow x.facing, dist := a.dist }
    else .muster (followCrewLine marker)

/-- What a slot carries outside DRILL and ALARM (R138). -/
def State.panelOutsideMuster (s : State) (x : Screen) (d : Descriptor) (k : SlotKind) : Content :=
  if x.mode = .dark || decide ((x.slot k).policy = .off) then .blank
  else match k with
    | .route => s.routePanel x d
    | .programme => s.programmePanel x d
    | .notice => .notice x.notice
    | .muster => .blank

/-- What a slot's packet carries now (R138). -/
def State.compose (s : State) (x : Screen) (d : Descriptor) (k : SlotKind) : Content :=
  match s.musterNow, k with
  | .drill, .muster => s.musterPanel x .drill
  | .alarm, .muster => s.musterPanel x .alarm
  | .drill, _ => .blank
  | .alarm, _ => .blank
  | .normal, k => s.panelOutsideMuster x d k
  | .standDown, k => s.panelOutsideMuster x d k

/-! ### Sending (R139, R147, R148) -/

/-- The address after one: 128 wraps to 1. -/
def nextScreenAddress (a : Nat) : Nat := if a < Config.screenAddresses then a + 1 else 1

/-- A packet is sent to a screen: an exchange begins with its answer window, the budget is charged, and
the screen has been addressed in the present period. -/
def State.sendPacket (s : State) (l : Fin 4) (n : Nat) (p : Packet) : State :=
  let s := s.modLink l fun k => { k with
    budget := k.budget - 1
    exchange := some { screen := n, detached := false, packet := p, window := started, limit := stopped } }
  s.modScreen n fun x => { x with lastAddressed := some (s.link l).period }

/-- A slot's packet is composed and sent (R139). -/
def State.sendSlot (s : State) (l : Fin 4) (r : SlotRef) : State :=
  match s.screenAt r.screen with
  | none => s.modLink l fun k => k.leaveSlot r
  | some x =>
    match x.descriptor with
    | none => s.modLink l fun k => k.leaveSlot r
    | some d =>
      let y := x.slot r.kind
      let p : Packet := .slot r.kind y.gen x.effectiveLanguages (s.compose x d r.kind)
      let s := s.modLink l fun k => k.leaveSlot r
      let s := s.modScreen r.screen fun x => x.modSlot r.kind fun y =>
        { y with lastSent := some { period := (s.link l).period, gen := y.gen } }
      s.sendPacket l r.screen p

/-- Whether a slot was sent in a period with its present generation. -/
def Slot.sentIn (y : Slot) (period : Word16) : Bool :=
  decide (y.lastSent = some { period, gen := y.gen })

/-- Whether a queued slot has not been sent in this period with its present generation. -/
def State.unsent (s : State) (l : Fin 4) (r : SlotRef) : Bool :=
  (s.screenAt r.screen).any fun x => !(x.slot r.kind).sentIn (s.link l).period

/-- Discovery: the first record at or after the cursor that must be found (R147, step 1). -/
def State.discoveryOffer (s : State) (l : Fin 4) : Option Nat :=
  let k := s.link l
  if k.discovered then none
  else
    let wanted := (s.screensOn l).filter fun r => !r.2.ready
    ((wanted.filter fun r => decide (k.discoveryCursor ≤ addressOfScreen r.1)) ++
      (wanted.filter fun r => decide (addressOfScreen r.1 < k.discoveryCursor))).head?.map (·.1)

/-- The muster queue's offer (R147, step 2). -/
def State.musterOffer (s : State) (l : Fin 4) : Option SlotRef := (s.link l).musterQueue.find? (s.unsent l)

/-- The dirty queue's offer; every slot in it is passed over in MUSTER mode (R147, step 3). -/
def State.dirtyOffer (s : State) (l : Fin 4) : Option SlotRef :=
  if s.musterNow.proper then none else (s.link l).dirtyQueue.find? (s.unsent l)

/-- Whether a slot is due for refresh (R147, step 4). -/
def State.refreshDue (s : State) (l : Fin 4) (x : Screen) (k : SlotKind) : Bool :=
  let y := x.slot k
  let period := (s.link l).period
  decide (y.policy = .refreshed) && x.ready && (!s.musterNow.proper || decide (k = .muster)) &&
    y.lastSent.all fun ls => decide (ls.period ≠ period) && decide (ls.period ≠ period - 1#16)

/-- The place of a slot in the refresh walk. -/
def refreshPlace (address : Nat) (k : SlotKind) : Nat := 4 * address + k.code

/-- The refresh cursor's offer (R147, step 4). -/
def State.refreshOffer (s : State) (l : Fin 4) : Option SlotRef :=
  let due : List SlotRef := (s.screensOn l).flatMap fun r =>
    (slotOrder.filter (s.refreshDue l r.2)).map fun k => { screen := r.1, kind := k }
  let place (r : SlotRef) : Nat := refreshPlace (addressOfScreen r.screen) r.kind
  let cursor := refreshPlace (s.link l).refreshAddress (s.link l).refreshSlot
  ((due.filter fun r => decide (cursor ≤ place r)) ++ (due.filter fun r => decide (place r < cursor))).head?

/-- The keepalive cursor's offer (R147, step 5). -/
def State.keepaliveOffer (s : State) (l : Fin 4) : Option Nat :=
  let k := s.link l
  let due := (s.screensOn l).filter fun r => r.2.ready && decide (r.2.lastAddressed ≠ some k.period)
  ((due.filter fun r => decide (k.keepaliveCursor ≤ addressOfScreen r.1)) ++
    (due.filter fun r => decide (addressOfScreen r.1 < k.keepaliveCursor))).head?.map (·.1)

/-- The slot after one in the refresh walk. -/
def Link.refreshAfter (k : Link) (address : Nat) (kind : SlotKind) : Link :=
  match kind with
  | .route => { k with refreshAddress := address, refreshSlot := .programme }
  | .programme => { k with refreshAddress := address, refreshSlot := .notice }
  | .notice => { k with refreshAddress := address, refreshSlot := .muster }
  | .muster => { k with refreshAddress := nextScreenAddress address, refreshSlot := .route }

/-- The first offer of the five is sent, or the period ends (R147). -/
def State.sendNext (s : State) (l : Fin 4) : State :=
  match s.discoveryOffer l with
  | some n =>
    (s.modLink l fun k => { k with
      discovered := true, discoveryCursor := nextScreenAddress (addressOfScreen n) }).sendPacket l n .discover
  | none =>
    match s.musterOffer l with
    | some r => s.sendSlot l r
    | none =>
      match s.dirtyOffer l with
      | some r => s.sendSlot l r
      | none =>
        match s.refreshOffer l with
        | some r => (s.modLink l fun k => k.refreshAfter (addressOfScreen r.screen) r.kind).sendSlot l r
        | none =>
          match s.keepaliveOffer l with
          | some n =>
            (s.modLink l fun k => { k with
              keepaliveCursor := nextScreenAddress (addressOfScreen n) }).sendPacket l n .keepalive
          | none => s.modLink l fun k => { k with underWay := false }

/-- The link starts its next exchange if a period is under way and no exchange is in flight (R147). -/
def State.runLink (s : State) (l : Fin 4) : State :=
  let k := s.link l
  if k.enabled && k.underWay && k.exchange.isNone then
    if k.budget = 0 then s.modLink l fun k => { k with underWay := false } else s.sendNext l
  else s

/-- A period begins with a full budget; its first exchange starts unless one is in flight. -/
def State.beginPeriod (s : State) (l : Fin 4) : State :=
  (s.modLink l fun k => { k with
    budget := Config.linkBudget, underWay := true, discovered := false }).runLink l

/-! ### Periods (R146) -/

/-- A last sent that names a period is forgotten. -/
def Slot.forget (period : Word16) (y : Slot) : Slot :=
  if y.lastSent.any fun ls => decide (ls.period = period) then { y with lastSent := none } else y

/-- Changes every slot of a screen. -/
def Screen.mapSlots (x : Screen) (f : Slot → Slot) : Screen :=
  { x with routeSlot := f x.routeSlot, programmeSlot := f x.programmeSlot,
           noticeSlot := f x.noticeSlot, musterSlot := f x.musterSlot }

/-- A screen forgets a last sent or last addressed that names a period. -/
def Screen.forget (period : Word16) (x : Screen) : Screen :=
  let x := x.mapSlots (Slot.forget period)
  if x.lastAddressed = some period then { x with lastAddressed := none } else x

/-- Changes every screen on a link. -/
def State.modScreensOn (s : State) (l : Fin 4) (f : Screen → Screen) : State :=
  { s with screen := { s.screen with
      screens := s.screen.screens.map fun r => if linkOfScreen r.1 = l then (r.1, f r.2) else r } }

/-- The period timer expires: the period number rises and a new period begins (R146). -/
def State.nextPeriod (s : State) (l : Fin 4) : State :=
  let period := (s.link l).period + 1#16
  ((s.modLink l fun k => { k with period, timer := started }).modScreensOn l (Screen.forget period)).beginPeriod l

/-- A screen that is not known to answer (R146, R154). -/
def Screen.unfound (x : Screen) : Screen :=
  ({ x with attach := .absent, descValid := false, misses := 0, lastAddressed := none } : Screen).mapSlots
    fun y => { y with lastSent := none }

/-- A link whose period numbers, cursors and timer start afresh. -/
def Link.afresh (k : Link) : Link :=
  { k with timer := started, period := 0#16, discoveryCursor := 1, refreshAddress := 1,
           refreshSlot := .route, keepaliveCursor := 1 }

/-- Enabling a disabled link (R146). -/
def State.enableLink (s : State) (l : Fin 4) : State :=
  (s.modLink l fun k => ({ k with enabled := true } : Link).afresh).beginPeriod l

/-- Disabling an enabled link (R146). -/
def State.disableLink (s : State) (l : Fin 4) : State :=
  (s.modLink l fun k => { k with
    enabled := false, timer := stopped, exchange := none, underWay := false, musterQueue := [],
    dirtyQueue := [] }).modScreensOn l Screen.unfound

/-- A link's period setting changes; the timer of an enabled link restarts from zero (R146). -/
def Link.setPeriod (k : Link) (ms : Nat) : Link :=
  { k with periodSetting := ms, timer := if k.enabled then started else k.timer }

/-- One link at a warm restart, before its period begins (R154). -/
def Link.restart (k : Link) : Link :=
  let k := { k with exchange := none, musterQueue := [], dirtyQueue := [] }
  if k.enabled then k.afresh else k

/-- The screens and links at a warm restart (R154). -/
def State.restartScreens (s : State) : State :=
  let s := { s with screen := { s.screen with
    links := s.screen.links.map Link.restart
    screens := Table.mapAll s.screen.screens Screen.unfound } }
  allLinks.foldl (fun s l => if (s.link l).enabled then s.beginPeriod l else s) s

/-! ### Answers (R148 to R151, R192) -/

/-- An answer of any kind sets the miss count to 0. -/
def State.answered (s : State) (n : Nat) : State := s.modScreen n fun x => { x with misses := 0 }

/-- The descriptor-changed flag of an answer (R148). -/
def State.descriptorFlag (s : State) (n : Nat) (flags : Byte) : State :=
  if flags.getLsbD 0 then
    (s.modScreen n fun x => { x with descValid := false }).modLink (linkOfScreen n) fun k => k.leaveScreen n
  else s

/-- A slot whose packet's exchange has ended rejoins its queue if it is owed (R132). -/
def State.rejoin (s : State) (n : Nat) (p : Packet) : State :=
  match p with
  | .slot k _ _ _ => s.queueIfOwed { screen := n, kind := k }
  | .discover => s
  | .keepalive => s

/-- ACCEPT (R150): the accepted generation becomes the one the packet carried. -/
def State.takeAccept (s : State) (n : Nat) (p : Packet) : State :=
  match p with
  | .slot k g _ _ =>
    (s.modScreen n fun x => x.modSlot k fun y => { y with accepted := some g }).queueIfOwed { screen := n, kind := k }
  | .discover => s
  | .keepalive => s

/-- A screen becomes LOST (R151). -/
def State.loseScreen (s : State) (n : Nat) : State :=
  ((s.modScreen n fun x => { x with attach := .lost, misses := 0, descValid := false }).modLink
    (linkOfScreen n) fun k => k.leaveScreen n).raiseNotice .screenChange

/-- A miss (R150, R151). -/
def State.takeMiss (s : State) (n : Nat) (p : Packet) : State :=
  let s := s.rejoin n p
  match s.screenAt n with
  | none => s
  | some x =>
    if x.attach = .present then
      if x.misses + 1 < Config.missLimit then s.modScreen n fun x => { x with misses := x.misses + 1 }
      else s.loseScreen n
    else s

/-- A slot at a DISCOVER answer: owed unless its policy is OFF. -/
def Slot.owe (y : Slot) : Slot := if y.policy = .off then y else { y with accepted := none }

/-- A DISCOVER answered with a good descriptor (R149). -/
def State.takeDescriptor (s : State) (n : Nat) (d : Descriptor) : State :=
  let s := s.modScreen n fun x =>
    ({ x with descriptor := some d, descValid := true, attach := .present } : Screen).mapSlots Slot.owe
  (slotOrder.foldl (fun s k => s.queueIfOwed { screen := n, kind := k }) s).raiseNotice .screenChange

/-- A descriptor's fields in range: 1 to 8 lines and a class of the list. -/
def descriptorOf (lines : Byte) (rendered : Word16) (cls : Byte) : Option Descriptor :=
  match PanelClass.ofCode cls.toNat with
  | none => none
  | some c =>
    if 1 ≤ lines.toNat ∧ lines.toNat ≤ 8 then some { lines := lines.toNat, rendered, panelClass := c }
    else none

/-- Whether an answer repeats the packet: its address, and its slot and generation, which for a KEEPALIVE
are 0xFF and 0 (R192). -/
def repeats (n : Nat) (p : Packet) (address slot : Byte) (gen : Word16) : Bool :=
  decide (address.toNat = addressOfScreen n) &&
  match p with
  | .slot k g _ _ => decide (slot.toNat = k.code) && decide (gen = g)
  | .keepalive => decide (slot = 0xFF#8) && decide (gen = 0#16)
  | .discover => false

/-- The exchange in flight ends with an effect on its screen, and the next exchange starts. A detached
exchange is discarded (R135). -/
def State.endExchange (s : State) (l : Fin 4) (effect : State → Nat → Packet → State) : State :=
  match (s.link l).exchange with
  | none => s
  | some e =>
    let s := s.modLink l fun k => { k with exchange := none }
    (if e.detached then s else effect s e.screen e.packet).runLink l

/-- An ACCEPT arrives (R150, R192). -/
def State.acceptArrives (s : State) (l : Fin 4) (address flags slot : Byte) (gen : Word16) : State :=
  s.endExchange l fun s n p =>
    let s := s.answered n
    let s := if repeats n p address slot gen then s.takeAccept n p else s.rejoin n p
    s.descriptorFlag n flags

/-- A REJECT arrives, or an answer taken as one (R150, R192). -/
def State.rejectArrives (s : State) (l : Fin 4) (flags : Byte) : State :=
  s.endExchange l fun s n p => ((s.answered n).rejoin n p).descriptorFlag n flags

/-- A DESCRIPTOR arrives (R149, R192). -/
def State.descriptorArrives (s : State) (l : Fin 4) (address flags lines : Byte) (rendered : Word16)
    (cls : Byte) : State :=
  s.endExchange l fun s n p =>
    let s := s.answered n
    let s := match descriptorOf lines rendered cls with
      | none => s.rejoin n p
      | some d =>
        if p = Packet.discover ∧ address.toNat = addressOfScreen n then s.takeDescriptor n d else s.rejoin n p
    s.descriptorFlag n flags

/-- A corrupt, absent or unfinished answer: a miss. -/
def State.missArrives (s : State) (l : Fin 4) : State := s.endExchange l State.takeMiss

/-- The answer begins: the window stops and the limit starts (R148). -/
def Exchange.begun (e : Exchange) : Exchange := { e with window := stopped, limit := started }

end Sys2Proof.Machine
end

