-- ==== Sys2Proof/Machine/GraphRequests.lean ====
section
/-! DEFINITION. The requests on nodes and edges (01) and ROUTE_ASK (02 section 2.6). -/

namespace Sys2Proof.Machine

/-! ### Nodes -/

/-- NODE_PUT (R1). -/
def nodePut : Owner NodeBody := fun b s =>
  if Config.nodeSlots ≤ b.id ∨ Config.maxDeck < b.deck ∨ b.zone = 0 ∨ Config.maxZone < b.zone then
    (s, .refuse .badField)
  else match s.node b.id with
    | none =>
      let x : Node := { deck := b.deck, zone := b.zone, degree := 0, refs := 0 }
      ({ s with graph := { s.graph with nodes := Table.put s.graph.nodes b.id x } },
       .done (u8 Outcome.created.code))
    | some x =>
      let s := s.modNode b.id fun x => { x with deck := b.deck, zone := b.zone }
      (if x.deck = b.deck ∧ x.zone = b.zone then s else s.mark placeCauses,
       .done (u8 Outcome.amended.code))

/-- NODE_RETIRE (R2). -/
def nodeRetire : Owner Nat := fun id s =>
  if Config.nodeSlots ≤ id then (s, .refuse .badField)
  else match s.node id with
    | none => (s, .refuse .notFound)
    | some x =>
      if 0 < x.refs then (s, { result := .inUse, body := u16 x.refs ++ u8 x.degree })
      else ({ s with graph := { s.graph with nodes := Table.del s.graph.nodes id } }, .done [])

/-- The record of a node as NODE_GET answers it (10 section 10.3). -/
def nodeBytes (id : Nat) (x : Node) : List Byte :=
  u16 id ++ u8 x.deck ++ u8 x.zone ++ u8 x.degree ++ u16 x.refs

/-- NODE_GET (R3). -/
def nodeGet (id : Nat) (s : State) : Reply :=
  if Config.nodeSlots ≤ id then .refuse .badField
  else match s.node id with
    | none => .refuse .notFound
    | some x => .done (nodeBytes id x)

/-! ### Edges -/

/-- The two generations of an answer. -/
def State.gensBytes (s : State) : List Byte := u16 s.graph.genGeneral.toNat ++ u16 s.graph.genStepFree.toNat

/-- The edge a body gives, if every field is in its range (R6, check 1). That a flags byte with one of its bits 2
to 7 set is out of range is the model's choice (log 39). -/
def EdgeBody.edge (b : EdgeBody) : Option Edge :=
  match EdgeKind.ofCode b.kind, Direction.ofCode b.leaveA, Direction.ofCode b.leaveB with
  | some kind, some leaveA, some leaveB =>
    if b.id < Config.edgeSlots ∧ b.endA < Config.nodeSlots ∧ b.endB < Config.nodeSlots ∧
        1 ≤ b.length ∧ b.length ≤ Config.maxLength ∧ b.flags < 4 then
      some { endA := b.endA, endB := b.endB, length := b.length, kind, leaveA, leaveB,
             pass := if b.flags.testBit 0 then .closed else .opened, crewOnly := b.flags.testBit 1 }
    else none
  | _, _, _ => none

/-- The answer to an end that fails the degree test: the end and the node (R6, check 4). -/
def degreeReply (isB : Bool) (node : Nat) : Reply :=
  { result := .degree, body := u8 (if isB then 1 else 0) ++ u16 node }

/-- An accepted EDGE_PUT that creates (R6, R14). -/
def State.createEdge (s : State) (id : Nat) (e : Edge) : State :=
  let s := { s with graph := { s.graph with edges := Table.put s.graph.edges id e } }
  ((((s.addEnd e.endA).addEnd e.endB).liftRises e.openLift).graphRaise (decide (e.kind ≠ .stair))).startBuild

/-- An accepted EDGE_PUT that amends (R7, R14). -/
def State.amendEdge (s : State) (id : Nat) (old e : Edge) : State :=
  let s := { s with graph := { s.graph with edges := Table.put s.graph.edges id e } }
  let s := ((s.moveEnds old e).liftFalls old.openLift).liftRises e.openLift
  (s.graphRaise (!(decide (old.kind = .stair) && decide (e.kind = .stair)))).startBuild

/-- EDGE_PUT (R6, R7, R8). -/
def edgePut : Owner EdgeBody := fun b s =>
  match b.edge with
  | none => (s, .refuse .badField)
  | some e =>
    if e.endA = e.endB then (s, .refuse .badField)
    else if (s.node e.endA).isNone ∨ (s.node e.endB).isNone then (s, .refuse .badField)
    else if Config.endsPerNode ≤ s.endsOfOthers b.id e.endA then (s, degreeReply false e.endA)
    else if Config.endsPerNode ≤ s.endsOfOthers b.id e.endB then (s, degreeReply true e.endB)
    else match s.edge b.id with
      | none =>
        let s := s.createEdge b.id e
        (s, .done (u8 Outcome.created.code ++ s.gensBytes))
      | some old =>
        let s := s.amendEdge b.id old e
        (s, .done (u8 Outcome.amended.code ++ s.gensBytes))

/-- An EDGE_SET_PASS that changes the passability (R9, R14). -/
def State.setPass (s : State) (id : Nat) (e : Edge) (p : Passability) : State :=
  let lift := decide (e.kind = .lift) && !e.crewOnly
  let s := { s with graph := { s.graph with edges := Table.modify s.graph.edges id fun e => { e with pass := p } } }
  let s := (s.liftRises (lift && decide (p = .opened))).liftFalls (lift && decide (p = .closed))
  (s.graphRaise (decide (e.kind ≠ .stair))).startBuild

/-- EDGE_SET_PASS (R9). -/
def edgeSetPass : Owner (Nat × Nat) := fun b s =>
  match Passability.ofCode b.2 with
  | none => (s, .refuse .badField)
  | some p =>
    if Config.edgeSlots ≤ b.1 then (s, .refuse .badField)
    else match s.edge b.1 with
      | none => (s, .refuse .notFound)
      | some e =>
        if e.pass = p then (s, .done (u8 Outcome.unchanged.code ++ s.gensBytes))
        else
          let s := s.setPass b.1 e p
          (s, .done (u8 Outcome.changed.code ++ s.gensBytes))

/-- A live edge is retired (R10, R14). -/
def State.removeEdge (s : State) (id : Nat) (e : Edge) : State :=
  let s := { s with graph := { s.graph with edges := Table.del s.graph.edges id } }
  ((((s.dropEnd e.endA).dropEnd e.endB).liftFalls e.openLift).graphRaise (decide (e.kind ≠ .stair))).startBuild

/-- EDGE_RETIRE (R10). -/
def edgeRetire : Owner Nat := fun id s =>
  if Config.edgeSlots ≤ id then (s, .refuse .badField)
  else match s.edge id with
    | none => (s, .refuse .notFound)
    | some e =>
      let s := s.removeEdge id e
      (s, .done s.gensBytes)

/-- The flags byte of an edge: CLOSED, crew-only, and usable in each profile. -/
def State.edgeFlags (s : State) (e : Edge) : Nat :=
  (if e.pass = .closed then 1 else 0) + (if e.crewOnly then 2 else 0) +
    (if e.usableIn .general s.musterNow then 4 else 0) + (if e.usableIn .stepFree s.musterNow then 8 else 0)

/-- The record of an edge as EDGE_GET answers it (10 section 10.3). -/
def State.edgeBytes (s : State) (id : Nat) (e : Edge) : List Byte :=
  u16 id ++ u16 e.endA ++ u16 e.endB ++ u16 e.length ++ u8 e.kind.code ++ u8 e.leaveA.code ++
    u8 e.leaveB.code ++ u8 (s.edgeFlags e)

/-- EDGE_GET (R11). -/
def edgeGet (id : Nat) (s : State) : Reply :=
  if Config.edgeSlots ≤ id then .refuse .badField
  else match s.edge id with
    | none => .refuse .notFound
    | some e => .done (s.edgeBytes id e)

/-! ### ROUTE_ASK (R40, R41) -/

/-- The place of a map in the rebuild work: kind, class and position. The bytes that a map not queued
has no value for are free (log 7). -/
def State.mapPlace (s : State) (m : MapName) : List Byte :=
  if s.route.build.any fun b => decide (b.map = m) then
    [2#8, Config.freeByte s.fresh 2, Config.freeByte s.fresh 3]
  else match position m s.route.urgent, position m s.route.ordinary with
    | 0, 0 => [0#8, Config.freeByte s.fresh 2, Config.freeByte s.fresh 3]
    | 0, p + 1 => u8 1 ++ u8 QueueClass.ordinary.code ++ u8 (p + 1)
    | p + 1, _ => u8 1 ++ u8 QueueClass.urgent.code ++ u8 (p + 1)

/-- The body of a ROUTE_ASK that passes its checks (R40, 10 section 10.6). -/
def State.routeBytes (s : State) (m : MapName) (origin : Nat) (asked : Bool) (f : Option Facing) : List Byte :=
  let a := s.lookup m origin
  let arrow := f.bind fun f => (a.arrow f).map (·.code)
  let st := ((s.mapAt m).map fun r => r.state.code).getD MapState.empty.code
  let built := (s.mapAt m).bind (·.builtGen)
  let (edges, cut) := s.traceOf m origin asked
  u8 a.kind.code ++ u16 a.dist ++ optId a.next ++ optByte (a.leave.map (·.code)) ++ optByte arrow ++
    u8 st ++ presence s.fresh 0 built ++ u16 (s.genOf m.profile).toNat ++ s.mapPlace m ++
    u8 edges.length ++ yesNo cut ++ edges.flatMap fun e => u16 e.1 ++ u8 e.2.code

/-- An optional facing: 0xFF is absent. -/
def facingOfRaw (n : Nat) : Option (Option Facing) :=
  if n = 0xFF then some none else (Facing.ofCode n).map some

/-- ROUTE_ASK (R40). DEDUCED (log 31), safe: a trace flag other than 0 or 1 is out of range (R188). -/
def routeAsk (b : RouteAskBody) (s : State) : Reply :=
  match Profile.ofCode b.profile, facingOfRaw b.facing with
  | some p, some f =>
    if Config.nodeSlots ≤ b.origin ∨ Config.targetSlots ≤ b.target ∨ 1 < b.trace then .refuse .badField
    else if (s.targetAt b.target).isNone then .because .notFound .target
    else if (s.node b.origin).isNone then .because .notFound .node
    else .done (s.routeBytes { target := b.target, profile := p } b.origin (b.trace = 1) f)
  | _, _ => .refuse .badField

/-! ### Commands -/

def execNodePut (tag : Byte) (body : List Byte) (s : State) : Host.Outcome State Fault Refusal :=
  .next (serve tag (parseNode body) true nodePut s)

def execNodeRetire (tag : Byte) (body : List Byte) (s : State) : Host.Outcome State Fault Refusal :=
  .next (serve tag (body2 body) true nodeRetire s)

def execNodeGet (tag : Byte) (body : List Byte) (s : State) : Host.Outcome State Fault Refusal :=
  .next (serve tag (body2 body) false (reading nodeGet) s)

def execEdgePut (tag : Byte) (body : List Byte) (s : State) : Host.Outcome State Fault Refusal :=
  .next (serve tag (parseEdge body) true edgePut s)

def execEdgeSetPass (tag : Byte) (body : List Byte) (s : State) : Host.Outcome State Fault Refusal :=
  .next (serve tag (body21 body) true edgeSetPass s)

def execEdgeRetire (tag : Byte) (body : List Byte) (s : State) : Host.Outcome State Fault Refusal :=
  .next (serve tag (body2 body) true edgeRetire s)

def execEdgeGet (tag : Byte) (body : List Byte) (s : State) : Host.Outcome State Fault Refusal :=
  .next (serve tag (body2 body) false (reading edgeGet) s)

def execRouteAsk (tag : Byte) (body : List Byte) (s : State) : Host.Outcome State Fault Refusal :=
  .next (serve tag (parseRouteAsk body) false (reading routeAsk) s)

end Sys2Proof.Machine
end

