-- ==== Sys2Proof/Machine/MusterControl.lean ====
section
/-! DEFINITION. The Muster Controller's own operations (08): transitions, the ALARM_IN filter, the drill
timer, the stand-down condition; and the settling of work that every event ends with (R27, R90). -/

namespace Sys2Proof.Machine

/-! ### What every event ends with -/

/-- A build starts if the engine is idle (R27), and each trunk that is free picks its work (R90). -/
def State.settle (s : State) : State := s.startBuild.pickAll

/-! ### The stand-down condition (R164 to R166) -/

/-- A trunk counts while it is enabled and not in FAULT. -/
def Trunk.counts (t : Trunk) : Bool := t.enabled && decide (t.state ≠ .fault)

/-- A trunk that counts and has stood down. -/
def Trunk.stoodDown (t : Trunk) : Bool := t.counts && decide (t.believed = some .normal)

/-- How many trunks are outstanding. -/
def State.trunksOutstanding (s : State) : Nat :=
  (allTrunks.filter fun i => (s.trunk i).counts && !(s.trunk i).stoodDown).length

/-- A screen counts while it is PRESENT on an enabled link. -/
def State.screenCounts (s : State) (n : Nat) (x : Screen) : Bool :=
  decide (x.attach = .present) && (s.link (linkOfScreen n)).enabled

/-- How many screens count. -/
def State.screensCounting (s : State) : Nat :=
  (s.screen.screens.filter fun r => s.screenCounts r.1 r.2).length

/-- How many screens count and have accepted their MUSTER generation. -/
def State.screensAccepted (s : State) : Nat :=
  (s.screen.screens.filter fun r => s.screenCounts r.1 r.2 && !r.2.musterSlot.dirty).length

/-- How many screens are outstanding. -/
def State.screensOutstanding (s : State) : Nat :=
  (s.screen.screens.filter fun r => s.screenCounts r.1 r.2 && r.2.musterSlot.dirty).length

/-- The stand-down condition holds. -/
def State.standDownHolds (s : State) : Bool :=
  decide (s.trunksOutstanding = 0) && decide (s.screensOutstanding = 0)

/-- The condition is judged: in STAND_DOWN, if it holds, a completion is to follow (R166). -/
def State.judgeStandDown (s : State) : State :=
  if s.musterNow = .standDown ∧ s.standDownHolds = true then
    { s with muster := { s.muster with completion := true } }
  else s

/-! ### Transitions (R155) -/

/-- The kind after a transition: an entry into DRILL or ALARM sets it. -/
def MusterState.kindAfter (new : MusterState) (old : MusterKind) : MusterKind :=
  match new with
  | .drill => .drill
  | .alarm => .alarm
  | .standDown => old
  | .normal => old

/-- The drill timer after a transition (R162). -/
def MusterState.drillTimerAfter (new : MusterState) (limit : Nat) : Timer :=
  match new with
  | .drill => if 0 < limit then started else stopped
  | .alarm => stopped
  | .standDown => stopped
  | .normal => stopped

/-- What the Muster Controller itself does at a transition. -/
def MusterControl.enter (m : MusterControl) (new : MusterState) (cause : LastCause) : MusterControl :=
  { m with state := new, kind := new.kindAfter m.kind, cause, entryCount := 0, entryTimer := started,
           drillTimer := new.drillTimerAfter m.drillLimit }

/-- A transition, as every block takes it (R155). Slots are marked once, and the stand-down condition is
judged at the entry into STAND_DOWN, after every block has taken it (R166). -/
def State.transition (s : State) (new : MusterState) (cause : LastCause) : State :=
  let old := s.musterNow
  let s := ({ s with muster := s.muster.enter new cause } : State).raiseNotice .musterChange
  let s := (s.graphTakesTransition old).cabinsTakeTransition old
  let (s, changes) := s.programmeTakesTransition old
  let s := (s.mark ((transitionCauses new).or (s.entryCauses changes.venues))).settle
  s.judgeStandDown

/-! ### The ALARM_IN filter (R158, R160, R161) -/

/-- The raw level changes. -/
def MusterControl.rawChange (m : MusterControl) (low : Bool) : MusterControl :=
  if low = m.rawLow then m
  else { m with rawLow := low, filterTimer := if low = m.asserted then stopped else started }

/-- The filter expires: the filtered level changes to match the raw level. -/
def State.filterExpires (s : State) : State :=
  let low := s.muster.rawLow
  let s := { s with muster := { s.muster with asserted := low, filterTimer := stopped } }
  if low then
    match s.musterNow with
    | .normal => s.transition .alarm .alarmIn
    | .drill => s.transition .alarm .alarmIn
    | .standDown => s.transition .alarm .alarmIn
    | .alarm => s
  else s

/-! ### The drill timer (R162) -/

/-- The drill limit changes. -/
def MusterControl.setDrillLimit (m : MusterControl) (limit : Nat) : MusterControl :=
  { m with drillLimit := limit
           drillTimer := if m.state = .drill then (if 0 < limit then started else stopped)
             else m.drillTimer }

/-- The drill timer's remaining time in whole seconds, absent while it is stopped. DESIGN CHOICE
(log 9), safe: whether a part of a second counts is free. -/
def MusterControl.drillRemaining (m : MusterControl) : Option Nat :=
  m.drillTimer.map fun t =>
    let ms := m.drillLimit * Config.minuteMs - t
    if ms % 1000 ≠ 0 ∧ Config.drillRemainderRoundsUp = true then ms / 1000 + 1 else ms / 1000

/-! ### The completion (R166) -/

/-- A stand-down completion is taken. -/
def State.completeStandDown (s : State) : State :=
  let s := { s with muster := { s.muster with completion := false } }
  if s.musterNow = .standDown ∧ s.standDownHolds = true then s.transition .normal .completion else s

end Sys2Proof.Machine
end

