-- ==== Sys2Proof/Machine/LinkEvents.lean ====
section
/-! DEFINITION. The events of the screen links (07 sections 7.6 and 7.7) and the completion of a map
build (R34). An answer or an expiry without its exchange changes nothing (log 2). -/

namespace Sys2Proof.Machine

/-! ### Screens and the stand-down condition (R152) -/

/-- Whether, since an earlier state, a screen has stood down or has left the condition. -/
def State.screenStoodDown (s before : State) : Bool :=
  decide (s.screensOutstanding < before.screensOutstanding) ||
    decide (s.screensCounting < before.screensCounting)

/-- The Muster Controller is told of it, and judges the condition (R152, R166). -/
def State.tellMuster (s before : State) : State :=
  if s.screenStoodDown before then s.judgeStandDown else s

/-! ### Commands -/

/-- PERIOD_TIMER_EXPIRY (R146). -/
def execPeriodTimerExpiry (l : Fin 4) (s : State) : Host.Outcome State Fault Refusal :=
  .next (match (s.link l).timer with
    | none => s
    | some _ => s.nextPeriod l)

/-- ACCEPT (R150, R192). -/
def execAccept (l : Fin 4) (address flags slot : Byte) (gen : Word16) (s : State) :
    Host.Outcome State Fault Refusal :=
  .next ((s.acceptArrives l address flags slot gen).tellMuster s)

/-- REJECT (R150, R192): whatever it repeats, it is taken as a REJECT. -/
def execReject (l : Fin 4) (_address flags _slot : Byte) (_gen : Word16) (s : State) :
    Host.Outcome State Fault Refusal :=
  .next (s.rejectArrives l flags)

/-- DESCRIPTOR (R149, R192). -/
def execDescriptor (l : Fin 4) (address flags lines : Byte) (languages : Word16) (panelClass : Byte)
    (s : State) : Host.Outcome State Fault Refusal :=
  .next (s.descriptorArrives l address flags lines languages panelClass)

/-- CORRUPT_ANSWER (R148, R151). -/
def execCorruptAnswer (l : Fin 4) (s : State) : Host.Outcome State Fault Refusal :=
  .next ((s.missArrives l).tellMuster s)

/-- Whether a timer of the exchange in flight runs. -/
def Link.awaits (k : Link) (timer : Exchange → Timer) : Bool := k.exchange.any fun e => (timer e).isSome

/-- ANSWER_WINDOW_EXPIRY (R148, R151). -/
def execAnswerWindowExpiry (l : Fin 4) (s : State) : Host.Outcome State Fault Refusal :=
  .next (if (s.link l).awaits (·.window) then (s.missArrives l).tellMuster s else s)

/-- ANSWER_LIMIT_EXPIRY (R148, R151). -/
def execAnswerLimitExpiry (l : Fin 4) (s : State) : Host.Outcome State Fault Refusal :=
  .next (if (s.link l).awaits (·.limit) then (s.missArrives l).tellMuster s else s)

/-- SCREEN_ANSWER_BEGIN (R148). -/
def execScreenAnswerBegin (l : Fin 4) (s : State) : Host.Outcome State Fault Refusal :=
  .next (if (s.link l).awaits (·.window) then
      s.modLink l fun k => { k with exchange := k.exchange.map Exchange.begun }
    else s)

/-! ### BUILD_COMPLETION (R34) -/

/-- A map that has been built: content, generation, state (R34, steps 1 to 3). -/
def RouteMap.built (r : RouteMap) (entries : Table MapEntry) (g : Gen) : RouteMap :=
  { r with state := .current, contentHeld := true, builtGen := some g, entries }

/-- The build of a map completes (R34, R36). -/
def State.completeBuild (s : State) (b : Build) : State :=
  let entries := s.buildResult b.map
  let s := s.modMap b.map fun r => r.built entries b.gen
  let s := { s with route := { s.route with build := none } }
  let s := (s.mark (s.mapCauses b.map)).startBuild
  if s.settled then s.raiseNotice .mapsSettled else s

/-- BUILD_COMPLETION (R34). -/
def execBuildCompletion (s : State) : Host.Outcome State Fault Refusal :=
  .next (match s.route.build with
    | none => s
    | some b => s.completeBuild b)

end Sys2Proof.Machine
end

