-- ==== Sys2Proof/Machine/TargetRequests.lean ====
section
/-! DEFINITION. The requests on targets and stations (03). -/

namespace Sys2Proof.Machine

/-! ### TARGET_PUT (R46, R47) -/

/-- The kind of a body and, for a STATION, its letter and capacity, if every field is in its range (R46,
check 1). -/
def TargetBody.kindGiven (b : TargetBody) : Option (Option (Nat × Nat)) :=
  if Config.targetSlots ≤ b.id ∨ Config.nodeSlots ≤ b.anchor then none
  else match b.kind with
    | 0 => some none
    | 1 =>
      if b.letter < Config.liveStations ∧ b.capacity ≤ Config.maxCapacity then some (some (b.letter, b.capacity))
      else none
    | _ => none

/-- A new station: blocked clear, tallies 0 and over clear. -/
def Station.fresh (letter capacity : Nat) : Station :=
  { letter, capacity, blocked := false, assigned := 0, swept := 0, occupied := 0, overFlag := false }

/-- The station fields after a put: kept ones keep their flag and tallies (R47). -/
def stationAfter (given : Option (Nat × Nat)) (held : Option Station) : Option Station :=
  match given, held with
  | none, _ => none
  | some (letter, capacity), none => some (Station.fresh letter capacity)
  | some (letter, capacity), some st => some { st with letter, capacity }

/-- A TARGET_PUT that creates (R46). -/
def State.createTarget (s : State) (b : TargetBody) (given : Option (Nat × Nat)) : State :=
  let x : Target := { anchor := b.anchor, label := b.label, refs := 0, station := stationAfter given none }
  let s := { s with target := { s.target with targets := Table.put s.target.targets b.id x } }
  let s := (s.claimNode b.anchor).createMaps b.id
  (if given.isSome then s.mark everyMuster else s).startBuild

/-- The causes of an amend (R47, R143); the fields are the new ones already. -/
def State.amendTargetCauses (s : State) (t : Nat) (kind letter label : Bool) : Causes := fun n x k =>
  ((kind || letter) && everyMuster n x k) || (letter && routesShowing t n x k) ||
    (label && s.labelCauses t n x k)

/-- A TARGET_PUT that amends (R47). -/
def State.amendTarget (s : State) (b : TargetBody) (given : Option (Nat × Nat)) (old : Target) : State :=
  let before := s
  let st := stationAfter given old.station
  let kindChanged := decide (st.isSome ≠ old.station.isSome)
  let kept := st.isSome && old.station.isSome
  let letterChanged := kept && decide (st.map (·.letter) ≠ old.station.map (·.letter))
  let labelChanged := decide (b.label ≠ old.label)
  let moved := decide (b.anchor ≠ old.anchor)
  let s := s.modTarget b.id fun x => { x with anchor := b.anchor, label := b.label, station := st }
  let s := if moved then (s.releaseNode old.anchor).claimNode b.anchor else s
  let s := if kindChanged && st.isSome && s.musterNow.proper then s.hurryTarget b.id else s
  let s := if moved then s.anchorMoved b.id else s
  let s := if kept then s.judgeOver before else s
  let s := if letterChanged then s.facesChanged (s.assignedTo b.id) else s
  (s.mark (s.amendTargetCauses b.id kindChanged letterChanged labelChanged)).settle

/-- TARGET_PUT (R46, R47). -/
def targetPut : Owner TargetBody := fun b s =>
  match b.kindGiven with
  | none => (s, .refuse .badField)
  | some given =>
    if (s.node b.anchor).isNone then (s, .because .badField .anchor)
    else
      let held := s.targetAt b.id
      if held.any fun x => decide (x.station.isSome ≠ given.isSome) && decide (0 < x.refs) then
        (s, { result := .inUse, body := u16 ((held.map (·.refs)).getD 0) })
      else match given.bind fun g => s.holderOfLetter g.1 b.id with
        | some holder => (s, { result := .exists_, body := u8 holder })
        | none =>
          match held with
          | none => (s.createTarget b given, .done (u8 Outcome.created.code))
          | some old => (s.amendTarget b given old, .done (u8 Outcome.amended.code))

/-! ### TARGET_RETIRE and TARGET_GET (R48, R49) -/

/-- A target is retired (R48). -/
def State.removeTarget (s : State) (t : Nat) (x : Target) : State :=
  let s := { s with target := { s.target with targets := Table.del s.target.targets t } }
  let s := (s.releaseNode x.anchor).freeMaps t
  (if x.station.isSome then s.mark everyMuster else s).startBuild

/-- TARGET_RETIRE (R48). -/
def targetRetire : Owner Nat := fun t s =>
  if Config.targetSlots ≤ t then (s, .refuse .badField)
  else match s.targetAt t with
    | none => (s, .refuse .notFound)
    | some x =>
      if 0 < x.refs then (s, { result := .inUse, body := u16 x.refs })
      else (s.removeTarget t x, .done [])

/-- The letter and capacity fields; those of a VENUE read as absent (10 section 10.3). -/
def stationPutBytes : Option Station → List Byte
  | none => u8 0xFF ++ u16 0xFFFF
  | some st => u8 st.letter ++ u16 st.capacity

/-- The flags and tallies; a VENUE has none, and the bytes in their place are free (log 7). -/
def stationKeptBytes (fresh : Nat) : Option Station → List Byte
  | none =>
    [Config.freeByte fresh 0 &&& 3#8, Config.freeByte fresh 1, Config.freeByte fresh 2,
     Config.freeByte fresh 3, Config.freeByte fresh 4, Config.freeByte fresh 5, Config.freeByte fresh 6]
  | some st =>
    u8 ((if st.blocked then 1 else 0) + (if st.overFlag then 2 else 0)) ++ u16 st.assigned ++
      u16 st.swept ++ u16 st.occupied

/-- The record of a target as TARGET_GET answers it (10 section 10.3). -/
def State.targetBytes (s : State) (t : Nat) (x : Target) : List Byte :=
  u8 t ++ u8 (if x.station.isSome then 1 else 0) ++ u16 x.anchor ++ u16 x.label ++
    stationPutBytes x.station ++ u16 x.refs ++ stationKeptBytes s.fresh x.station

/-- TARGET_GET (R49). -/
def targetGet (t : Nat) (s : State) : Reply :=
  if Config.targetSlots ≤ t then .refuse .badField
  else match s.targetAt t with
    | none => .refuse .notFound
    | some x => .done (s.targetBytes t x)

/-! ### STATION_BLOCK and STATION_UNBLOCK (R54, R55) -/

/-- The tallies of a station in an answer. -/
def Station.tallyBytes (st : Station) : List Byte := u16 st.assigned ++ u16 st.swept ++ u16 st.occupied

/-- How many cabins a change of a blocked flag affects (R55, step 2). -/
def State.affectedCount (s : State) (t : Nat) (blocked : Bool) : Nat :=
  ((s.modStation t fun st => { st with blocked }).reassigned s).length

/-- The event of a block or unblock that changes the flag (R55). -/
def State.changeBlocked (s : State) (t : Nat) (blocked : Bool) : State :=
  ((s.setBlocked t blocked).mark everyMuster).pickAll

/-- STATION_BLOCK and STATION_UNBLOCK (R54). -/
def stationSet (blocked : Bool) : Owner Nat := fun t s =>
  if Config.targetSlots ≤ t then (s, .refuse .badField)
  else match s.targetAt t with
    | none => (s, .refuse .notFound)
    | some x =>
      match x.station with
      | none => (s, .because .badField .kind)
      | some st =>
        if st.blocked = blocked then
          (s, .done (u8 Outcome.unchanged.code ++ u16 0 ++ st.tallyBytes))
        else
          let s' := s.changeBlocked t blocked
          (s', .done (u8 Outcome.changed.code ++ u16 (s.affectedCount t blocked) ++
            ((s'.stationAt t).map (·.tallyBytes)).getD []))

/-! ### Commands -/

def execTargetPut (tag : Byte) (body : List Byte) (s : State) : Host.Outcome State Fault Refusal :=
  .next (serve tag (parseTarget body) true targetPut s)

def execTargetRetire (tag : Byte) (body : List Byte) (s : State) : Host.Outcome State Fault Refusal :=
  .next (serve tag (body1 body) true targetRetire s)

def execTargetGet (tag : Byte) (body : List Byte) (s : State) : Host.Outcome State Fault Refusal :=
  .next (serve tag (body1 body) false (reading targetGet) s)

def execStationBlock (tag : Byte) (body : List Byte) (s : State) : Host.Outcome State Fault Refusal :=
  .next (serve tag (body1 body) true (stationSet true) s)

def execStationUnblock (tag : Byte) (body : List Byte) (s : State) : Host.Outcome State Fault Refusal :=
  .next (serve tag (body1 body) true (stationSet false) s)

end Sys2Proof.Machine
end

