-- ==== Sys2Proof/Machine/MusterRequests.lean ====
section
/-! DEFINITION. The muster requests and the Muster Controller's own events (08). -/

namespace Sys2Proof.Machine

/-! ### MUSTER_START and MUSTER_END (R156, R157) -/

/-- The answer of a MUSTER_START. -/
def State.startReply (s : State) (o : Outcome) : Reply :=
  .done (u8 o.code ++ u8 s.musterNow.code ++ u8 s.muster.kind.code)

/-- A MUSTER_START that makes a transition. -/
def State.startMuster (s : State) (new : MusterState) : State × Reply :=
  let s := s.transition new .request
  (s, s.startReply .changed)

/-- MUSTER_START (R156). -/
def musterStart : Owner Nat := fun kind s =>
  match kind, s.musterNow with
  | 1, .normal => s.startMuster .drill
  | 1, .drill => s.startMuster .drill
  | 1, .standDown => s.startMuster .drill
  | 1, .alarm => (s, .because .refusedState .alarm)
  | 2, .normal => s.startMuster .alarm
  | 2, .drill => s.startMuster .alarm
  | 2, .standDown => s.startMuster .alarm
  | 2, .alarm => (s, s.startReply .unchanged)
  | _, _ => (s, .refuse .badField)

/-- The answer of a MUSTER_END, with the outstanding numbers at the end of the event. -/
def State.endReply (s : State) (o : Outcome) : Reply :=
  .done (u8 o.code ++ u8 s.musterNow.code ++ u8 s.muster.kind.code ++ u8 s.trunksOutstanding ++
    u16 s.screensOutstanding)

/-- A MUSTER_END in the muster proper: refused while the filtered line is ASSERTED. -/
def State.endMuster (s : State) : State × Reply :=
  if s.muster.asserted then (s, .because .refusedState .alarmIn)
  else
    let s := s.transition .standDown .request
    (s, s.endReply .changed)

/-- MUSTER_END (R157). DRILL with the line ASSERTED cannot stand (log 19). -/
def musterEnd : Owner Unit := fun _ s =>
  match s.musterNow with
  | .normal => (s, .because .refusedState .normal)
  | .drill => s.endMuster
  | .alarm => s.endMuster
  | .standDown => (s, s.endReply .unchanged)

/-! ### MUSTER_STATUS (R169) -/

/-- The figures of one station. -/
def stationStatus (r : Nat × Station) : List Byte :=
  u8 r.1 ++ u8 r.2.letter ++ yesNo r.2.blocked ++ u16 r.2.capacity ++ r.2.tallyBytes ++ yesNo r.2.overFlag

/-- The figures of one trunk. -/
def State.trunkStatus (s : State) (i : Fin 16) : List Byte :=
  let t := s.trunk i
  u8 t.state.code ++ u8 (believedCode t.believed) ++ u8 s.musterNow.plateMode.code ++ yesNo t.counts ++
    yesNo t.stoodDown ++ s.plateCountBytes i

/-- How many station maps of a profile are CURRENT. -/
def State.stationMapsCurrent (s : State) (p : Profile) : Nat :=
  (s.stations.filter fun r =>
    (s.mapAt { target := r.1, profile := p }).any fun m => decide (m.state = .current)).length

/-- The answer of MUSTER_STATUS (10 section 10.6). -/
def State.statusBytes (s : State) : List Byte :=
  let m := s.muster
  u8 m.state.code ++ u8 m.kind.code ++ u8 m.cause.code ++ u16 m.entryCount ++ u8 m.drillLimit ++
    presence s.fresh 0 (m.drillRemaining.map (BitVec.ofNat 16)) ++ yesNo m.asserted ++
    yesNo m.filterTimer.isSome ++ u8 s.stations.length ++ s.stations.flatMap stationStatus ++
    u16 s.target.unassigned ++ allTrunks.flatMap s.trunkStatus ++ u16 s.screensCounting ++
    u16 s.screensAccepted ++ u8 s.trunksOutstanding ++ u16 s.screensOutstanding ++ u8 s.stations.length ++
    u8 (s.stationMapsCurrent .general) ++ u8 (s.stationMapsCurrent .stepFree)

/-- MUSTER_STATUS (R169). -/
def musterStatus (_ : Unit) (s : State) : Reply := .done s.statusBytes

/-! ### Commands -/

def execMusterStart (tag : Byte) (body : List Byte) (s : State) : Host.Outcome State Fault Refusal :=
  .next (serve tag (body1 body) false musterStart s)

def execMusterEnd (tag : Byte) (body : List Byte) (s : State) : Host.Outcome State Fault Refusal :=
  .next (serve tag (body0 body) false musterEnd s)

def execMusterStatus (tag : Byte) (body : List Byte) (s : State) : Host.Outcome State Fault Refusal :=
  .next (serve tag (body0 body) false (reading musterStatus) s)

/-- ALARM_IN_CHANGE (R158). -/
def execAlarmInChange (low : Bool) (s : State) : Host.Outcome State Fault Refusal :=
  .next { s with muster := s.muster.rawChange low }

/-- ALARM_IN_FILTER_EXPIRY (R158, R160, R161). -/
def execAlarmInFilterExpiry (s : State) : Host.Outcome State Fault Refusal :=
  .next (match s.muster.filterTimer with
    | none => s
    | some _ => s.filterExpires)

/-- DRILL_TIMER_EXPIRY (R163). -/
def execDrillTimerExpiry (s : State) : Host.Outcome State Fault Refusal :=
  .next (match s.muster.drillTimer, s.musterNow with
    | some _, .drill => s.transition .standDown .drillLimit
    | some _, .normal => s
    | some _, .alarm => s
    | some _, .standDown => s
    | none, _ => s)

/-- The entry count rises by one and holds at 65,535; its timer starts again (R168). -/
def MusterControl.entrySecond (m : MusterControl) : MusterControl :=
  { m with entryCount := min (m.entryCount + 1) 65535, entryTimer := started }

/-- ENTRY_COUNT_TIMER_EXPIRY (R168). -/
def execEntryCountTimerExpiry (s : State) : Host.Outcome State Fault Refusal :=
  .next (match s.muster.entryTimer with
    | none => s
    | some _ => { s with muster := s.muster.entrySecond })

/-- STAND_DOWN_COMPLETION (R166). -/
def execStandDownCompletion (s : State) : Host.Outcome State Fault Refusal :=
  .next (if s.muster.completion then s.completeStandDown else s)

end Sys2Proof.Machine
end

