-- ==== Sys2Proof/Machine/PortEvents.lean ====
section
/-! DEFINITION. The Service Port's own events (09): transactions without a request, overruns, bad frames and unknown
requests, and the two resets (R187). -/

namespace Sys2Proof.Machine

/-! ### Transactions that hand no request on -/

/-- READ_ANSWER (R175), whose transaction byte is 0x5A, and a transaction of neither kind (R172, log 35). -/
def execReadAnswer (x : Transaction) (s : State) : Host.Outcome State Fault Refusal := .next (s.transact x)

/-- The status byte while a request is in processing. -/
def State.statusInProcessing (s : State) : Byte :=
  ({ s with port := { s.port with processing := true } } : State).statusByte

/-- PORT_OVERRUN (R173, check 1). The request in processing is one that the model has taken already
(log 3). -/
def execPortOverrun (s : State) : Host.Outcome State Fault Refusal :=
  .next ((s.drive [s.statusInProcessing]).raiseNotice .portOverrun)

/-- A frame that is answered without being handed on (R173, R174). -/
def State.answerFrameWith (s : State) (tag : Byte) (r : Reply) : State := s.beginRequest.placeAnswer tag r

/-- BAD_FRAME (R173, checks 2 and 3), answered with the tag as received. A frame that passes both is another
command (log 2). A REQUEST that ends after the status byte has begun no frame: it changes nothing (R172). -/
def execBadFrame (bytes : List Byte) (s : State) : Host.Outcome State Fault Refusal :=
  .next (match bytes with
    | [] => s.transact { byte := 0xA5#8, clocks := 0 }
    | tag :: _ =>
      match judgeFrame bytes with
      | .badLength => s.answerFrameWith tag (.because .badFrame .length)
      | .badCheck => s.answerFrameWith tag (.because .badFrame .check)
      | .good _ _ _ => s)

/-- UNKNOWN_REQUEST (R173, check 4). A code that names a request is another command (log 2). -/
def execUnknownRequest (tag code : Byte) (s : State) : Host.Outcome State Fault Refusal :=
  .next (match requestOf code tag [] with
    | none => s.answerFrameWith tag (.refuse .unknownRequest)
    | some _ => s)

/-! ### Power-on and pin reset -/

/-- A trunk after a reset: its wires are where the outside has them (log 4). -/
def Trunk.resetKeepingWires (t : Trunk) : Trunk :=
  { Trunk.reset with clockHigh := t.clockHigh, dataHigh := t.dataHigh }

/-- The Muster Controller after a reset: the filter reads the raw level, and runs if it is low (R170). -/
def MusterControl.resetKeepingLine (m : MusterControl) : MusterControl :=
  { State.reset.muster with
    rawLow := m.rawLow, filterTimer := if m.rawLow then some 0 else none }

/-- The part after a power-on or pin reset (R18, R44, R57, R79, R108, R128, R153, R170, R187). The levels
that the outside drives stay, and so do the commands that wait and the model's counter (log 4). -/
def State.resetWith (s : State) (cause : ResetCause) : State :=
  { State.reset with
    plate := { State.reset.plate with trunks := s.plate.trunks.map Trunk.resetKeepingWires }
    muster := s.muster.resetKeepingLine
    port := { State.reset.port with resetCause := cause }
    fresh := s.fresh
    pending := s.pending }

/-- POWER_ON_RESET (R187). -/
def execPowerOnReset (s : State) : Host.Outcome State Fault Refusal := .next (s.resetWith .powerOn)

/-- PIN_RESET (R187). -/
def execPinReset (s : State) : Host.Outcome State Fault Refusal := .next (s.resetWith .pin)

end Sys2Proof.Machine
end

