-- ==== Sys2Proof/Machine/ProgrammeRequests.lean ====
section
/-! DEFINITION. The requests on programme entries and the Ship Clock (06), and the second timer. -/

namespace Sys2Proof.Machine

/-! ### EVENT_PUT (R113, R114) -/

/-- The entry a body gives, SCHEDULED and unmoved, if every field is in its range (R113, check 1). -/
def EntryBody.entry (b : EntryBody) : Option Entry :=
  match Fill.ofCode b.fill with
  | none => none
  | some fill =>
    if 1 ≤ b.id ∧ b.start < Config.maxMinute ∧ b.finish ≤ Config.maxMinute ∧
        b.venue < Config.targetSlots ∧ 1 ≤ b.title ∧ b.category < 16 then
      some { id := b.id, start := b.start, finish := b.finish, venue := b.venue, title := b.title,
             category := b.category, fill, moved := false, state := .scheduled }
    else none

/-- The end is greater than the start and the duration at most 1,440 (R113, check 2). -/
def Entry.timesOk (e : Entry) : Bool :=
  decide (e.start < e.finish) && decide (e.finish ≤ e.start + Config.maxDuration)

/-- Whether a target is a live VENUE. -/
def State.venueOk (s : State) (t : Nat) : Bool := (s.targetAt t).any fun x => x.station.isNone

/-- An EVENT_PUT that passes its checks, with the state it was judged to (R114). -/
def State.createEntry (s : State) (slot : Nat) (e : Entry) (st : EntryState) : State :=
  let s := { s with programme := { s.programme with
    entries := Table.put s.programme.entries slot { e with state := st } } }
  let s := s.claimTarget e.venue
  s.mark (s.entryCauses [e.venue])

/-- EVENT_PUT (R113, R114). -/
def eventPut : Owner EntryBody := fun b s =>
  match b.entry with
  | none => (s, .refuse .badField)
  | some e =>
    if !e.timesOk then (s, .because .badField .times)
    else match s.judgeNow e with
      | none => (s, .because .badField .past)
      | some st =>
        if !s.venueOk e.venue then (s, .because .badField .venue)
        else if (s.entryById e.id).isSome then (s, .refuse .exists_)
        else match s.freeEntrySlot with
          | none => (s, .refuse .full)
          | some slot =>
            let s := s.createEntry slot e st
            (s, .done (u8 Outcome.created.code ++ u8 slot ++ u8 st.code ++ u16 (s.listPosition slot)))

/-! ### EVENT_AMEND (R115, R116) -/

/-- Whether every field of an amend is in its range (R115, check 1; R190). -/
def EntryAmendBody.inRange (b : EntryAmendBody) : Bool :=
  decide (1 ≤ b.id) && decide (b.mask < 128) &&
    b.start.all (fun n => decide (n < Config.maxMinute)) &&
    b.finish.all (fun n => decide (n ≤ Config.maxMinute)) &&
    b.venue.all (fun n => decide (n < Config.targetSlots)) &&
    b.title.all (fun n => decide (1 ≤ n)) &&
    b.category.all (fun n => decide (n < 16)) &&
    b.fill.all (fun n => (Fill.ofCode n).isSome) &&
    b.moved.all (fun n => decide (n = 0))

/-- The entry after an amend, its state apart (R116). A venue change sets the moved mark, whatever mark
the request gave. -/
def EntryAmendBody.applyTo (b : EntryAmendBody) (e : Entry) : Entry :=
  let venue := b.venue.getD e.venue
  { e with
    start := b.start.getD e.start
    finish := b.finish.getD e.finish
    venue
    title := b.title.getD e.title
    category := b.category.getD e.category
    fill := (b.fill.bind Fill.ofCode).getD e.fill
    moved := decide (venue ≠ e.venue) || (e.moved && b.moved.isNone) }

/-- The request gives a start or an end. -/
def EntryAmendBody.givesTimes (b : EntryAmendBody) : Bool := b.start.isSome || b.finish.isSome

/-- An accepted EVENT_AMEND; `new` is the entry after it (R116). -/
def State.amendEntry (s : State) (slot : Nat) (old new : Entry) : State :=
  if old = new then s
  else
    let s := s.modEntry slot fun _ => new
    let s := if old.venue = new.venue then s else (s.releaseTarget old.venue).claimTarget new.venue
    s.mark (s.entryCauses [old.venue, new.venue])

/-- The state of an entry after an amend: judged again if its times were replaced (R116). -/
def State.amendedState (s : State) (old new : Entry) : EntryState :=
  if old.start = new.start ∧ old.finish = new.finish then old.state
  else (s.judgeNow new).getD old.state

/-- EVENT_AMEND (R115, R116). -/
def eventAmend : Owner EntryAmendBody := fun b s =>
  if !b.inRange then (s, .refuse .badField)
  else match s.entryById b.id with
    | none => (s, .refuse .notFound)
    | some (slot, old) =>
      let e := b.applyTo old
      if !e.timesOk then (s, .because .badField .times)
      else if b.givesTimes && (s.judgeNow e).isNone then (s, .because .badField .past)
      else if b.venue.any fun v => !s.venueOk v then (s, .because .badField .venue)
      else
        let new := { e with state := s.amendedState old e }
        let s := s.amendEntry slot old new
        (s, .done (u8 Outcome.amended.code ++ u8 new.state.code ++ u16 (s.listPosition slot) ++
          yesNo (decide (new.state ≠ old.state))))

/-! ### EVENT_CANCEL, EVENT_RETIRE and EVENT_GET (R117 to R119) -/

/-- An entry is retired and handed as a change at its venue. -/
def State.dropEntry (s : State) (slot : Nat) (e : Entry) : State :=
  let s := s.retireEntry slot e.venue
  s.mark (s.entryCauses [e.venue])

/-- A SCHEDULED entry becomes CANCELLED (R117). -/
def State.cancelEntry (s : State) (slot : Nat) (e : Entry) : State :=
  let s := s.modEntry slot fun e => { e with state := .cancelled }
  s.mark (s.entryCauses [e.venue])

/-- EVENT_CANCEL (R117). -/
def eventCancel : Owner Nat := fun id s =>
  if id = 0 then (s, .refuse .badField)
  else match s.entryById id with
    | none => (s, .refuse .notFound)
    | some (slot, e) =>
      match e.state with
      | .scheduled => (s.cancelEntry slot e, .done (u8 Outcome.cancelled.code))
      | .cancelled => (s, .done (u8 Outcome.unchanged.code))
      | .running => (s.dropEntry slot e, .done (u8 Outcome.retired.code))
      | .suspended => (s.dropEntry slot e, .done (u8 Outcome.retired.code))
      | .ended => (s, .because .refusedState .ended)

/-- EVENT_RETIRE (R118). -/
def eventRetire : Owner Nat := fun id s =>
  if id = 0 then (s, .refuse .badField)
  else match s.entryById id with
    | none => (s, .refuse .notFound)
    | some (slot, e) => (s.dropEntry slot e, .done (u8 e.state.code))

/-- The record of an entry as EVENT_GET answers it (10 section 10.3). -/
def State.entryBytes (s : State) (slot : Nat) (e : Entry) : List Byte :=
  u16 e.id ++ u24 e.start ++ u24 e.finish ++ u8 e.venue ++ u16 e.title ++ u8 e.category ++
    u8 e.fill.code ++ u8 slot ++ u8 e.state.code ++ yesNo e.moved ++ u16 (s.listPosition slot)

/-- EVENT_GET (R119). -/
def eventGet (id : Nat) (s : State) : Reply :=
  if id = 0 then .refuse .badField
  else match s.entryById id with
    | none => .refuse .notFound
    | some (slot, e) => .done (s.entryBytes slot e)

/-! ### The Ship Clock (R121 to R125) -/

/-- The event of a minute event or a clock step: every entry is judged, and the entry changes and the
minute notice are handed on (R120, R124, R125). -/
def State.minuteEvent (s : State) (now : Nat) : State × EntryChanges :=
  let (s, ch) := s.judgeEntries now
  (s.mark ((s.entryCauses ch.venues).or minuteCauses), ch)

/-- CLOCK_SET (R122). -/
def clockSet : Owner (Nat × Nat) := fun b s =>
  if Config.maxMinute < b.1 ∨ 59 < b.2 then (s, .refuse .badField)
  else
    let (s, ch) := (s.setClock { minute := b.1, second := b.2 }).minuteEvent b.1
    (s, .done (u16 ch.changed ++ u16 ch.retired))

/-- CLOCK_GET (R123). -/
def clockGet (_ : Unit) (s : State) : Reply :=
  let c := s.programme.clock
  .done (yesNo c.isSome ++ optMinute (c.map (·.minute)) ++ optByte (c.map (·.second)) ++
    u8 s.programme.linger ++ u16 s.programme.horizon)

/-- The second timer expires: the second rises, and with it perhaps the minute (R121). -/
def State.secondPasses (s : State) : State :=
  match s.programme.secondTimer, s.programme.clock with
  | some _, some c =>
    let (c', rose) := c.tick
    let s := s.setClock c'
    if rose then (s.minuteEvent c'.minute).1 else s
  | some _, none => s
  | none, _ => s

/-! ### Commands -/

def execEventPut (tag : Byte) (body : List Byte) (s : State) : Host.Outcome State Fault Refusal :=
  .next (serve tag (parseEntry body) true eventPut s)

def execEventAmend (tag : Byte) (body : List Byte) (s : State) : Host.Outcome State Fault Refusal :=
  .next (serve tag (parseEntryAmend body) true eventAmend s)

def execEventCancel (tag : Byte) (body : List Byte) (s : State) : Host.Outcome State Fault Refusal :=
  .next (serve tag (body2 body) true eventCancel s)

def execEventRetire (tag : Byte) (body : List Byte) (s : State) : Host.Outcome State Fault Refusal :=
  .next (serve tag (body2 body) true eventRetire s)

def execEventGet (tag : Byte) (body : List Byte) (s : State) : Host.Outcome State Fault Refusal :=
  .next (serve tag (body2 body) false (reading eventGet) s)

def execClockSet (tag : Byte) (body : List Byte) (s : State) : Host.Outcome State Fault Refusal :=
  .next (serve tag (body31 body) true clockSet s)

def execClockGet (tag : Byte) (body : List Byte) (s : State) : Host.Outcome State Fault Refusal :=
  .next (serve tag (body0 body) false (reading clockGet) s)

/-- SECOND_TIMER_EXPIRY (R121, R124). -/
def execSecondTimerExpiry (s : State) : Host.Outcome State Fault Refusal := .next s.secondPasses

end Sys2Proof.Machine
end

