-- ==== Sys2Proof/Machine/ScreenRequests.lean ====
section
/-! DEFINITION. The requests on screens (07). -/

namespace Sys2Proof.Machine

/-! ### Checks that SCREEN_PUT and SCREEN_AMEND share (R133, R134) -/

/-- The link and address of a key in range. -/
def screenKey (link address : Nat) : Option (Fin 4 × Nat) :=
  match linkOfRaw link with
  | none => none
  | some l => if 1 ≤ address ∧ address ≤ Config.screenAddresses then some (l, address) else none

/-- A language map of 1 to 4 languages, each in range. -/
def languagesInRange (l : List Nat) : Bool :=
  decide (1 ≤ l.length) && decide (l.length ≤ 4) && l.all fun n => decide (n < Config.languages)

/-- A shown list of at most 8 target ids, each in range. -/
def shownInRange (l : List Nat) : Bool :=
  decide (l.length ≤ Config.maxShown) && l.all fun n => decide (n < Config.targetSlots)

/-- No value twice. -/
def distinct (l : List Nat) : Bool := decide l.Nodup

/-- A policy field: 0 to 2, or 3 for one left out. -/
def policyField (n shift : Nat) : Option Policy := Policy.ofCode (n / 2 ^ shift % 4)

/-- The record mode of a flags byte. -/
def modeOfFlags (n : Nat) : RecordMode := if n.testBit 1 then .dark else .normal

/-- The first free target slot of a shown list (R133, check 4). -/
def State.firstFree (s : State) (l : List Nat) : Option Nat := l.find? fun t => (s.targetAt t).isNone

/-- BAD_FIELD, with TARGET and the first offending id. -/
def badTarget (t : Nat) : Reply := { result := .badField, body := u8 Cause.target.code ++ u8 t }

/-! ### SCREEN_PUT (R133) -/

/-- A slot at a put: clean, with its policy. -/
def Slot.fresh (p : Policy) : Slot := { policy := p, gen := 0#16, accepted := some 0#16, lastSent := none }

/-- The record of a new screen, if every field is in its range (R133, check 1). That bits 2 to 7 of the flags and
bits 6 and 7 of the policies put the byte out of range is the model's choice (log 39). -/
def ScreenBody.screen (b : ScreenBody) : Option Screen :=
  match Facing.ofCode b.facing, Scope.ofCode b.scope, optTargetOfRaw b.override with
  | some facing, some scope, some override =>
    if (screenKey b.link b.address).isSome && decide (b.node < Config.nodeSlots) && decide (b.flags < 4) &&
        decide (b.policies < 64) && languagesInRange b.languages && shownInRange b.shown then
      some { node := b.node, facing, stepFree := b.flags.testBit 0, shown := b.shown, scope, override,
             languages := b.languages, notice := b.notice, mode := modeOfFlags b.flags,
             attach := .absent, descValid := false, descriptor := none, misses := 0, lastAddressed := none,
             routeSlot := Slot.fresh ((policyField b.policies 0).getD .refreshed)
             programmeSlot := Slot.fresh ((policyField b.policies 2).getD .refreshed)
             noticeSlot := Slot.fresh ((policyField b.policies 4).getD .off)
             musterSlot := Slot.fresh .refreshed }
    else none
  | _, _, _ => none

/-- The targets a screen claims. -/
def Screen.claims (x : Screen) : List Nat := x.shown ++ x.override.toList

/-- A SCREEN_PUT that passes its checks (R133). -/
def State.createScreen (s : State) (n : Nat) (x : Screen) : State :=
  let s := { s with screen := { s.screen with screens := Table.put s.screen.screens n x } }
  (s.claimNode x.node).claimTargets x.claims

/-- SCREEN_PUT (R133). -/
def screenPut : Owner ScreenBody := fun b s =>
  match b.screen, screenKey b.link b.address with
  | some x, some (l, address) =>
    if !distinct x.shown || !distinct x.languages then (s, .because .badField .list)
    else if (s.node x.node).isNone then (s, .because .badField .node)
    else match s.firstFree x.shown with
      | some t => (s, badTarget t)
      | none =>
        if x.override.any fun t => !(s.stationAt t).isSome then (s, .because .badField .station)
        else
          let n := screenSlot l address
          if (s.screenAt n).isSome then (s, .refuse .exists_)
          else (s.createScreen n x, .done (u8 Outcome.created.code ++ u16 n))
  | _, _ => (s, .refuse .badField)

/-! ### SCREEN_AMEND (R134) -/

/-- Whether every field of an amend is in its range (R134; R190). The upper bits of the flags and the policies are
judged as in a put (the model's choice, log 39). -/
def ScreenAmendBody.inRange (b : ScreenAmendBody) : Bool :=
  (screenKey b.link b.address).isSome && decide (b.mask < 512) &&
    b.node.all (fun n => decide (n < Config.nodeSlots)) &&
    b.facing.all (fun n => (Facing.ofCode n).isSome) &&
    b.flags.all (fun n => decide (n < 4)) &&
    b.scope.all (fun n => (Scope.ofCode n).isSome) &&
    b.override.all (fun n => (optTargetOfRaw n).isSome) &&
    b.policies.all (fun n => decide (n < 64)) &&
    b.languages.all languagesInRange &&
    b.shown.all shownInRange

/-- The policy of a slot after an amend: 3, or no policies field, leaves it. -/
def ScreenAmendBody.policyAfter (b : ScreenAmendBody) (shift : Nat) (held : Policy) : Policy :=
  (b.policies.bind fun n => policyField n shift).getD held

/-- The record after an amend, generations apart (R134). -/
def ScreenAmendBody.applyTo (b : ScreenAmendBody) (x : Screen) : Screen :=
  { x with
    node := b.node.getD x.node
    facing := (b.facing.bind Facing.ofCode).getD x.facing
    stepFree := (b.flags.map fun n => n.testBit 0).getD x.stepFree
    mode := (b.flags.map modeOfFlags).getD x.mode
    scope := (b.scope.bind Scope.ofCode).getD x.scope
    override := (b.override.bind optTargetOfRaw).getD x.override
    notice := b.notice.getD x.notice
    languages := b.languages.getD x.languages
    shown := b.shown.getD x.shown
    routeSlot := { x.routeSlot with policy := b.policyAfter 0 x.routeSlot.policy }
    programmeSlot := { x.programmeSlot with policy := b.policyAfter 2 x.programmeSlot.policy }
    noticeSlot := { x.noticeSlot with policy := b.policyAfter 4 x.noticeSlot.policy } }

/-- Whether the fields replaced by an amend mark a slot (R134). -/
def amendMarks (old new : Screen) (k : SlotKind) : Bool :=
  let all := decide (old.languages ≠ new.languages) || decide (old.mode ≠ new.mode)
  let place := decide (old.node ≠ new.node) || decide (old.facing ≠ new.facing) ||
    decide (old.stepFree ≠ new.stepFree)
  match k with
  | .route => all || place || decide (old.shown ≠ new.shown)
  | .programme => all || place || decide (old.scope ≠ new.scope)
  | .notice => all || decide (old.notice ≠ new.notice)
  | .muster => all || place || decide (old.override ≠ new.override)

/-- Whether a policy change raises a slot: to OFF or from OFF (R131). -/
def policyRaises (old new : Policy) : Bool := decide ((old = .off) ≠ (new = .off))

/-- Whether an amend raises a slot's generation, once. -/
def amendRaises (old new : Screen) (k : SlotKind) : Bool :=
  policyRaises (old.slot k).policy (new.slot k).policy ||
    (amendMarks old new k && decide ((new.slot k).policy ≠ .off))

/-- Whether an amend touches a slot: marks it, or changes its policy to or from OFF. -/
def amendTouches (old new : Screen) (k : SlotKind) : Bool :=
  policyRaises (old.slot k).policy (new.slot k).policy || amendMarks old new k

/-- The slots of a screen that an amend touches are raised and queued, in their order. -/
def State.touchAmended (s : State) (n : Nat) (old new : Screen) : State :=
  (slotOrder.filter (amendTouches old new)).foldl
    (fun s k => s.touchSlot { screen := n, kind := k } (amendRaises old new k)) s

/-- The reference counts follow the node, the shown list and the override (R5, R50). -/
def State.moveScreenClaims (s : State) (old new : Screen) : State :=
  let s := if old.node = new.node then s else (s.releaseNode old.node).claimNode new.node
  let s := (s.releaseTargets (old.shown.filter fun t => decide (t ∉ new.shown))).claimTargets
    (new.shown.filter fun t => decide (t ∉ old.shown))
  if old.override = new.override then s
  else (s.releaseTargets old.override.toList).claimTargets new.override.toList

/-- An accepted SCREEN_AMEND (R134). -/
def State.amendScreen (s : State) (n : Nat) (old new : Screen) : State :=
  ((s.moveScreenClaims old new).modScreen n fun _ => new).touchAmended n old new

/-- SCREEN_AMEND (R134). DESIGN CHOICE (log 14), unsafe: NOT_FOUND comes after the field ranges. -/
def screenAmend : Owner ScreenAmendBody := fun b s =>
  if !b.inRange then (s, .refuse .badField)
  else match screenKey b.link b.address with
    | none => (s, .refuse .badField)
    | some (l, address) =>
      let n := screenSlot l address
      match s.screenAt n with
      | none => (s, .refuse .notFound)
      | some old =>
        if b.shown.any (fun l => !distinct l) || b.languages.any (fun l => !distinct l) then
          (s, .because .badField .list)
        else if b.node.any fun m => (s.node m).isNone then (s, .because .badField .node)
        else match b.shown.bind s.firstFree with
          | some t => (s, badTarget t)
          | none =>
            if ((b.override.bind optTargetOfRaw).bind id).any fun t => !(s.stationAt t).isSome then
              (s, .because .badField .station)
            else
              let new := b.applyTo old
              (s.amendScreen n old new,
               .done (u8 Outcome.amended.code ++ u8 (slotOrder.filter (amendRaises old new)).length))

/-! ### SCREEN_RETIRE (R135) -/

/-- The exchange in flight with a screen is detached. -/
def Link.detachExchange (k : Link) (n : Nat) : Link :=
  { k with exchange := k.exchange.map fun e => if e.screen = n then { e with detached := true } else e }

/-- A screen is retired (R135). -/
def State.removeScreen (s : State) (n : Nat) (x : Screen) : State :=
  let s := s.modLink (linkOfScreen n) fun k => (k.leaveScreen n).detachExchange n
  let s := (s.releaseNode x.node).releaseTargets x.claims
  let s := { s with screen := { s.screen with screens := Table.del s.screen.screens n } }
  if x.attach = .present then s.judgeStandDown else s

/-- SCREEN_RETIRE (R135). -/
def screenRetire : Owner (Nat × Nat) := fun b s =>
  match screenKey b.1 b.2 with
  | none => (s, .refuse .badField)
  | some (l, address) =>
    let n := screenSlot l address
    match s.screenAt n with
    | none => (s, .refuse .notFound)
    | some x => (s.removeScreen n x, .done [])

/-! ### SCREEN_GET (R136) -/

/-- The place of a slot: kind, queue and position. The bytes that a slot not queued has no value for are
free (log 7). -/
def State.slotPlace (s : State) (r : SlotRef) (pos : Nat) : List Byte :=
  let k := s.link (linkOfScreen r.screen)
  let free := [Config.freeByte s.fresh pos, Config.freeByte s.fresh (pos + 1), Config.freeByte s.fresh (pos + 2)]
  if k.sending r then 2#8 :: free
  else match position r k.musterQueue, position r k.dirtyQueue with
    | 0, 0 => 0#8 :: free
    | 0, p + 1 => u8 1 ++ u8 1 ++ u16 (p + 1)
    | p + 1, _ => u8 1 ++ u8 0 ++ u16 (p + 1)

/-- The fields of one slot. -/
def State.slotBytes (s : State) (n : Nat) (x : Screen) (k : SlotKind) : List Byte :=
  let y := x.slot k
  let pos := 16 + 8 * k.code
  u16 y.gen.toNat ++ presence s.fresh pos y.accepted ++ yesNo y.dirty ++
    s.slotPlace { screen := n, kind := k } (pos + 2)

/-- The descriptor as held; the bytes of one never received are free (log 7). -/
def descriptorBytes (fresh : Nat) : Option Descriptor → List Byte
  | none => [Config.freeByte fresh 2, Config.freeByte fresh 3, Config.freeByte fresh 4, Config.freeByte fresh 5]
  | some d => u8 d.lines ++ u16 d.rendered.toNat ++ u8 d.panelClass.code

/-- The policies byte of a screen. -/
def Screen.policyByte (x : Screen) : Nat :=
  x.routeSlot.policy.code + 4 * x.programmeSlot.policy.code + 16 * x.noticeSlot.policy.code

/-- The record of a screen as SCREEN_GET answers it (10 section 10.3). -/
def State.screenBytes (s : State) (n : Nat) (x : Screen) : List Byte :=
  u8 (linkOfScreen n).val ++ u8 (addressOfScreen n) ++ u16 x.node ++ u8 x.facing.code ++
    u8 ((if x.stepFree then 1 else 0) + (if x.mode = .dark then 2 else 0)) ++ u8 x.scope.code ++
    optByte x.override ++ u16 x.notice ++ u8 x.policyByte ++
    u8 x.languages.length ++ x.languages.flatMap u8 ++ u8 x.shown.length ++ x.shown.flatMap u8 ++
    u8 x.attach.code ++ yesNo x.descValid ++ descriptorBytes s.fresh x.descriptor ++ u8 x.misses ++
    presence s.fresh 0 x.lastAddressed ++ slotOrder.flatMap (s.slotBytes n x)

/-- SCREEN_GET (R136). -/
def screenGet (b : Nat × Nat) (s : State) : Reply :=
  match screenKey b.1 b.2 with
  | none => .refuse .badField
  | some (l, address) =>
    match s.screenAt (screenSlot l address) with
    | none => .refuse .notFound
    | some x => .done (s.screenBytes (screenSlot l address) x)

/-! ### NOTICE_SET (R137) -/

/-- A screen with a notice and a NOTICE policy. -/
def Screen.withNotice (x : Screen) (notice : Nat) (p : Policy) : Screen :=
  { x with notice, noticeSlot := { x.noticeSlot with policy := p } }

/-- One screen takes a notice and a policy as SCREEN_AMEND would give them. -/
def State.giveNotice (notice : Nat) (p : Policy) (s : State) (r : Nat × Screen) : State :=
  s.amendScreen r.1 r.2 (r.2.withNotice notice p)

/-- The screens that a notice changes, of those a test reaches. -/
def State.noticeReach (s : State) (reach : Nat × Screen → Bool) (notice : Nat) (p : Policy) :
    List (Nat × Screen) :=
  s.screen.screens.filter fun r => reach r && decide (r.2.withNotice notice p ≠ r.2)

/-- The screens that a NOTICE_SET reaches; the outer absence is a value out of range. -/
def NoticeSetBody.reaches (b : NoticeSetBody) (s : State) : Option (Nat × Screen → Bool) :=
  match b.reach with
  | 0 => (screenKey b.link b.address).map fun key r => decide (r.1 = screenSlot key.1 key.2)
  | 1 =>
    if b.deck ≤ Config.maxDeck then some fun r => (s.node r.2.node).any fun x => decide (x.deck = b.deck)
    else none
  | 2 => some fun _ => true
  | _ => none

/-- NOTICE_SET (R137). -/
def noticeSet : Owner NoticeSetBody := fun b s =>
  match b.reaches s, Policy.ofCode b.policy with
  | some reach, some p =>
    if b.reach = 0 ∧ (s.screen.screens.filter reach).isEmpty = true then (s, .refuse .notFound)
    else
      let changed := s.noticeReach reach b.notice p
      (changed.foldl (State.giveNotice b.notice p) s, .done (u16 changed.length))
  | _, _ => (s, .refuse .badField)

/-! ### Commands -/

def execScreenPut (tag : Byte) (body : List Byte) (s : State) : Host.Outcome State Fault Refusal :=
  .next (serve tag (parseScreen body) true screenPut s)

def execScreenAmend (tag : Byte) (body : List Byte) (s : State) : Host.Outcome State Fault Refusal :=
  .next (serve tag (parseScreenAmend body) true screenAmend s)

def execScreenRetire (tag : Byte) (body : List Byte) (s : State) : Host.Outcome State Fault Refusal :=
  .next (serve tag (body11 body) true screenRetire s)

def execScreenGet (tag : Byte) (body : List Byte) (s : State) : Host.Outcome State Fault Refusal :=
  .next (serve tag (body11 body) false (reading screenGet) s)

def execNoticeSet (tag : Byte) (body : List Byte) (s : State) : Host.Outcome State Fault Refusal :=
  .next (serve tag (parseNoticeSet body) true noticeSet s)

end Sys2Proof.Machine
end

