-- ==== Sys2Proof/Machine/WarmRestart.lean ====
section
/-! DEFINITION. The warm restart at every block (R19, R45, R58, R80, R109, R129, R154, R171, R186). -/

namespace Sys2Proof.Machine

/-! ### Counts taken again from the kept records (R19, R58) -/

/-- How many live edge ends a node has. -/
def State.endsAt (s : State) (n : Nat) : Nat := Table.count s.graph.edges fun e => e.hasEnd n

/-- How many live claims a node has: edge ends, anchors, door nodes and screens (R5). -/
def State.claimsOnNode (s : State) (n : Nat) : Nat :=
  s.endsAt n + Table.count s.target.targets (fun t => decide (t.anchor = n)) +
    Table.count s.cabin.cabins (fun c => decide (c.doorNode = n)) +
    Table.count s.screen.screens (fun x => decide (x.node = n))

/-- How many live claims a target has: cabins' stations, venues of entries, shown lists and overrides
(R50). -/
def State.claimsOnTarget (s : State) (t : Nat) : Nat :=
  Table.count s.cabin.cabins (fun c => decide (t ∈ c.stations)) +
    Table.count s.programme.entries (fun e => decide (e.venue = t)) +
    Table.count s.screen.screens (fun x => decide (t ∈ x.shown)) +
    Table.count s.screen.screens (fun x => decide (x.override = some t))

/-- Every node's degree and reference count and the open-lift count (R19). -/
def State.recountGraph (s : State) : State :=
  { s with graph := { s.graph with
      nodes := s.graph.nodes.map fun r =>
        (r.1, { r.2 with degree := s.endsAt r.1, refs := s.claimsOnNode r.1 })
      openLifts := Table.count s.graph.edges Edge.openLift } }

/-- The tallies of a station to which no cabin has contributed. -/
def Station.emptied (st : Station) : Station := { st with assigned := 0, swept := 0, occupied := 0 }

/-- Every target's reference count, with the tallies emptied (R58). -/
def State.recountTargets (s : State) : State :=
  { s with target := {
      targets := s.target.targets.map fun r =>
        (r.1, { r.2 with refs := s.claimsOnTarget r.1, station := r.2.station.map Station.emptied })
      unassigned := 0 } }

/-- The tallies, the unassigned figure and the over flags (R58). -/
def State.recountTallies (s : State) : State :=
  (s.recountTargets.contributeAll (s.cabin.cabins.map (·.2))).rejudgeAll

/-! ### Maps, clock and port -/

/-- Every map waits again, in ascending target id (R45); the build starts later in the event. -/
def State.restartMaps (s : State) : State :=
  let s := { s with route := {
    maps := Table.mapAll s.route.maps RouteMap.waiting, urgent := [], ordinary := [], build := none } }
  s.liveMaps.foldl State.joinTail s

/-- The second timer of a RUNNING clock restarts from zero (R129). -/
def State.restartClock (s : State) : State :=
  { s with programme := { s.programme with
      secondTimer := if s.programme.clock.isSome then started else s.programme.secondTimer } }

/-- The Service Port at a warm restart (R186, R181). -/
def ServicePort.restart (p : ServicePort) : ServicePort :=
  { (if p.load.isSome then p.endLoad .restarted else p) with
    processing := false, answer := none, cursor := { table := .node, index := 0 }, events := 0#16,
    resetCause := .warm }

/-- The warm restart, as every block takes it. The plate queues are filled after they were emptied
(R80), and the stand-down condition is judged last (R171). -/
def State.warmRestart (s : State) : State :=
  let s := (s.recountGraph.recountTallies).restartMaps
  let s := s.restartTrunks.refillPlateQueues
  let s := s.restartClock.restartScreens
  ({ s with port := s.port.restart } : State).startBuild.judgeStandDown

end Sys2Proof.Machine
end

