-- ==== Sys2Proof/Machine/PortRequests.lean ====
section
/-! DEFINITION. The requests on the Service Port itself (09): identity, settings, notices, restart,
cursor reading and bulk load. -/

namespace Sys2Proof.Machine

/-! ### IDENTIFY and PORT_STATUS (R185) -/

/-- The answer of IDENTIFY (10 section 10.6). -/
def State.identityBytes (s : State) : List Byte :=
  u16 Config.vendorCode ++ u16 Config.partCode ++ u8 Config.revision ++ u16 Config.nodeSlots ++
    u16 Config.edgeSlots ++ u8 Config.endsPerNode ++ u8 Config.targetSlots ++ u8 Config.liveStations ++
    u8 Config.mapSlots ++ u16 Config.cabinSlots ++ u8 Config.trunks ++ u8 Config.plateAddresses ++
    u16 Config.entrySlots ++ u16 Config.screenSlots ++ u8 Config.links ++ u8 Config.screenAddresses ++
    u8 Config.maxShown ++ u8 Config.languages ++ u8 Config.linkBudget ++ u8 Config.reportEntries ++
    u16 Config.maxBody ++ u16 Config.maxLoad ++ u8 s.port.resetCause.code

/-- IDENTIFY (R185). -/
def identify (_ : Unit) (s : State) : Reply := .done s.identityBytes

/-- The levels of the Inbound Report Queue (R106). -/
def State.levelBits (s : State) : Nat :=
  (if s.inboundEmpty then 1 else 0) + (if s.inboundHalf then 2 else 0) + (if s.inboundFull then 4 else 0)

/-- The load summary as PORT_STATUS answers it. -/
def LoadSummary.bytes (x : LoadSummary) : List Byte :=
  optByte (x.table.map (·.code)) ++ u16 x.count ++ u16 x.remaining ++ u16 x.refused ++ u8 x.ending.code

/-- The answer of PORT_STATUS (10 section 10.6). -/
def State.portBytes (s : State) : List Byte :=
  yesNo s.loading ++ s.port.summary.bytes ++ u16 s.flags.toNat ++ u16 s.port.mask.toNat ++
    u8 s.levelBits ++ u8 s.held ++ u8 s.reserved ++ u8 s.freeEntries ++ u8 s.port.cursor.table.code ++
    u16 s.port.cursor.index ++ u8 s.port.resetCause.code

/-- PORT_STATUS (R185). -/
def portStatus (_ : Unit) (s : State) : Reply := .done s.portBytes

/-! ### Settings (R184) -/

/-- A set of the links or trunks for which a test holds, bit n for number n. -/
def bitsOf {n : Nat} (l : List (Fin n)) (p : Fin n → Bool) : Nat :=
  l.foldl (fun acc i => if p i then acc + 2 ^ i.val else acc) 0

/-- The value of the setting with a code, as it stands. -/
def State.setting (s : State) : Nat → Nat
  | 0 => bitsOf allLinks fun l => (s.link l).enabled
  | 1 => (s.link 0).periodSetting
  | 2 => (s.link 1).periodSetting
  | 3 => (s.link 2).periodSetting
  | 4 => (s.link 3).periodSetting
  | 5 => bitsOf allTrunks fun i => (s.trunk i).enabled
  | 6 => s.plate.surveyPeriod
  | 7 => s.plate.holdLimit
  | 8 => s.programme.linger
  | 9 => s.programme.horizon
  | 10 => s.muster.drillLimit
  | 11 => s.port.mask.toNat
  | _ => 0

/-- Whether a value is in the range of the setting with a code (09 section 9.6, 10 section 10.6). -/
def settingInRange (code value : Nat) : Bool :=
  match code with
  | 0 => decide (value < 16)
  | 5 => true
  | 6 => decide (20 ≤ value) && decide (value ≤ 2000)
  | 7 => decide (50 ≤ value) && decide (value ≤ 1000)
  | 8 => decide (value ≤ 60)
  | 9 => decide (30 ≤ value) && decide (value ≤ 720)
  | 10 => decide (value ≤ 240)
  | 11 => decide (value < 1024)
  | _ => decide (100 ≤ value) && decide (value ≤ 2000)

/-- The bytes of a setting. -/
def settingBytes (code value : Nat) : List Byte := if settingSize code = 1 then u8 value else u16 value

/-- A trunk is enabled or disabled, if it is not so already (R85, R89). -/
def State.switchTrunk (s : State) (i : Fin 16) (on : Bool) : State :=
  if (s.trunk i).enabled = on then s
  else if on then s.modTrunk i Trunk.enable else s.disableTrunk i

/-- A link is enabled or disabled, if it is not so already (R146). -/
def State.switchLink (s : State) (l : Fin 4) (on : Bool) : State :=
  if (s.link l).enabled = on then s
  else if on then s.enableLink l else s.disableLink l

/-- The setting with a code takes a value other than the one it holds. -/
def State.applySetting (s : State) (code value : Nat) : State :=
  match code with
  | 0 => allLinks.foldl (fun s l => s.switchLink l (value.testBit l.val)) s
  | 1 => s.modLink 0 fun k => k.setPeriod value
  | 2 => s.modLink 1 fun k => k.setPeriod value
  | 3 => s.modLink 2 fun k => k.setPeriod value
  | 4 => s.modLink 3 fun k => k.setPeriod value
  | 5 => allTrunks.foldl (fun s i => s.switchTrunk i (value.testBit i.val)) s
  | 6 => s.setSurveyPeriod value
  | 7 => s.setHoldLimit value
  | 8 => { s with programme := { s.programme with linger := value } }
  | 9 => ({ s with programme := { s.programme with horizon := value } } : State).mark minuteCauses
  | 10 => { s with muster := s.muster.setDrillLimit value }
  | 11 => { s with port := { s.port with mask := BitVec.ofNat 16 value } }
  | _ => s

/-- Periods and the other settings come before the enables (R184; DESIGN CHOICE beyond that, log 24,
safe). -/
def applyOrder : List Nat := [1, 2, 3, 4, 6, 7, 8, 9, 10, 11, 5, 0]

/-- The settings given whose value differs from the one held. -/
def State.differing (s : State) (values : List (Nat × Nat)) : List (Nat × Nat) :=
  values.filter fun r => decide (s.setting r.1 ≠ r.2)

/-- Whether some trunk or link is enabled in an earlier state and not in this one. -/
def State.somethingDisabled (s before : State) : Bool :=
  (allTrunks.any fun i => (before.trunk i).enabled && !(s.trunk i).enabled) ||
    (allLinks.any fun l => (before.link l).enabled && !(s.link l).enabled)

/-- An accepted CONFIG_SET. A disable is handed to the Muster Controller (R100, R152), and a disabled
trunk's reservation may let another trunk pick (R102). -/
def State.configure (s : State) (changes : List (Nat × Nat)) : State :=
  let s' := applyOrder.foldl (fun s c =>
    match changes.find? fun r => decide (r.1 = c) with
    | none => s
    | some r => s.applySetting c r.2) s
  let s' := s'.pickAll
  if s'.somethingDisabled s then s'.judgeStandDown else s'

/-- The notice sets and masks of settings: the sum of the bits of the codes. -/
def codesMask (l : List (Nat × Nat)) : Nat := l.foldl (fun acc r => acc + 2 ^ r.1) 0

/-- CONFIG_SET (R184). A reserved bit of the settings mask is out of range (R188) and names no setting:
the byte in the place of its code is free (log 8). -/
def configSet : Owner ConfigBody := fun b s =>
  match b.values.find? fun r => !settingInRange r.1 r.2 with
  | some r => (s, { result := .badField, body := u8 r.1 })
  | none =>
    if 4096 ≤ b.mask then (s, { result := .badField, body := [Config.freeByte s.fresh 0] })
    else
      let changes := s.differing b.values
      (s.configure changes, .done (u16 (codesMask changes)))

/-- CONFIG_GET (R184). -/
def configGet (_ : Unit) (s : State) : Reply :=
  .done (settingCodes.flatMap fun c => settingBytes c (s.setting c))

/-! ### NOTICE_CLEAR (R182) -/

/-- The event flags of a notice set are cleared. -/
def State.clearNotices (s : State) (set : Word16) : State :=
  { s with port := { s.port with events := s.port.events &&& ~~~set } }

/-- NOTICE_CLEAR (R182). A reserved bit is out of range (R188, R193). -/
def noticeClear : Owner Nat := fun n s =>
  if n = 0 ∨ 1024 ≤ n then (s, .refuse .badField)
  else
    let s := s.clearNotices (BitVec.ofNat 16 n)
    (s, .done (u16 s.flags.toNat))

/-! ### RESTART (R186) -/

/-- An argument other than WARM. -/
def restartRefused (_ : Nat) (_ : State) : Reply := .refuse .badField

/-- RESTART: RESTART(WARM) is not answered. -/
def State.restartRequest (s : State) (tag : Byte) (body : List Byte) : State :=
  match body1 body with
  | some 2 => s.beginRequest.warmRestart
  | parsed => serve tag parsed false (reading restartRefused) s

/-! ### Cursor reading (R177, R178) -/

def State.setCursor (s : State) (table : TableName) (index : Nat) : State :=
  { s with port := { s.port with cursor := { table, index } } }

/-- CURSOR_SET (R177). -/
def cursorSet : Owner (Nat × Nat) := fun b s =>
  match TableName.ofCode b.1 with
  | none => (s, .refuse .badField)
  | some t => if t.slots ≤ b.2 then (s, .refuse .badField) else (s.setCursor t b.2, .done [])

/-- The first live slot of a table at or after an index, with its record as the table's GET answers it. -/
def State.recordFrom (s : State) (t : TableName) (k : Nat) : Option (Nat × List Byte) :=
  match t with
  | .node => (Table.firstFrom s.graph.nodes k).map fun r => (r.1, nodeBytes r.1 r.2)
  | .edge => (Table.firstFrom s.graph.edges k).map fun r => (r.1, s.edgeBytes r.1 r.2)
  | .target => (Table.firstFrom s.target.targets k).map fun r => (r.1, s.targetBytes r.1 r.2)
  | .cabin => (Table.firstFrom s.cabin.cabins k).map fun r => (r.1, s.cabinBytes r.1 r.2)
  | .entry => (Table.firstFrom s.programme.entries k).map fun r => (r.1, s.entryBytes r.1 r.2)
  | .screen => (Table.firstFrom s.screen.screens k).map fun r => (r.1, s.screenBytes r.1 r.2)

/-- READ_NEXT (R178). -/
def readNext : Owner Unit := fun _ s =>
  let c := s.port.cursor
  match s.recordFrom c.table c.index with
  | none => (s.setCursor c.table 0, .refuse .end_)
  | some (slot, bytes) => (s.setCursor c.table (slot + 1), .done (u16 slot ++ bytes))

/-! ### Bulk load (R179 to R181) -/

/-- A load of a table begins (R179). -/
def ServicePort.beginLoad (p : ServicePort) (table : TableName) (count : Nat) : ServicePort :=
  { p with load := some { table, remaining := count, refused := 0 }
           summary := { table := some table, count, remaining := count, refused := 0, ending := .inProgress } }

/-- LOAD_BEGIN (R179). -/
def loadBegin : Owner (Nat × Nat) := fun b s =>
  match TableName.ofCode b.1 with
  | none => (s, .refuse .badField)
  | some t =>
    if b.2 = 0 ∨ Config.maxLoad < b.2 then (s, .refuse .badField)
    else ({ s with port := s.port.beginLoad t b.2 }, .done (u16 b.2))

/-- A record is applied as the put of a table (R180); a body that does not fit is BAD_FIELD with LENGTH
(log 15). -/
def putRecord (t : TableName) (body : List Byte) (s : State) : State × Reply :=
  match t with
  | .node => judgeRequest (parseNode body) false nodePut s
  | .edge => judgeRequest (parseEdge body) false edgePut s
  | .target => judgeRequest (parseTarget body) false targetPut s
  | .cabin => judgeRequest (parseCabin body) false cabinPut s
  | .entry => judgeRequest (parseEntry body) false eventPut s
  | .screen => judgeRequest (parseScreen body) false screenPut s

/-- The counts of a load after a record with a result (R180). -/
def Load.counted (l : Load) (r : Result) : Load :=
  { l with remaining := l.remaining - 1, refused := if r = .done then l.refused else l.refused + 1 }

/-- A record has been counted; the last one ends the load (R180). -/
def State.countRecord (s : State) (l : Load) : State :=
  let s := { s with port := s.port.loadCounts l }
  if l.remaining = 0 then
    ({ s with port := s.port.endLoad .completed } : State).raiseNotice .loadDone
  else s

/-- LOAD_RECORD (R176, R180). DEDUCED (log 15), unsafe: refused in READY, it answers the cause alone, without the
two counts that end a LOAD_RECORD answer. -/
def loadRecord : Owner (List Byte) := fun body s =>
  match s.port.load with
  | none => (s, .because .refusedState .loading)
  | some l =>
    let (s, r) := putRecord l.table body s
    let l := l.counted r.result
    (s.countRecord l, { r with body := r.body ++ u16 l.remaining ++ u16 l.refused })

/-- LOAD_ABORT (R176, R181). -/
def loadAbort : Owner Unit := fun _ s =>
  match s.port.load with
  | none => (s, .because .refusedState .loading)
  | some l => ({ s with port := s.port.endLoad .aborted }, .done (u16 l.remaining ++ u16 l.refused))

/-! ### Commands -/

def execIdentify (tag : Byte) (body : List Byte) (s : State) : Host.Outcome State Fault Refusal :=
  .next (serve tag (body0 body) false (reading identify) s)

def execPortStatus (tag : Byte) (body : List Byte) (s : State) : Host.Outcome State Fault Refusal :=
  .next (serve tag (body0 body) false (reading portStatus) s)

def execConfigGet (tag : Byte) (body : List Byte) (s : State) : Host.Outcome State Fault Refusal :=
  .next (serve tag (body0 body) false (reading configGet) s)

def execConfigSet (tag : Byte) (body : List Byte) (s : State) : Host.Outcome State Fault Refusal :=
  .next (serve tag (parseConfig body) true configSet s)

def execNoticeClear (tag : Byte) (body : List Byte) (s : State) : Host.Outcome State Fault Refusal :=
  .next (serve tag (body2 body) false noticeClear s)

def execRestart (tag : Byte) (body : List Byte) (s : State) : Host.Outcome State Fault Refusal :=
  .next (s.restartRequest tag body)

def execCursorSet (tag : Byte) (body : List Byte) (s : State) : Host.Outcome State Fault Refusal :=
  .next (serve tag (body12 body) false cursorSet s)

def execReadNext (tag : Byte) (body : List Byte) (s : State) : Host.Outcome State Fault Refusal :=
  .next (serve tag (body0 body) false readNext s)

def execLoadBegin (tag : Byte) (body : List Byte) (s : State) : Host.Outcome State Fault Refusal :=
  .next (serve tag (body12 body) true loadBegin s)

/-- LOAD_RECORD's body length is judged by its owner (R173, check 5). -/
def execLoadRecord (tag : Byte) (body : List Byte) (s : State) : Host.Outcome State Fault Refusal :=
  .next (serve tag (some body) false loadRecord s)

def execLoadAbort (tag : Byte) (body : List Byte) (s : State) : Host.Outcome State Fault Refusal :=
  .next (serve tag (body0 body) false loadAbort s)

end Sys2Proof.Machine
end

