-- ==== Sys2Proof/Machine/ReportEvents.lean ====
section
/-! DEFINITION. The Cabin Table consumes the report at the head of the Inbound Report Queue (04 section
4.5). A command that does not name the kind of that report changes nothing (log 29). -/

namespace Sys2Proof.Machine

/-- The cabin that the plate-address index names for a report (R73). -/
def State.cabinOf (s : State) (e : ReportEntry) : Option (Nat × Cabin) :=
  s.cabinByPlate { trunk := e.trunk, address := e.address }

/-- A report has left the queue, and is applied to the cabin it names, if there is one; the freed entries
may let a trunk survey (R73, R102). -/
def State.consume (s : State) (e : ReportEntry) (rest : List ReportEntry)
    (effect : State → Nat → Cabin → State) : State :=
  let s := { s with plate := { s.plate with inbound := rest } }
  (match s.cabinOf e with
    | none => s
    | some (slot, c) => effect s slot c).pickAll

/-- The plate shows the privacy it reported: CURRENT stays so (R74). -/
def State.settlePrivacy (s : State) (slot : Nat) (st : PlateState) : State :=
  match st with
  | .current => s.modCabin slot fun c => { c with deliveredGen := c.contentGen }
  | .pending => s
  | .failed => s.owePlate slot
  | .noPlate => s

/-- A PRIVACY report (R74). -/
def State.takePrivacy (v : Privacy) (s : State) (slot : Nat) (c : Cabin) : State :=
  if c.occupancy = .vacant ∨ c.privacy = v then s
  else ((s.modCabin slot fun c => { c with privacy := v }).raiseContent slot).settlePrivacy slot c.plateState

/-- A SERVICE_CALL report (R75). -/
def State.takeServiceCall (s : State) (slot : Nat) (c : Cabin) : State :=
  if c.occupancy = .vacant ∨ c.service = true then s
  else (s.modCabin slot fun c =>
    { c with service := true, serviceMinute := s.programme.clock.map (·.minute) }).joinService slot

/-- A station's swept tally rises by one. -/
def State.countSweep (s : State) (c : Cabin) : State :=
  match s.effective c with
  | none => s
  | some t => s.modStation t fun st => { st with swept := st.swept + 1 }

/-- A SWEEP_CLEAR report (R76). -/
def State.takeSweep (tag : Word16) (s : State) (slot : Nat) (c : Cabin) : State :=
  if s.musterNow.proper then
    (if c.swept then s else s.countSweep c).modCabin slot fun c =>
      { c with swept := true, sweptBy := some tag }
  else s

/-- The part's face is owed to the plate again (R77). -/
def State.oweAgain (s : State) (slot : Nat) (st : PlateState) : State :=
  match st with
  | .current => s.owePlate slot
  | .failed => s.owePlate slot
  | .pending => s.modCabin slot fun c => { c with retries := 0 }
  | .noPlate => s

/-- A TOOL_WRITE report (R77). -/
def State.takeToolWrite (s : State) (slot : Nat) (c : Cabin) : State :=
  (s.raiseContent slot).oweAgain slot c.plateState

/-! ### Commands -/

/-- PRIVACY (R73, R74). -/
def execPrivacy (s : State) : Host.Outcome State Fault Refusal :=
  .next (match s.plate.inbound with
    | ⟨i, a, .privacy v⟩ :: rest => s.consume ⟨i, a, .privacy v⟩ rest (State.takePrivacy v)
    | _ => s)

/-- SERVICE_CALL (R73, R75). -/
def execServiceCall (s : State) : Host.Outcome State Fault Refusal :=
  .next (match s.plate.inbound with
    | ⟨i, a, .serviceCall⟩ :: rest => s.consume ⟨i, a, .serviceCall⟩ rest State.takeServiceCall
    | _ => s)

/-- SWEEP_CLEAR (R73, R76): both entries are removed. -/
def execSweepClear (s : State) : Host.Outcome State Fault Refusal :=
  .next (match s.plate.inbound with
    | ⟨i, a, .sweepClear⟩ :: ⟨_, _, .crewTag tag⟩ :: rest =>
      s.consume ⟨i, a, .sweepClear⟩ rest (State.takeSweep tag)
    | _ => s)

/-- TOOL_WRITE (R73, R77). -/
def execToolWrite (s : State) : Host.Outcome State Fault Refusal :=
  .next (match s.plate.inbound with
    | ⟨i, a, .toolWrite⟩ :: rest => s.consume ⟨i, a, .toolWrite⟩ rest State.takeToolWrite
    | _ => s)

end Sys2Proof.Machine
end

