-- ==== Sys2Proof/Machine/TrunkEvents.lean ====
section
/-! DEFINITION. The events of the plate trunks (05): timers, wires, other talkers, holds, lost
arbitration and the ends of the part's own transactions. An event that the trunk's state does not allow
changes nothing (log 2). -/

namespace Sys2Proof.Machine

/-! ### Timers -/

/-- The survey timer starts again and survey-due is set (R101). -/
def Trunk.surveyFalls (t : Trunk) : Trunk := { t with surveyTimer := started, surveyDue := true }

/-- SURVEY_TIMER_EXPIRY (R101). -/
def execSurveyTimerExpiry (i : Fin 16) (s : State) : Host.Outcome State Fault Refusal :=
  .next (match (s.trunk i).surveyTimer with
    | none => s
    | some _ => (s.modTrunk i Trunk.surveyFalls).pickAll)

/-- HOLD_TIMER_EXPIRY (R87, R94, R99, R103). A step that ends frees its reservation for other trunks. -/
def execHoldTimerExpiry (i : Fin 16) (s : State) : Host.Outcome State Fault Refusal :=
  .next (if (s.trunk i).state = .held ∧ (s.trunk i).holdTimer.isSome = true then
      (s.holdExpires i).pickAll
    else s)

/-- IDLE_GUARD_EXPIRY (R85, R86). -/
def execIdleGuardExpiry (i : Fin 16) (s : State) : Host.Outcome State Fault Refusal :=
  .next (if (s.trunk i).state.guards = true ∧ (s.trunk i).guardTimer.isSome = true then
      (s.modTrunk i fun t => t.goTo .idle).pickAll
    else s)

/-- STUCK_TIMER_EXPIRY (R88, R100). -/
def execStuckTimerExpiry (i : Fin 16) (s : State) : Host.Outcome State Fault Refusal :=
  .next (if (s.trunk i).state.watches = true ∧ (s.trunk i).stuckTimer.isSome = true then
      ((s.modTrunk i fun t => t.goTo .fault).raiseNotice .trunkFault).judgeStandDown
    else s)

/-! ### Other talkers and the wires -/

/-- OTHER_TALKER_OPEN (R86). -/
def execOtherTalkerOpen (i : Fin 16) (s : State) : Host.Outcome State Fault Refusal :=
  .next (s.modTrunk i Trunk.otherOpen)

/-- OTHER_TALKER_CLOSE (R86). -/
def execOtherTalkerClose (i : Fin 16) (s : State) : Host.Outcome State Fault Refusal :=
  .next (s.modTrunk i Trunk.otherClose).pickAll

/-- TRUNK_WIRE_CHANGE (R85, R86, R88). -/
def execTrunkWireChange (i : Fin 16) (clockHigh dataHigh : Bool) (s : State) :
    Host.Outcome State Fault Refusal :=
  .next (s.modTrunk i fun t => t.wireChange clockHigh dataHigh).pickAll

/-- RECOVERING_WIRES_HIGH (R87). -/
def execRecoveringWiresHigh (i : Fin 16) (s : State) : Host.Outcome State Fault Refusal :=
  .next (if (s.trunk i).state = .recovering then s.modTrunk i fun t => (t.wires true true).wiresSeen else s)

/-- FAULT_WIRES_HIGH (R88). -/
def execFaultWiresHigh (i : Fin 16) (s : State) : Host.Outcome State Fault Refusal :=
  .next (if (s.trunk i).state = .fault then s.modTrunk i fun t => (t.wires true true).wiresSeen else s)

/-! ### Holds and arbitration -/

/-- HOLD (R83, R87). -/
def execHold (i : Fin 16) (addressAccepted : Bool) (s : State) : Host.Outcome State Fault Refusal :=
  .next (if (s.trunk i).state = .talking then s.modTrunk i fun t => t.held addressAccepted else s)

/-- The clock wire rises in HELD (R83). -/
def Trunk.released (t : Trunk) : Trunk := (t.wires true t.dataHigh).goTo .talking

/-- HOLD_RELEASE (R83, R87). A release that comes after the expiry is a rising wire in RECOVERING (R87). DESIGN CHOICE
(log 2), unsafe: in any other state too it is the clock wire rising. -/
def execHoldRelease (i : Fin 16) (s : State) : Host.Outcome State Fault Refusal :=
  .next (if (s.trunk i).state = .held then s.modTrunk i Trunk.released
    else (s.modTrunk i fun t => t.wireChange true t.dataHigh).pickAll)

/-- ARBITRATION_LOSS (R84, R96, R99, R103). -/
def execArbitrationLoss (i : Fin 16) (addressAccepted : Bool) (s : State) :
    Host.Outcome State Fault Refusal :=
  .next (if (s.trunk i).state = .talking then (s.loses i addressAccepted).pickAll else s)

/-! ### The ends of the part's own transactions -/

/-- The work in flight, if the part is talking. -/
def Trunk.sending (t : Trunk) : Option Work := if t.state = .talking then t.work else none

/-- A write ends at IDLE with an effect on its cabin; a detached one has none (R93, R94, R97). -/
def State.endWrite (s : State) (i : Fin 16) (effect : State → Nat → Face → State) : State :=
  match (s.trunk i).sending with
  | some (.write (some c) _ face _) => (effect (s.modTrunk i Trunk.close) c face).pickAll
  | some (.write none _ _ _) => (s.modTrunk i Trunk.close).pickAll
  | some (.broadcast _) => s
  | some (.survey _ _) => s
  | none => s

/-- WRITE_COMPLETION (R93). -/
def execWriteCompletion (i : Fin 16) (s : State) : Host.Outcome State Fault Refusal :=
  .next (s.endWrite i fun s c face => s.writeDone c face.gen)

/-- WRITE_REFUSED (R94). -/
def execWriteRefused (i : Fin 16) (s : State) : Host.Outcome State Fault Refusal :=
  .next (s.endWrite i fun s c _ => s.writeFailed c)

/-- A broadcast completes: the believed mode becomes the mode sent. -/
def Trunk.broadcastDone (t : Trunk) (m : PlateMode) : Trunk := ({ t with believed := some m } : Trunk).close

/-- BROADCAST_COMPLETION (R99, R100). -/
def execBroadcastCompletion (i : Fin 16) (s : State) : Host.Outcome State Fault Refusal :=
  .next (match (s.trunk i).sending with
    | some (.broadcast m) =>
      let s := (s.modTrunk i fun t => t.broadcastDone m).pickAll
      if m = .normal then s.judgeStandDown else s
    | some (.write _ _ _ _) => s
    | some (.survey _ _) => s
    | none => s)

/-- SURVEY_STEP_END (R103, R104, R191). -/
def execSurveyStepEnd (i : Fin 16) (how : SurveyEnd) (s : State) : Host.Outcome State Fault Refusal :=
  .next (match (s.trunk i).sending with
    | some (.survey a accepted) => (s.endSurveyStep i a accepted how).pickAll
    | some (.write _ _ _ _) => s
    | some (.broadcast _) => s
    | none => s)

end Sys2Proof.Machine
end

