-- ==== Sys2Proof/Machine/Dispatch.lean ====
section
/-! DEFINITION. One arm for each command. -/

namespace Sys2Proof.Machine

def exec (i : Instr) (s : State) : Host.Outcome State Fault Refusal :=
  match i with
  | .identify tag body => Sys2Proof.Machine.execIdentify tag body s
  | .portStatus tag body => Sys2Proof.Machine.execPortStatus tag body s
  | .configGet tag body => Sys2Proof.Machine.execConfigGet tag body s
  | .configSet tag body => Sys2Proof.Machine.execConfigSet tag body s
  | .noticeClear tag body => Sys2Proof.Machine.execNoticeClear tag body s
  | .restart tag body => Sys2Proof.Machine.execRestart tag body s
  | .cursorSet tag body => Sys2Proof.Machine.execCursorSet tag body s
  | .readNext tag body => Sys2Proof.Machine.execReadNext tag body s
  | .loadBegin tag body => Sys2Proof.Machine.execLoadBegin tag body s
  | .loadRecord tag body => Sys2Proof.Machine.execLoadRecord tag body s
  | .loadAbort tag body => Sys2Proof.Machine.execLoadAbort tag body s
  | .nodePut tag body => Sys2Proof.Machine.execNodePut tag body s
  | .nodeRetire tag body => Sys2Proof.Machine.execNodeRetire tag body s
  | .nodeGet tag body => Sys2Proof.Machine.execNodeGet tag body s
  | .edgePut tag body => Sys2Proof.Machine.execEdgePut tag body s
  | .edgeSetPass tag body => Sys2Proof.Machine.execEdgeSetPass tag body s
  | .edgeRetire tag body => Sys2Proof.Machine.execEdgeRetire tag body s
  | .edgeGet tag body => Sys2Proof.Machine.execEdgeGet tag body s
  | .routeAsk tag body => Sys2Proof.Machine.execRouteAsk tag body s
  | .targetPut tag body => Sys2Proof.Machine.execTargetPut tag body s
  | .targetRetire tag body => Sys2Proof.Machine.execTargetRetire tag body s
  | .targetGet tag body => Sys2Proof.Machine.execTargetGet tag body s
  | .stationBlock tag body => Sys2Proof.Machine.execStationBlock tag body s
  | .stationUnblock tag body => Sys2Proof.Machine.execStationUnblock tag body s
  | .cabinPut tag body => Sys2Proof.Machine.execCabinPut tag body s
  | .cabinAmend tag body => Sys2Proof.Machine.execCabinAmend tag body s
  | .cabinRetire tag body => Sys2Proof.Machine.execCabinRetire tag body s
  | .cabinGet tag body => Sys2Proof.Machine.execCabinGet tag body s
  | .plateRetry tag body => Sys2Proof.Machine.execPlateRetry tag body s
  | .serviceTake tag body => Sys2Proof.Machine.execServiceTake tag body s
  | .trunkGet tag body => Sys2Proof.Machine.execTrunkGet tag body s
  | .eventPut tag body => Sys2Proof.Machine.execEventPut tag body s
  | .eventAmend tag body => Sys2Proof.Machine.execEventAmend tag body s
  | .eventCancel tag body => Sys2Proof.Machine.execEventCancel tag body s
  | .eventRetire tag body => Sys2Proof.Machine.execEventRetire tag body s
  | .eventGet tag body => Sys2Proof.Machine.execEventGet tag body s
  | .clockSet tag body => Sys2Proof.Machine.execClockSet tag body s
  | .clockGet tag body => Sys2Proof.Machine.execClockGet tag body s
  | .screenPut tag body => Sys2Proof.Machine.execScreenPut tag body s
  | .screenAmend tag body => Sys2Proof.Machine.execScreenAmend tag body s
  | .screenRetire tag body => Sys2Proof.Machine.execScreenRetire tag body s
  | .screenGet tag body => Sys2Proof.Machine.execScreenGet tag body s
  | .noticeSet tag body => Sys2Proof.Machine.execNoticeSet tag body s
  | .musterStart tag body => Sys2Proof.Machine.execMusterStart tag body s
  | .musterEnd tag body => Sys2Proof.Machine.execMusterEnd tag body s
  | .musterStatus tag body => Sys2Proof.Machine.execMusterStatus tag body s
  | .readAnswer x => Sys2Proof.Machine.execReadAnswer x s
  | .portOverrun => Sys2Proof.Machine.execPortOverrun s
  | .badFrame bytes => Sys2Proof.Machine.execBadFrame bytes s
  | .unknownRequest tag code => Sys2Proof.Machine.execUnknownRequest tag code s
  | .powerOnReset => Sys2Proof.Machine.execPowerOnReset s
  | .pinReset => Sys2Proof.Machine.execPinReset s
  | .alarmInChange low => Sys2Proof.Machine.execAlarmInChange low s
  | .alarmInFilterExpiry => Sys2Proof.Machine.execAlarmInFilterExpiry s
  | .drillTimerExpiry => Sys2Proof.Machine.execDrillTimerExpiry s
  | .entryCountTimerExpiry => Sys2Proof.Machine.execEntryCountTimerExpiry s
  | .secondTimerExpiry => Sys2Proof.Machine.execSecondTimerExpiry s
  | .standDownCompletion => Sys2Proof.Machine.execStandDownCompletion s
  | .buildCompletion => Sys2Proof.Machine.execBuildCompletion s
  | .surveyTimerExpiry trunk => Sys2Proof.Machine.execSurveyTimerExpiry trunk s
  | .holdTimerExpiry trunk => Sys2Proof.Machine.execHoldTimerExpiry trunk s
  | .idleGuardExpiry trunk => Sys2Proof.Machine.execIdleGuardExpiry trunk s
  | .stuckTimerExpiry trunk => Sys2Proof.Machine.execStuckTimerExpiry trunk s
  | .otherTalkerOpen trunk => Sys2Proof.Machine.execOtherTalkerOpen trunk s
  | .otherTalkerClose trunk => Sys2Proof.Machine.execOtherTalkerClose trunk s
  | .hold trunk addressAccepted => Sys2Proof.Machine.execHold trunk addressAccepted s
  | .holdRelease trunk => Sys2Proof.Machine.execHoldRelease trunk s
  | .arbitrationLoss trunk addressAccepted => Sys2Proof.Machine.execArbitrationLoss trunk addressAccepted s
  | .recoveringWiresHigh trunk => Sys2Proof.Machine.execRecoveringWiresHigh trunk s
  | .faultWiresHigh trunk => Sys2Proof.Machine.execFaultWiresHigh trunk s
  | .writeCompletion trunk => Sys2Proof.Machine.execWriteCompletion trunk s
  | .writeRefused trunk => Sys2Proof.Machine.execWriteRefused trunk s
  | .broadcastCompletion trunk => Sys2Proof.Machine.execBroadcastCompletion trunk s
  | .surveyStepEnd trunk how => Sys2Proof.Machine.execSurveyStepEnd trunk how s
  | .privacy => Sys2Proof.Machine.execPrivacy s
  | .serviceCall => Sys2Proof.Machine.execServiceCall s
  | .sweepClear => Sys2Proof.Machine.execSweepClear s
  | .toolWrite => Sys2Proof.Machine.execToolWrite s
  | .periodTimerExpiry link => Sys2Proof.Machine.execPeriodTimerExpiry link s
  | .accept link address flags slot gen => Sys2Proof.Machine.execAccept link address flags slot gen s
  | .reject link address flags slot gen => Sys2Proof.Machine.execReject link address flags slot gen s
  | .descriptor link address flags lines languages panelClass => Sys2Proof.Machine.execDescriptor link address flags lines languages panelClass s
  | .corruptAnswer link => Sys2Proof.Machine.execCorruptAnswer link s
  | .answerWindowExpiry link => Sys2Proof.Machine.execAnswerWindowExpiry link s
  | .answerLimitExpiry link => Sys2Proof.Machine.execAnswerLimitExpiry link s
  | .trunkWireChange trunk clockHigh dataHigh => Sys2Proof.Machine.execTrunkWireChange trunk clockHigh dataHigh s
  | .screenAnswerBegin link => Sys2Proof.Machine.execScreenAnswerBegin link s

end Sys2Proof.Machine
end

