-- ==== Sys2Proof/Machine/Tick.lean ====
section
/-! DEFINITION. One millisecond of the reference clock with no command waiting (log 1): every running
timer counts on, and the expiries that fall due join the queue. -/

namespace Sys2Proof.Machine

/-- A timer one millisecond later. -/
def Timer.after (t : Timer) : Timer := t.map (· + 1)

/-- The expiry of a timer that has reached its period. -/
def expiry (period : Nat) (t : Timer) (command : Instr) : List Instr :=
  if t.any fun k => decide (period ≤ k) then [command] else []

/-! ### Every timer counts on -/

def Trunk.tick (t : Trunk) : Trunk :=
  { t with surveyTimer := Timer.after t.surveyTimer, guardTimer := Timer.after t.guardTimer,
           holdTimer := Timer.after t.holdTimer, stuckTimer := Timer.after t.stuckTimer }

def Exchange.tick (e : Exchange) : Exchange :=
  { e with window := Timer.after e.window, limit := Timer.after e.limit }

def Link.tick (k : Link) : Link :=
  { k with timer := Timer.after k.timer, exchange := k.exchange.map Exchange.tick }

def MusterControl.tick (m : MusterControl) : MusterControl :=
  { m with entryTimer := Timer.after m.entryTimer, drillTimer := Timer.after m.drillTimer,
           filterTimer := Timer.after m.filterTimer }

/-- Every timer of the part counts on by one millisecond. -/
def State.countOn (s : State) : State :=
  { s with
    plate := { s.plate with trunks := s.plate.trunks.map Trunk.tick }
    programme := { s.programme with secondTimer := Timer.after s.programme.secondTimer }
    screen := { s.screen with links := s.screen.links.map Link.tick }
    muster := s.muster.tick }

/-! ### The expiries that fall due -/

/-- Those of a link: its period, its answer window and its answer limit (R146, R148). -/
def Link.expiries (k : Link) (l : Fin 4) : List Instr :=
  expiry k.periodSetting k.timer (.periodTimerExpiry l) ++
    expiry Config.answerWindowMs (k.exchange.bind (·.window)) (.answerWindowExpiry l) ++
    expiry Config.answerLimitMs (k.exchange.bind (·.limit)) (.answerLimitExpiry l)

/-- Those of a trunk: survey, idle guard, hold and stuck timer (R85, R87, R88, R101). -/
def Trunk.expiries (t : Trunk) (surveyPeriod holdLimit : Nat) (i : Fin 16) : List Instr :=
  expiry surveyPeriod t.surveyTimer (.surveyTimerExpiry i) ++
    expiry Config.idleGuardMs t.guardTimer (.idleGuardExpiry i) ++
    expiry holdLimit t.holdTimer (.holdTimerExpiry i) ++
    expiry Config.stuckMs t.stuckTimer (.stuckTimerExpiry i)

/-- Those of the Muster Controller but for the entry count: filter and drill timer (R158, R162). -/
def MusterControl.expiries (m : MusterControl) : List Instr :=
  expiry Config.filterMs m.filterTimer .alarmInFilterExpiry ++
    expiry (m.drillLimit * Config.minuteMs) m.drillTimer .drillTimerExpiry

/-- Every expiry that has fallen due, in the order in which the part takes them (log 1). -/
def State.expiries (s : State) : List Instr :=
  expiry Config.secondMs s.muster.entryTimer .entryCountTimerExpiry ++
    expiry Config.secondMs s.programme.secondTimer .secondTimerExpiry ++
    allLinks.flatMap (fun l => (s.link l).expiries l) ++
    allTrunks.flatMap (fun i => (s.trunk i).expiries s.plate.surveyPeriod s.plate.holdLimit i) ++
    s.muster.expiries

/-- One millisecond passes. DESIGN CHOICE (log 1), unsafe: time passes only while no command waits. -/
def State.tick (s : State) : State :=
  let s := s.countOn
  { s with pending := s.pending ++ s.expiries }

end Sys2Proof.Machine
end

