-- ==== Sys2Proof/Machine/Wire.lean ====
section
/-! DEFINITION. The bytes that the part sends on its plate trunks (10 section 10.4) and its screen links
(10 section 10.5), read from the work and the exchange in flight (log 13). -/

namespace Sys2Proof.Machine

/-! ### Plate trunks -/

/-- The state byte of a face: bit 0 OCCUPIED, bits 2 to 1 privacy. -/
def Face.stateByte (f : Face) : Nat := f.occupancy.code + 2 * f.privacy.code

/-- The bytes of a WRITE_FACE behind its command byte. -/
def Face.bytes (f : Face) : List Byte :=
  u16 f.gen.toNat ++ u8 f.mode.code ++ u8 f.stateByte ++ optByte f.letter ++ u16 f.message ++
    u8 f.language ++ labelBytes f.label

/-- The bytes of a transaction that the part sends: address, command, and what follows. -/
def Work.bytes : Work → List Byte
  | .write _ address face _ => u8 address ++ [0x31#8] ++ face.bytes
  | .survey address _ => u8 address ++ [0x32#8]
  | .broadcast m => [0#8, 0x33#8] ++ u8 m.code

/-- What the part sends on a trunk in the transaction in flight. -/
def State.trunkSends (s : State) (i : Fin 16) : Option (List Byte) := (s.trunk i).work.map Work.bytes

/-! ### Screen links -/

def RouteLine.bytes (x : RouteLine) : List Byte :=
  u16 x.label ++ optByte x.letter ++ u8 x.kind.code ++ optByte (x.arrow.map Arrow.code) ++ u16 x.dist

def ProgrammeLine.bytes (x : ProgrammeLine) : List Byte :=
  u16 x.title ++ u8 x.category ++ u24 x.start ++ u16 (BitVec.ofInt 16 x.minutesToStart).toNat ++
    u8 x.mark ++ u8 x.fill.code ++ yesNo x.moved ++ u16 x.label ++ u8 x.kind.code ++
    optByte (x.arrow.map Arrow.code) ++ u16 x.dist

def MusterLine.bytes (x : MusterLine) : List Byte :=
  u8 x.marker.code ++ yesNo x.followCrew ++ optByte x.letter ++ u16 x.label ++ u8 x.kind.code ++
    optByte (x.arrow.map Arrow.code) ++ u16 x.dist

/-- The line count and the lines of a PANEL; a BLANK has none. -/
def Content.bytes : Content → List Byte
  | .blank => []
  | .route ls => u8 ls.length ++ ls.flatMap RouteLine.bytes
  | .programme ls => u8 ls.length ++ ls.flatMap ProgrammeLine.bytes
  | .notice n => u8 1 ++ u16 n
  | .muster l => u8 1 ++ l.bytes

/-- The kind byte of a packet. -/
def Packet.kind : Packet → Byte
  | .discover => 0x01#8
  | .keepalive => 0x02#8
  | .slot _ _ _ .blank => 0x04#8
  | .slot _ _ _ _ => 0x03#8

/-- The body of a packet. -/
def Packet.body : Packet → List Byte
  | .discover => []
  | .keepalive => []
  | .slot k g languages content =>
    u8 k.code ++ u16 g.toNat ++ u8 languages.length ++ languages.flatMap u8 ++ content.bytes

/-- The packet to a screen address. -/
def Packet.frame (p : Packet) (address : Nat) : List Byte :=
  withCrc (u8 address ++ [p.kind] ++ u16 p.body.length ++ p.body)

/-- What the part sends on a link in the exchange in flight. -/
def State.linkSends (s : State) (l : Fin 4) : Option (List Byte) :=
  (s.link l).exchange.map fun e => e.packet.frame (addressOfScreen e.screen)

end Sys2Proof.Machine
end

