-- ==== Sys2Proof/WellFormed.lean ====
section
/-! DEFINITION. Which commands the outside can send: a request body fits a frame, a BAD_FRAME frame
fails its checks, an UNKNOWN_REQUEST code names no request, a READ_ANSWER is no REQUEST, and a crew tag
follows SWEEP_CLEAR only. -/

namespace Sys2Proof

/-- A crew tag, whole or cut short, comes only behind a news byte of kind SWEEP_CLEAR (R191). -/
def SurveyEnd.wf : SurveyEnd → Bool
  | .refusedAddress => true
  | .refusedCommand => true
  | .news item tag => if item.toNat / 32 = 3 then decide (tag.length ≤ 2) else tag.isEmpty

/-- Whether the outside can send the command. -/
def Instr.wf (i : Instr) : Bool :=
  match requestParts i with
  | some (_, _, body) => decide (body.length ≤ Config.maxBody)
  | none =>
    match i with
    | .badFrame bytes =>
      match judgeFrame bytes with
      | .badLength => true
      | .badCheck => true
      | .good _ _ _ => false
    | .unknownRequest tag code => (requestOf code tag []).isNone
    | .surveyStepEnd _ how => how.wf
    | .readAnswer x => decide (x.byte ≠ 0xA5#8)
    | _ => true

end Sys2Proof
end

