-- ==== Sys2Proof/Safety.lean ====
section
/-! DEFINITION. The words in which claims about the part are stated: the answer a request leaves, the
marks on screen slots, walks over the deck graph, and the invariants of each block. -/

namespace Sys2Proof.Machine

/-! ### What a request leaves -/

/-- The state `t` with the answer of a request that was taken in the state `s`: the status byte that
opened the transaction has been driven, the answer is placed and no request is in processing (R174). -/
def State.answering (s t : State) (tag : Byte) (r : Result) (body : List Byte) : State :=
  { t with
    port := { t.port with
      out := [s.statusByte], answer := some { tag, result := r, body }, processing := false }
    fresh := s.fresh + 1 }

/-- The requests that change what the part holds, with the way their body parses: those that a load
under way refuses with BUSY (R176). -/
def changingRequest : Instr → Option (Byte × Bool)
  | .configSet t b => some (t, (parseConfig b).isSome)
  | .loadBegin t b => some (t, (body12 b).isSome)
  | .nodePut t b => some (t, (parseNode b).isSome)
  | .nodeRetire t b => some (t, (body2 b).isSome)
  | .edgePut t b => some (t, (parseEdge b).isSome)
  | .edgeSetPass t b => some (t, (body21 b).isSome)
  | .edgeRetire t b => some (t, (body2 b).isSome)
  | .targetPut t b => some (t, (parseTarget b).isSome)
  | .targetRetire t b => some (t, (body1 b).isSome)
  | .stationBlock t b => some (t, (body1 b).isSome)
  | .stationUnblock t b => some (t, (body1 b).isSome)
  | .cabinPut t b => some (t, (parseCabin b).isSome)
  | .cabinAmend t b => some (t, (parseCabinAmend b).isSome)
  | .cabinRetire t b => some (t, (body12 b).isSome)
  | .plateRetry t b => some (t, (body12 b).isSome)
  | .serviceTake t b => some (t, (body0 b).isSome)
  | .eventPut t b => some (t, (parseEntry b).isSome)
  | .eventAmend t b => some (t, (parseEntryAmend b).isSome)
  | .eventCancel t b => some (t, (body2 b).isSome)
  | .eventRetire t b => some (t, (body2 b).isSome)
  | .clockSet t b => some (t, (body31 b).isSome)
  | .screenPut t b => some (t, (parseScreen b).isSome)
  | .screenAmend t b => some (t, (parseScreenAmend b).isSome)
  | .screenRetire t b => some (t, (body11 b).isSome)
  | .noticeSet t b => some (t, (parseNoticeSet b).isSome)
  | _ => none

/-- The requests that the part takes in both port states, but for LOAD_RECORD, with the way their body parses. -/
def otherRequest : Instr → Option (Byte × Bool)
  | .identify t b => some (t, (body0 b).isSome)
  | .portStatus t b => some (t, (body0 b).isSome)
  | .configGet t b => some (t, (body0 b).isSome)
  | .noticeClear t b => some (t, (body2 b).isSome)
  | .restart t b => some (t, (body1 b).isSome)
  | .cursorSet t b => some (t, (body12 b).isSome)
  | .readNext t b => some (t, (body0 b).isSome)
  | .loadAbort t b => some (t, (body0 b).isSome)
  | .nodeGet t b => some (t, (body2 b).isSome)
  | .edgeGet t b => some (t, (body2 b).isSome)
  | .routeAsk t b => some (t, (parseRouteAsk b).isSome)
  | .targetGet t b => some (t, (body1 b).isSome)
  | .cabinGet t b => some (t, (parseCabinGet b).isSome)
  | .trunkGet t b => some (t, (body1 b).isSome)
  | .eventGet t b => some (t, (body2 b).isSome)
  | .clockGet t b => some (t, (body0 b).isSome)
  | .screenGet t b => some (t, (body11 b).isSome)
  | .musterStart t b => some (t, (body1 b).isSome)
  | .musterEnd t b => some (t, (body0 b).isSome)
  | .musterStatus t b => some (t, (body0 b).isSome)
  | _ => none

/-! ### What the bodies of requests give -/

/-- Every field of an EDGE_PUT is in its range (R6, check 1; 10 sections 10.1 and 10.3); that bits 2 to 7 of the
flags are out of range is the model's choice (log 39). -/
def EdgeBody.InRange (b : EdgeBody) : Prop :=
  b.id ≤ 3071 ∧ b.endA ≤ 1023 ∧ b.endB ≤ 1023 ∧ 1 ≤ b.length ∧ b.length ≤ 500 ∧ b.kind ≤ 2 ∧
  b.leaveA ≤ 9 ∧ b.leaveB ≤ 9 ∧ b.flags ≤ 3

/-- The edge that an EDGE_PUT in range gives: bit 0 of its flags is CLOSED and bit 1 crew-only. -/
def EdgeBody.Gives (b : EdgeBody) (e : Edge) : Prop :=
  e.endA = b.endA ∧ e.endB = b.endB ∧ e.length = b.length ∧ e.kind.code = b.kind ∧
  e.leaveA.code = b.leaveA ∧ e.leaveB.code = b.leaveB ∧
  (e.pass = .closed ↔ b.flags.testBit 0 = true) ∧ e.crewOnly = b.flags.testBit 1

/-- A plate address as two bytes give it, in range or absent. -/
def plateInRange (p : Nat × Nat) : Prop := p = (0xFF, 0) ∨ (p.1 ≤ 15 ∧ 1 ≤ p.2 ∧ p.2 ≤ 250)

/-- A label in range (section 4.1; 10 section 10.1). -/
def labelFits (l : List Word16) : Prop := l.length ≤ 24 ∧ ∀ c ∈ l, 0x20 ≤ c.toNat ∧ c.toNat ≤ 0xFFFD

/-- Every field of a CABIN_PUT is in its range (R60, check 1). -/
def CabinBody.InRange (b : CabinBody) : Prop :=
  b.deck ≤ 19 ∧ 1 ≤ b.number ∧ b.number ≤ 999 ∧ b.doorNode ≤ 1023 ∧ plateInRange b.plate ∧
  1 ≤ b.berths ∧ b.berths ≤ 6 ∧ b.occupancy ≤ 1 ∧ b.privacy ≤ 2 ∧ b.language ≤ 15 ∧ b.primary ≤ 63 ∧
  (b.alternate = 0xFF ∨ b.alternate ≤ 63) ∧ labelFits b.label

/-- Every field that a CABIN_AMEND gives is in its range (R61, check 1; R190). -/
def CabinAmendBody.InRange (b : CabinAmendBody) : Prop :=
  b.deck ≤ 19 ∧ 1 ≤ b.number ∧ b.number ≤ 999 ∧ b.mask < 2048 ∧
  (∀ n, b.doorNode = some n → n ≤ 1023) ∧ (∀ p, b.plate = some p → plateInRange p) ∧
  (∀ n, b.berths = some n → 1 ≤ n ∧ n ≤ 6) ∧ (∀ n, b.occupancy = some n → n ≤ 1) ∧
  (∀ l, b.label = some l → labelFits l) ∧ (∀ n, b.language = some n → n ≤ 15) ∧
  (∀ n, b.primary = some n → n ≤ 63) ∧ (∀ n, b.alternate = some n → n = 0xFF ∨ n ≤ 63) ∧
  (∀ n, b.privacy = some n → n ≤ 2) ∧ (∀ n, b.service = some n → n = 0)

/-- The record that a CABIN_AMEND in range makes of an old one, the plate's delivery apart: the fields given
replace those held, and setting an OCCUPIED cabin VACANT clears its contents (R62, R63). -/
def CabinAmendBody.Gives (b : CabinAmendBody) (old new : Cabin) : Prop :=
  let occupancy := (b.occupancy.bind Occupancy.ofCode).getD old.occupancy
  let vacates := old.occupancy = .occupied ∧ occupancy = .vacant
  new = { old with
    doorNode := b.doorNode.getD old.doorNode
    plate := (b.plate.bind plateOfRaw).getD old.plate
    berths := b.berths.getD old.berths
    occupancy := occupancy
    label := if vacates then [] else b.label.getD old.label
    language := b.language.getD old.language
    message := if vacates then none else (b.message.map optCatalogueOfRaw).getD old.message
    primary := b.primary.getD old.primary
    alternate := (b.alternate.bind optTargetOfRaw).getD old.alternate
    privacy := if vacates then .unasked else (b.privacy.bind Privacy.ofCode).getD old.privacy
    service := old.service && b.service.isNone && !decide vacates }

/-! ### Marks on screen slots (R131) -/

/-- A slot that the causes of an event have marked, if they reach it and its policy is not OFF. -/
def Slot.marked (reached : Bool) (y : Slot) : Slot :=
  if reached && decide (y.policy ≠ .off) then { y with gen := y.gen + 1#16 } else y

/-- A screen whose reached slots have been marked. -/
def Screen.marked (reached : SlotKind → Bool) (x : Screen) : Screen :=
  { x with
    routeSlot := x.routeSlot.marked (reached .route)
    programmeSlot := x.programmeSlot.marked (reached .programme)
    noticeSlot := x.noticeSlot.marked (reached .notice)
    musterSlot := x.musterSlot.marked (reached .muster) }

/-- One slot comes before another where an event takes several: in ascending link and address, and on a screen in
the order ROUTE, PROGRAMME, NOTICE, MUSTER (R131). -/
def slotBefore (a b : SlotRef) : Prop :=
  a.screen < b.screen ∨ (a.screen = b.screen ∧ a.kind.code < b.kind.code)

/-- A dirty slot of a PRESENT screen with a valid descriptor (R131). -/
def Screen.owes (x : Screen) (k : SlotKind) : Prop :=
  (x.slot k).accepted ≠ some (x.slot k).gen ∧ x.attach = .present ∧ x.descValid = true

/-- Behind a link's queues of before stand the slots that joined, MUSTER slots in the muster queue and the others
in the dirty queue. -/
def Link.joinedBy (before after : Link) (joined : List SlotRef) : Prop :=
  after.musterQueue = before.musterQueue ++ joined.filter (fun r => decide (r.kind = .muster)) ∧
  after.dirtyQueue = before.dirtyQueue ++ joined.filter (fun r => decide (r.kind ≠ .muster))

/-- From `s` to `t` those of some touched slots that are owed, and neither stand in a queue nor are the subject of
the exchange in flight, join the tail of their link's queue in the order of the slots; the links are otherwise as
before (R131, R132). -/
def QueuesGrow (s t : State) (touched : SlotRef → Prop) : Prop :=
  ∀ l, ∃ joined : List SlotRef, joined.Pairwise slotBefore ∧
    (∀ r, r ∈ joined ↔ linkOfScreen r.screen = l ∧ touched r ∧ (s.link l).queued r = false ∧
      (s.link l).sending r = false ∧ ∃ x, t.screenAt r.screen = some x ∧ x.owes r.kind) ∧
    (s.link l).joinedBy (t.link l) joined ∧
    t.link l = { s.link l with
      musterQueue := (t.link l).musterQueue, dirtyQueue := (t.link l).dirtyQueue }

/-- The slots that the causes of an event reach. -/
def Causes.reach (p : Causes) (s : State) (r : SlotRef) : Prop :=
  ∃ x, s.screenAt r.screen = some x ∧ p r.screen x r.kind = true

/-- From `s` to `t` each slot that the causes reach has been marked once, those that are owed have joined their
queues, and no other record of a screen has changed (R131). -/
def MarkedBy (s t : State) (p : Causes) : Prop :=
  (∀ n, t.screenAt n = (s.screenAt n).map fun x => x.marked (p n x)) ∧ QueuesGrow s t (p.reach s)

/-! ### Tables -/

/-- Every slot of a table is below a limit. -/
def slotsBelow {α : Type} (t : Table α) (limit : Nat) : Prop := ∀ r ∈ t, r.1 < limit

/-- Every table is in its canonical form and within its slots (00 section 5.9). -/
def TablesWf (s : State) : Prop :=
  (Table.wf s.graph.nodes = true ∧ slotsBelow s.graph.nodes 1024) ∧
  (Table.wf s.graph.edges = true ∧ slotsBelow s.graph.edges 3072) ∧
  (Table.wf s.route.maps = true ∧ slotsBelow s.route.maps 128) ∧
  (Table.wf s.target.targets = true ∧ slotsBelow s.target.targets 64) ∧
  (Table.wf s.cabin.cabins = true ∧ slotsBelow s.cabin.cabins 3072) ∧
  (Table.wf s.programme.entries = true ∧ slotsBelow s.programme.entries 256) ∧
  (Table.wf s.screen.screens = true ∧ slotsBelow s.screen.screens 512)

/-! ### The deck graph (R4, R8, R16) -/

/-- Each claim names a live node, an edge joins two different nodes, and every degree, reference count
and the open-lift count are what the live records make them (R4, R16). -/
def GraphInv (s : State) : Prop :=
  (∀ id e, s.edge id = some e → e.endA ≠ e.endB ∧ (s.node e.endA).isSome ∧ (s.node e.endB).isSome) ∧
  (∀ t x, s.targetAt t = some x → (s.node x.anchor).isSome) ∧
  (∀ c x, s.cabinAt c = some x → (s.node x.doorNode).isSome) ∧
  (∀ n x, s.screenAt n = some x → (s.node x.node).isSome) ∧
  (∀ n x, s.node n = some x → x.degree = s.endsAt n ∧ x.refs = s.claimsOnNode n) ∧
  s.graph.openLifts = Table.count s.graph.edges Edge.openLift

/-- No node has more than 8 live edge ends (R8). -/
def DegreeInv (s : State) : Prop := ∀ n, s.endsAt n ≤ Config.endsPerNode

/-- A walk along listed edges from one node to another, with its total length (R22). -/
inductive Walk (edges : Table Edge) : Nat → Nat → Nat → Prop
  | stay (n : Nat) : Walk edges n n 0
  | along (id : Nat) (e : Edge) (n m k : Nat) : (id, e) ∈ edges → e.hasEnd n = true →
      Walk edges (e.other n) m k → Walk edges n m (e.length + k)

/-- The least length of a walk from one node to another. -/
def LeastLength (edges : Table Edge) (n m d : Nat) : Prop :=
  Walk edges n m d ∧ ∀ k, Walk edges n m k → d ≤ k

/-! ### The Route Engine (R20, R25, R27, R35) -/

/-- The maps that wait to be built. -/
def State.rebuildQueue (s : State) : List MapName := s.route.urgent ++ s.route.ordinary

/-- The maps of the live targets are live; exactly the STALE and EMPTY ones are queued, once each; the
engine is idle only with an empty queue; exactly the map of the build record is BUILDING, with the
present generation; and a CURRENT map has the present generation (R20, R25, R27, R35). -/
def RouteInv (s : State) : Prop :=
  Table.wf s.route.maps = true ∧
  (∀ m, (s.mapAt m).isSome = (s.targetAt m.target).isSome) ∧
  s.rebuildQueue.Nodup ∧
  (∀ m, m ∈ s.rebuildQueue ↔ ∃ r, s.mapAt m = some r ∧ (r.state = .stale ∨ r.state = .empty)) ∧
  (s.route.build = none → s.rebuildQueue = []) ∧
  (∀ m r, s.mapAt m = some r → (r.state = .building ↔ ∃ g, s.route.build = some { map := m, gen := g })) ∧
  (∀ b, s.route.build = some b → (s.mapAt b.map).isSome ∧ b.gen = s.genOf b.map.profile) ∧
  (∀ m r, s.mapAt m = some r → r.state = .current → r.builtGen = some (s.genOf m.profile))

/-- The profiles that a raise reaches. -/
def raisedProfile (stepFree : Bool) : Profile → Bool
  | .general => true
  | .stepFree => stepFree

/-- Maps in ascending target id, GENERAL before STEP_FREE. -/
def mapBefore (a b : MapName) : Prop :=
  a.target < b.target ∨ (a.target = b.target ∧ a.profile = .general ∧ b.profile = .stepFree)

/-- The maps of a STATION join URGENT in DRILL and ALARM (R26). -/
def State.joinsUrgent (s : State) (m : MapName) : Bool :=
  (s.stationAt m.target).isSome && (decide (s.muster.state = .drill) || decide (s.muster.state = .alarm))

/-- Some maps go out of date, from the queue classes given, and a build starts (R26, R27, R29, R32): each CURRENT
one becomes STALE at the tail of its class, a build of one is abandoned to the head of its class, and a queued
one keeps its place; contents go if `cleared`. -/
def MapsOutdated (s t : State) (urgent ordinary : List MapName) (out : MapName → Bool) (cleared : Bool) : Prop :=
  let given : List MapName := match s.route.build with
    | some b => if out b.map then [b.map] else []
    | none => []
  let later (m : MapName) : Bool := !t.joinsUrgent m
  (∃ fallen : List MapName, fallen.Pairwise mapBefore ∧
    (∀ m, m ∈ fallen ↔ out m = true ∧ ∃ r, s.mapAt m = some r ∧ r.state = .current) ∧
    let u := given.filter t.joinsUrgent ++ urgent ++ fallen.filter t.joinsUrgent
    let o := given.filter later ++ ordinary ++ fallen.filter later
    (∀ b, s.route.build = some b → out b.map = false →
      t.route.build = some b ∧ t.route.urgent = u ∧ t.route.ordinary = o) ∧
    ((∀ b, s.route.build = some b → out b.map = true) →
      t.route.build = (u ++ o).head?.map (fun m => { map := m, gen := t.genOf m.profile }) ∧
      t.route.urgent = u.tail ∧ t.route.ordinary = if u = [] then o.tail else o)) ∧
  ∀ m, t.mapAt m = (s.mapAt m).map fun r => { r with
    entries := if out m && cleared then [] else r.entries
    state :=
      if t.route.build.any fun b => decide (b.map = m) then .building
      else if out m && decide (r.state = .current) then .stale
      else if out m && decide (r.state = .building) then (if r.contentHeld then .stale else .empty)
      else r.state }

/-- What a raise does to the maps and the queue (R17, R29). -/
def RaiseTakenBy (s t : State) (stepFree : Bool) : Prop :=
  MapsOutdated s t s.route.urgent s.route.ordinary (fun m => raisedProfile stepFree m.profile) false

/-- The entries of a CURRENT map are what a build would give now (R22, R23, R35). -/
def ContentInv (s : State) : Prop :=
  ∀ m r, s.mapAt m = some r → r.state = .current → r.entries = s.buildResult m

/-! ### Targets and stations (R46, R50, R52, R53) -/

/-- The occupied berths of a list of cabins. -/
def berthsOf (cs : List (Nat × Cabin)) : Nat := (cs.map fun r => r.2.occupiedBerths).sum

/-- Every claim names a live target of the right kind, letters are held once, and every reference count,
tally, over flag and the unassigned figure are what the live records make them (R46, R50, R52, R53). -/
def TargetInv (s : State) : Prop :=
  (∀ c x, s.cabinAt c = some x → (s.stationAt x.primary).isSome ∧
    ∀ a, x.alternate = some a → a ≠ x.primary ∧ (s.stationAt a).isSome) ∧
  (∀ e x, s.entryAt e = some x → ∃ v, s.targetAt x.venue = some v ∧ v.station = none) ∧
  (∀ n x, s.screenAt n = some x → x.shown.Nodup ∧ (∀ t ∈ x.shown, (s.targetAt t).isSome) ∧
    ∀ t, x.override = some t → (s.stationAt t).isSome) ∧
  (∀ t u a b, s.stationAt t = some a → s.stationAt u = some b → a.letter = b.letter → t = u) ∧
  (∀ t x, s.targetAt t = some x → x.refs = s.claimsOnTarget t) ∧
  (∀ t st, s.stationAt t = some st → st.assigned = (s.assignedTo t).length ∧
    st.swept = ((s.assignedTo t).filter fun r => r.2.swept).length ∧
    st.occupied = berthsOf (s.assignedTo t) ∧
    st.overFlag = (decide (0 < st.capacity) && decide (st.capacity < st.occupied))) ∧
  s.target.unassigned = (s.cabin.cabins.filter fun r => (s.effective r.2).isNone).length

/-- A cabin names a station as its primary or its alternate. -/
def Cabin.names (x : Cabin) (k : Nat) : Bool := decide (x.primary = k) || decide (x.alternate = some k)

/-- From `s` to `t` the claims of a cabin's old record are given back and those of its new record taken: each target
keeps all but its reference count, and a station its letter, its capacity and its blocked flag (R50, R52). -/
def ClaimsMoved (s t : State) (old new : Option Cabin) : Prop :=
  (∀ k, s.targetAt k = none → t.targetAt k = none) ∧
  ∀ k x, s.targetAt k = some x → ∃ y, t.targetAt k = some y ∧
    y = { x with
      station := y.station
      refs := x.refs - (if old.any (·.names k) then 1 else 0) + (if new.any (·.names k) then 1 else 0) } ∧
    (x.station = none → y.station = none) ∧
    ∀ a, x.station = some a → ∃ b, y.station = some b ∧
      b = { a with assigned := b.assigned, swept := b.swept, occupied := b.occupied, overFlag := b.overFlag }

/-- Some station's over flag goes from clear to set (R53). -/
def OverSet (s t : State) : Prop :=
  ∃ k a b, s.stationAt k = some a ∧ t.stationAt k = some b ∧ a.overFlag = false ∧ b.overFlag = true

/-- The Service Port is as before, but for STATION_OVER if an over flag was set (R53). -/
def PortTellsOver (s t : State) : Prop :=
  (OverSet s t → t.port = { s.port with events := s.port.events ||| Notice.stationOver.flag }) ∧
  (¬OverSet s t → t.port = s.port)

/-- Exactly the cabins whose service flag is set stand in the service list, once each, and they are OCCUPIED
(R71); a cabin number is in its range; and no two cabins have one number or one plate address (R59). -/
def CabinInv (s : State) : Prop :=
  s.cabin.service.Nodup ∧
  (∀ c, c ∈ s.cabin.service ↔ ∃ x, s.cabinAt c = some x ∧ x.service = true) ∧
  (∀ c x, s.cabinAt c = some x → (x.service = true → x.occupancy = .occupied) ∧
    x.number.deck ≤ 19 ∧ 1 ≤ x.number.number ∧ x.number.number ≤ 999) ∧
  ∀ c d x y, s.cabinAt c = some x → s.cabinAt d = some y →
    x.number = y.number ∨ (x.plate.isSome ∧ x.plate = y.plate) → c = d

/-- A plate waits in its trunk's queue or is being written (R69). -/
def PlateOwed (s : State) (c : Nat) (p : PlateAddress) : Prop :=
  c ∈ (s.trunk p.trunk).urgent ∨ c ∈ (s.trunk p.trunk).ordinary ∨ (s.trunk p.trunk).writing c = true

/-- How often a cabin stands in the plate queues or as the subject of a write in flight (R69). -/
def State.platePlaces (s : State) (c : Nat) : Nat :=
  (allTrunks.map fun i => (s.trunk i).urgent.count c + (s.trunk i).ordinary.count c +
    if (s.trunk i).writing c then 1 else 0).sum

/-- A cabin without a plate address has plate state NONE and one with an address another; a PENDING cabin
stands at exactly one place, on its own trunk, and no other cabin stands at any (section 4.1, R69). -/
def PlateInv (s : State) : Prop :=
  Table.wf s.cabin.cabins = true ∧
  (∀ c x, s.cabinAt c = some x → (x.plate = none ↔ x.plateState = .noPlate)) ∧
  (∀ c, s.platePlaces c =
    if (s.cabinAt c).any (fun x => decide (x.plateState = .pending)) then 1 else 0) ∧
  ∀ c x p, s.cabinAt c = some x → x.plate = some p → x.plateState = .pending → PlateOwed s c p

/-- How state, wires, work and timers of a trunk go together (R85 to R89, R101). -/
def TrunkOk (t : Trunk) : Prop :=
  (t.enabled = true ↔ t.state ≠ .disabled) ∧
  (t.work.isSome = true ↔ t.state = .talking ∨ t.state = .held) ∧
  (t.holdTimer.isSome = true ↔ t.state = .held) ∧
  (t.surveyTimer.isSome = t.enabled) ∧
  (t.guardTimer.isSome = true ↔ (t.state = .settling ∨ t.state = .listening) ∧ t.bothHigh = true) ∧
  (t.stuckTimer.isSome = true ↔ (t.state = .settling ∨ t.state = .idle ∨ t.state = .listening ∨
    t.state = .recovering) ∧ t.bothHigh = false) ∧
  (t.state = .talking → t.bothHigh = true) ∧
  (t.state = .held → t.clockHigh = false ∧ t.dataHigh = true) ∧
  (t.state = .recovering ∨ t.state = .fault → t.bothHigh = false)

/-- How many survey steps are in flight. -/
def State.surveySteps (s : State) : Nat := ((List.finRange 16).filter fun i => match (s.trunk i).work with
  | some (.survey _ _) => true
  | _ => false).length

/-- Every trunk is in order, and the entries held and reserved in the Inbound Report Queue fit its 64
(R105). -/
def TrunkInv (s : State) : Prop := (∀ i, TrunkOk (s.trunk i)) ∧ s.held + s.reserved ≤ 64

/-- Every cabin that waits on a trunk is live. -/
def QueuedLive (s : State) (i : Fin 16) : Prop :=
  ∀ c, c ∈ (s.trunk i).urgent ∨ c ∈ (s.trunk i).ordinary → (s.cabinAt c).isSome

/-- A trunk that a cabin joins, if `joins`, at the tail of class URGENT in DRILL and ALARM and of ORDINARY else
(R68). -/
def State.plateJoins (s : State) (t : Trunk) (joins : Bool) (c : Nat) : Trunk :=
  let proper := s.muster.state = .drill ∨ s.muster.state = .alarm
  { t with
    urgent := t.urgent ++ if joins && decide proper then [c] else []
    ordinary := t.ordinary ++ if joins && !decide proper then [c] else [] }

/-- A plate address is on a trunk. -/
def onTrunk (p : Option PlateAddress) (i : Fin 16) : Bool := p.any fun q => decide (q.trunk = i)

/-- One cabin does not come after another in the order of the cabin numbers, by deck and then by number. -/
def notAfter (a b : CabinNumber) : Prop := a.deck < b.deck ∨ (a.deck = b.deck ∧ a.number ≤ b.number)

/-- A change of its face owes a CURRENT or FAILED plate anew (R68). -/
def Cabin.owedAnew (x : Cabin) : Bool := decide (x.plateState = .current) || decide (x.plateState = .failed)

/-- A cabin whose content generation is raised by one: a CURRENT or FAILED plate becomes PENDING with retries 0,
and any other keeps its state (R68). -/
def Cabin.faceRaised (x : Cabin) : Cabin :=
  { x with
    contentGen := x.contentGen + 1#16
    plateState := if x.owedAnew then .pending else x.plateState
    retries := if x.owedAnew then 0 else x.retries }

/-- From `s` to `u` the faces of some cabins change (R68): each content generation is raised, and the cabins whose
plates are owed anew join the tail of their trunk's queue in ascending cabin number, in class URGENT in DRILL and
ALARM and in ORDINARY else. The other cabins, and the trunks beside, are as before. -/
def FacesRaised (s u : State) (raised : Nat → Cabin → Bool) : Prop :=
  (∀ c, u.cabinAt c = (s.cabinAt c).map fun x => if raised c x then x.faceRaised else x) ∧
  ∀ i, ∃ joined : List Nat, joined.Nodup ∧
    joined.Pairwise (fun a b => ∀ x y, s.cabinAt a = some x → s.cabinAt b = some y → notAfter x.number y.number) ∧
    (∀ c, c ∈ joined ↔ ∃ x p, s.cabinAt c = some x ∧ raised c x = true ∧ x.owedAnew = true ∧
      x.plate = some p ∧ p.trunk = i) ∧
    let proper := s.muster.state = .drill ∨ s.muster.state = .alarm
    u.trunk i = { s.trunk i with
      urgent := (s.trunk i).urgent ++ if proper then joined else []
      ordinary := (s.trunk i).ordinary ++ if proper then [] else joined }

/-! ### The daily programme (R110, R111, R126) -/

/-- Entry ids are held once, from 1 to 65,535; an entry is RUNNING only in NORMAL and SUSPENDED only outside it, and
while the clock is UNSET every entry is SCHEDULED or CANCELLED (R110, R126). -/
def EntryInv (s : State) : Prop :=
  Table.wf s.programme.entries = true ∧
  (∀ j k a b, s.entryAt j = some a → s.entryAt k = some b → a.id = b.id → j = k) ∧
  (∀ k e, s.entryAt k = some e → 1 ≤ e.id ∧ e.id ≤ 65535 ∧
    (e.state = .running → s.muster.state = .normal) ∧ (e.state = .suspended → s.muster.state ≠ .normal) ∧
    (s.programme.clock = none → e.state = .scheduled ∨ e.state = .cancelled))

/-- The 1-based place of an entry in the programme list: one more than the live entries before it (R111). -/
def State.placeOf (s : State) (e : Entry) : Nat :=
  1 + (s.programme.entries.filter fun r => decide (r.2.start < e.start) ||
    (decide (r.2.start = e.start) && decide (r.2.id < e.id))).length

/-- PROGRAMME of each screen that a venue passes (R141, R144). -/
def venueCauses (s : State) (v : Nat) : Causes := fun _ x k => decide (k = .programme) && s.passes x v

/-- What judging every entry at a minute does (R112, R120, R124, R125): each entry takes its judgement,
retired ones leave with their venue claims, and the PROGRAMME slot of every screen whose scope is not NONE is
marked. -/
def JudgedAt (s t : State) (now : Nat) : Prop :=
  (∀ k, t.entryAt k = (s.entryAt k).bind fun e =>
    (e.judge now s.programme.linger s.muster.state).map fun st => { e with state := st }) ∧
  (∀ k, t.targetAt k = (s.targetAt k).map fun x => { x with refs := x.refs -
    (s.programme.entries.filter fun r => decide (r.2.venue = k) &&
      (r.2.judge now s.programme.linger s.muster.state).isNone).length }) ∧
  MarkedBy s t (fun _ x k => decide (k = .programme) && decide (x.scope ≠ .nothing))

/-! ### Screens and links (R130 to R152) -/

/-- The record that a SCREEN_AMEND in range makes of an old one, its generations apart: the fields given replace
those held; bit 0 of the flags is step-free and bit 1 DARK; policy 3 leaves a policy as it is (R134, R190). -/
def ScreenAmendBody.Gives (b : ScreenAmendBody) (old new : Screen) : Prop :=
  let policy (place : Nat) (held : Policy) : Policy :=
    match b.policies with
    | none => held
    | some n => match n / 4 ^ place % 4 with
      | 0 => .off
      | 1 => .once
      | 2 => .refreshed
      | _ => held
  new = { old with
    node := b.node.getD old.node
    facing := (b.facing.bind Facing.ofCode).getD old.facing
    stepFree := (b.flags.map fun n => n.testBit 0).getD old.stepFree
    mode := (b.flags.map fun n => if n.testBit 1 then RecordMode.dark else .normal).getD old.mode
    scope := (b.scope.bind Scope.ofCode).getD old.scope
    override := match b.override with
      | none => old.override
      | some n => if n = 0xFF then none else some n
    notice := b.notice.getD old.notice
    languages := b.languages.getD old.languages
    shown := b.shown.getD old.shown
    routeSlot := { old.routeSlot with policy := policy 0 old.routeSlot.policy }
    programmeSlot := { old.programmeSlot with policy := policy 1 old.programmeSlot.policy }
    noticeSlot := { old.noticeSlot with policy := policy 2 old.noticeSlot.policy } }

/-- A slot's policy turns to or from OFF. -/
def policyTurned (old new : Screen) (k : SlotKind) : Prop :=
  ¬((old.slot k).policy = .off ↔ (new.slot k).policy = .off)

/-- Whether replacing one record of a screen by another changes a field that marks a slot (R134). -/
def fieldsMark (old new : Screen) (k : SlotKind) : Prop :=
  let everything := old.languages ≠ new.languages ∨ old.mode ≠ new.mode
  let place := old.node ≠ new.node ∨ old.facing ≠ new.facing ∨ old.stepFree ≠ new.stepFree
  match k with
    | .route => everything ∨ place ∨ old.shown ≠ new.shown
    | .programme => everything ∨ place ∨ old.scope ≠ new.scope
    | .notice => everything ∨ old.notice ≠ new.notice
    | .muster => everything ∨ place ∨ old.override ≠ new.override

/-- Whether it raises a slot: its policy turns to or from OFF, or it is marked and not OFF (R131, R134). -/
def slotRaised (old new : Screen) (k : SlotKind) : Prop :=
  policyTurned old new k ∨ (fieldsMark old new k ∧ (new.slot k).policy ≠ .off)

/-- Whether it marks a slot or turns its policy, so that the slot is queued if it is owed (R131, R134). -/
def slotTouched (old new : Screen) (k : SlotKind) : Prop := policyTurned old new k ∨ fieldsMark old new k

/-- The record `new` put in the place of `old`, each slot that this raises raised by one. -/
def ScreenReplaced (old new after : Screen) : Prop :=
  (∀ k, (¬slotRaised old new k → after.slot k = new.slot k) ∧
    (slotRaised old new k → after.slot k = { new.slot k with gen := (new.slot k).gen + 1#16 })) ∧
  after = { new with routeSlot := after.routeSlot, programmeSlot := after.programmeSlot,
                     noticeSlot := after.noticeSlot, musterSlot := after.musterSlot }

/-- A dirty slot of a PRESENT screen with a valid descriptor stands in a queue of its link or is being sent
(R131, R132). -/
def SlotOwed (s : State) (n : Nat) (x : Screen) (k : SlotKind) : Prop :=
  x.owes k →
    (s.link (linkOfScreen n)).queued { screen := n, kind := k } = true ∨
    (s.link (linkOfScreen n)).sending { screen := n, kind := k } = true

/-- An exchange of a link has ended: the screen's record is `x`; its slots leave both queues if `left`, and else
those of `owed` that are dirty, and stand in no queue, join the tail in their order if the screen is PRESENT with a
valid descriptor; SCREEN_CHANGE is raised if `told`; the link sends on; and the Muster Controller judges at most
(R132, R147 to R151). -/
def ExchangeEnded (s t : State) (l : Fin 4) (n : Nat) (x : Screen) (owed : SlotKind → Prop) (left told : Bool) :
    Prop :=
  let k := s.link l
  let stays (q : List SlotRef) : List SlotRef := if left then q.filter (fun r => decide (r.screen ≠ n)) else q
  ∃ (u : State) (joined : List SlotRef),
    t = { u.runLink l with muster := { s.muster with completion := t.muster.completion } } ∧
    u = { s with screen := u.screen, port := { s.port with events := u.port.events } } ∧
    u.port.events = (if told then s.port.events ||| Notice.screenChange.flag else s.port.events) ∧
    (∀ m, u.screenAt m = if m = n then some x else s.screenAt m) ∧
    (∀ j, j ≠ l → u.link j = s.link j) ∧
    u.link l = { k with
      exchange := none, musterQueue := (u.link l).musterQueue, dirtyQueue := (u.link l).dirtyQueue } ∧
    Link.joinedBy { k with musterQueue := stays k.musterQueue, dirtyQueue := stays k.dirtyQueue } (u.link l) joined ∧
    joined.Pairwise slotBefore ∧
    ∀ r, r ∈ joined ↔ left = false ∧ r.screen = n ∧ owed r.kind ∧ k.queued r = false ∧ x.owes r.kind

/-! ### Invariants of the muster state and of the screen links -/

/-- ALARM_IN asserted means ALARM (R159); the drill timer runs only in DRILL (R162); the filter timer runs
exactly while the raw level differs from the filtered one (R158); and the kind is that of a muster under way
(R155). -/
def MusterInv (s : State) : Prop :=
  (s.muster.asserted = true → s.muster.state = .alarm) ∧
  (s.muster.drillTimer.isSome = true → s.muster.state = .drill) ∧
  (s.muster.filterTimer.isSome = true ↔ s.muster.rawLow ≠ s.muster.asserted) ∧
  (s.muster.state = .drill → s.muster.kind = .drill) ∧ (s.muster.state = .alarm → s.muster.kind = .alarm)

/-- A link that is not enabled does nothing, a period under way has an exchange in flight, and an exchange that
is not detached is with a live screen of the link (R135, R146, R147). -/
def LinkOk (s : State) (l : Fin 4) : Prop :=
  let k := s.link l
  (k.timer.isSome = k.enabled) ∧
  (k.enabled = false → k.exchange = none ∧ k.underWay = false) ∧
  (k.underWay = true → k.exchange.isSome = true) ∧
  (∀ e, k.exchange = some e → e.detached = false →
    (s.screenAt e.screen).isSome = true ∧ linkOfScreen e.screen = l)

/-- A valid descriptor is that of a PRESENT screen (R149, R151), a screen on a disabled link is ABSENT (R146), a
MUSTER policy is REPEAT (R131), a slot that stands in a queue stands there once, in the queue of its kind, and
its screen is PRESENT with its descriptor valid, and every dirty slot of such a screen stands in its queue or is
being sent (R131, R132). -/
def ScreenInv (s : State) : Prop :=
  (∀ l, LinkOk s l) ∧
  (∀ n x, s.screenAt n = some x →
    (x.descValid = true → x.attach = .present ∧ x.descriptor.isSome = true) ∧
    ((s.link (linkOfScreen n)).enabled = false → x.attach = .absent) ∧
    x.musterSlot.policy = .refreshed) ∧
  (∀ l, (s.link l).musterQueue.Nodup ∧ (s.link l).dirtyQueue.Nodup) ∧
  ∀ (l : Fin 4) (r : SlotRef),
    (r ∈ (s.link l).musterQueue → r.kind = .muster) ∧ (r ∈ (s.link l).dirtyQueue → r.kind ≠ .muster) ∧
    ((s.link l).queued r = true → linkOfScreen r.screen = l ∧ (s.link l).sending r = false ∧
      ∃ x, s.screenAt r.screen = some x ∧ x.attach = .present ∧ x.descValid = true) ∧
    ∀ x, s.screenAt r.screen = some x → linkOfScreen r.screen = l → SlotOwed s r.screen x r.kind

/-! ### Muster transitions (R155) -/

/-- The state that a transition from one muster state to another gives an entry (R126, R127). -/
def entryAfter (old new : MusterState) (now linger : Nat) (e : Entry) : Option EntryState :=
  if old = .normal ∧ e.state = .running then some .suspended
  else if new = .normal ∧ e.state = .suspended then
    if now < e.finish then some .running
    else if e.finish + linger ≤ now then none
    else some .ended
  else some e.state

/-- The part takes a transition of the muster state (R15, R30, R78, R100, R126, R127, R145, R155, R162). -/
def TransitionTaken (s t : State) (new : MusterState) (cause : LastCause) : Prop :=
  let old := s.muster.state
  let proper (m : MusterState) : Prop := m = .drill ∨ m = .alarm
  let crosses := ¬(proper old ↔ proper new) ∧ 0 < s.graph.openLifts
  let enters : Bool := decide (proper new) && !decide (proper old)
  let required : PlateMode := match new with
    | .drill => .drill
    | .alarm => .alarm
    | .normal => .normal
    | .standDown => .normal
  let now := (s.programme.clock.map (·.minute)).getD 0
  let after (e : Entry) : Option EntryState := entryAfter old new now s.programme.linger e
  t = { s with
    graph := { s.graph with genGeneral := t.graph.genGeneral, genStepFree := t.graph.genStepFree }
    route := t.route
    target := { s.target with targets := t.target.targets }
    cabin := { s.cabin with cabins := t.cabin.cabins }
    plate := { s.plate with trunks := t.plate.trunks }
    programme := { s.programme with entries := t.programme.entries }
    screen := t.screen
    muster := { s.muster with
      state := new
      kind := match new with
        | .drill => .drill
        | .alarm => .alarm
        | .standDown => s.muster.kind
        | .normal => s.muster.kind
      cause := cause
      entryCount := 0
      entryTimer := some 0
      drillTimer := if new = .drill ∧ 0 < s.muster.drillLimit then some 0 else none
      completion := t.muster.completion }
    port := { s.port with events := s.port.events ||| Notice.musterChange.flag } } ∧
  (t.muster.completion = true ↔
    s.muster.completion = true ∨ (new = .standDown ∧ t.standDownHolds = true)) ∧
  (crosses → t.graph.genGeneral = s.graph.genGeneral + 1#16 ∧
    t.graph.genStepFree = s.graph.genStepFree + 1#16) ∧
  (¬crosses → t.graph = s.graph) ∧
  MapsOutdated s t
    (s.route.urgent ++ if enters then s.route.ordinary.filter fun m => (s.stationAt m.target).isSome else [])
    (s.route.ordinary.filter fun m => !enters || (s.stationAt m.target).isNone) (fun _ => decide crosses) false ∧
  (∀ i, let tr := s.trunk i
    let free := tr.state = .idle ∧ tr.clockHigh = true ∧ tr.dataHigh = true
    (¬free → t.trunk i = tr) ∧
    (free → tr.enabled = true → tr.believed ≠ some required →
      t.trunk i = { tr with
        state := .talking, work := some (.broadcast required), holdTimer := none, guardTimer := none,
        stuckTimer := none }) ∧
    (free → tr.believed = some required → tr.urgent = [] → tr.ordinary = [] → tr.surveyDue = false →
      t.trunk i = tr)) ∧
  (∀ c, t.cabinAt c = (s.cabinAt c).map fun x =>
    if old = .normal then { x with swept := false, sweptBy := none } else x) ∧
  (∀ k, t.targetAt k = (s.targetAt k).map fun x => { x with
    station := x.station.map fun st => if old = .normal then { st with swept := 0 } else st
    refs := x.refs - (s.programme.entries.filter fun r =>
      decide (r.2.venue = k) && (after r.2).isNone).length }) ∧
  (∀ k, t.entryAt k = (s.entryAt k).bind fun e => (after e).map fun st => { e with state := st }) ∧
  MarkedBy s t (fun _ x k => match new with
    | .standDown => true
    | .normal => true
    | _ => decide (k = .muster) || (decide (k = .programme) && decide (old = .normal) &&
        s.programme.entries.any fun r => decide (r.2.state = .running) && s.passes x r.2.venue))

end Sys2Proof.Machine
end

