-- ==== Sys2Proof/Certificates/Slice0/Obligations.lean ====
section
/-! DEFINITION. The statements about the part, in the order of the spec's chapters. Each docstring names
the rules of spec/ that the statement formalises or rests on. -/

section

open Sys2Proof Sys2Proof.Machine

/-! ### The deck graph (01) -/

/-- NODE_PUT creates or amends a node (R1), and NODE_RETIRE frees one that nothing claims (R2). -/
def Obligations.NodesArePutAndRetired : Prop :=
  (∀ (s : State) (tag i1 i0 d z : Byte), s.loading = false → Table.wf s.screen.screens = true →
    let id := rd16 i1 i0
    let inRange := id ≤ 1023 ∧ d.toNat ≤ 19 ∧ 1 ≤ z.toNat ∧ z.toNat ≤ 12
    let i := Instr.nodePut tag [i1, i0, d, z]
    (¬inRange → exec i s = .next (s.answering s tag .badField [])) ∧
    (inRange → s.node id = none →
      ∃ t, exec i s = .next (s.answering t tag .done [0#8]) ∧
        t = { s with graph := { s.graph with nodes := t.graph.nodes } } ∧
        ∀ n, t.node n =
          if n = id then some { deck := d.toNat, zone := z.toNat, degree := 0, refs := 0 } else s.node n) ∧
    (∀ x, inRange → s.node id = some x →
      ∃ t, exec i s = .next (s.answering t tag .done [1#8]) ∧
        t = { s with graph := { s.graph with nodes := t.graph.nodes }, screen := t.screen } ∧
        (∀ n, t.node n = if n = id then some { x with deck := d.toNat, zone := z.toNat } else s.node n) ∧
        if x.deck = d.toNat ∧ x.zone = z.toNat then t.screen = s.screen
        else MarkedBy s t fun _ y k =>
          decide (k = .programme) && (decide (y.scope = .deck) || decide (y.scope = .zone)))) ∧
  (∀ (s : State) (tag i1 i0 : Byte), s.loading = false →
    let id := rd16 i1 i0
    let i := Instr.nodeRetire tag [i1, i0]
    (1023 < id → exec i s = .next (s.answering s tag .badField [])) ∧
    (id ≤ 1023 → s.node id = none → exec i s = .next (s.answering s tag .notFound [])) ∧
    (∀ x, id ≤ 1023 → s.node id = some x → 0 < x.refs →
      exec i s = .next (s.answering s tag .inUse (u16 x.refs ++ u8 x.degree))) ∧
    (∀ x, id ≤ 1023 → s.node id = some x → x.refs = 0 →
      ∃ t, exec i s = .next (s.answering t tag .done []) ∧
        t = { s with graph := { s.graph with nodes := t.graph.nodes } } ∧
        ∀ n, t.node n = if n = id then none else s.node n))

/-- NODE_GET and EDGE_GET answer the record and change nothing (R3, R11), whatever the port state. -/
def Obligations.GraphReadsAnswerRecords : Prop :=
  ∀ (s : State) (tag i1 i0 : Byte),
    let id := rd16 i1 i0
    exec (.nodeGet tag [i1, i0]) s = .next
      (if 1023 < id then s.answering s tag .badField []
       else match s.node id with
         | none => s.answering s tag .notFound []
         | some x => s.answering s tag .done (u16 id ++ u8 x.deck ++ u8 x.zone ++ u8 x.degree ++ u16 x.refs)) ∧
    exec (.edgeGet tag [i1, i0]) s = .next
      (if 3071 < id then s.answering s tag .badField []
       else match s.edge id with
         | none => s.answering s tag .notFound []
         | some e => s.answering s tag .done
             (u16 id ++ u16 e.endA ++ u16 e.endB ++ u16 e.length ++ u8 e.kind.code ++ u8 e.leaveA.code ++
               u8 e.leaveB.code ++ u8 ((if e.pass = .closed then 1 else 0) + (if e.crewOnly then 2 else 0) +
                 (if s.usable .general id then 4 else 0) + (if s.usable .stepFree id then 8 else 0))))

/-- An edge is usable in a profile exactly under the five conditions of R12, judged against the present
edge record and muster state (R13). -/
def Obligations.UsableIsTheFiveConditions : Prop :=
  ∀ (s : State) (p : Profile) (id : Nat),
    s.usable p id = true ↔ ∃ e, s.edge id = some e ∧ e.pass = .opened ∧ e.crewOnly = false ∧
      (p = .general ∨ e.kind ≠ .stair) ∧
      (s.muster.state = .normal ∨ s.muster.state = .standDown ∨ e.kind ≠ .lift)

/-- EDGE_PUT's checks in their order (R6), with the degree test of R8; and an EDGE_PUT that passes them, creating or
amending (R5, R6, R7, R14, R17). That bits 2 to 7 of its flags byte are out of range is the model's choice (log 39). -/
def Obligations.EdgePutChecksThenMovesCountsAndGenerations : Prop :=
  (∀ (s : State) (tag : Byte) (body : List Byte) (b : EdgeBody), s.loading = false →
    parseEdge body = some b →
    let i := Instr.edgePut tag body
    let fits := b.InRange ∧ b.endA ≠ b.endB ∧ (s.node b.endA).isSome ∧ (s.node b.endB).isSome
    (¬fits → exec i s = .next (s.answering s tag .badField [])) ∧
    (fits → 8 ≤ s.endsOfOthers b.id b.endA →
      exec i s = .next (s.answering s tag .degree ([0#8] ++ u16 b.endA))) ∧
    (fits → s.endsOfOthers b.id b.endA < 8 → 8 ≤ s.endsOfOthers b.id b.endB →
      exec i s = .next (s.answering s tag .degree ([1#8] ++ u16 b.endB)))) ∧
  (∀ (s : State) (tag : Byte) (body : List Byte) (b : EdgeBody) (e : Edge), s.loading = false →
    parseEdge body = some b → b.InRange → b.Gives e → b.endA ≠ b.endB →
    (s.node b.endA).isSome → (s.node b.endB).isSome →
    s.endsOfOthers b.id b.endA < 8 → s.endsOfOthers b.id b.endB < 8 → GraphInv s → RouteInv s →
    let old := s.edge b.id
    let was (n : Nat) : Bool := old.any fun o => o.hasEnd n
    let stepFree := !(decide (e.kind = .stair) && old.all fun o => decide (o.kind = .stair))
    ∃ t, exec (.edgePut tag body) s =
        .next (s.answering t tag .done ([if old.isSome then 1#8 else 0#8] ++
          u16 t.graph.genGeneral.toNat ++ u16 t.graph.genStepFree.toNat)) ∧
      t = { s with graph := t.graph, route := t.route } ∧
      (∀ id, t.edge id = if id = b.id then some e else s.edge id) ∧
      (∀ n, t.node n = (s.node n).map fun x => { x with
        degree := x.degree - (if was n && !e.hasEnd n then 1 else 0) + (if e.hasEnd n && !was n then 1 else 0),
        refs := x.refs - (if was n && !e.hasEnd n then 1 else 0) + (if e.hasEnd n && !was n then 1 else 0) }) ∧
      t.graph.openLifts = s.graph.openLifts - (if old.any Edge.openLift then 1 else 0) +
        (if e.openLift then 1 else 0) ∧
      t.graph.genGeneral = s.graph.genGeneral + 1#16 ∧
      t.graph.genStepFree = (if stepFree then s.graph.genStepFree + 1#16 else s.graph.genStepFree) ∧
      RaiseTakenBy s t stepFree)

/-- EDGE_SET_PASS (R9) and EDGE_RETIRE (R10), with the generations they raise (R14). -/
def Obligations.EdgesAreOpenedClosedAndRetired : Prop :=
  (∀ (s : State) (tag i1 i0 v : Byte), s.loading = false → RouteInv s →
    let id := rd16 i1 i0
    let i := Instr.edgeSetPass tag [i1, i0, v]
    (3071 < id ∨ 1 < v.toNat → exec i s = .next (s.answering s tag .badField [])) ∧
    (id ≤ 3071 → v.toNat ≤ 1 → s.edge id = none → exec i s = .next (s.answering s tag .notFound [])) ∧
    (∀ e, id ≤ 3071 → v.toNat ≤ 1 → s.edge id = some e →
      let pass : Passability := if v = 0#8 then .opened else .closed
      if e.pass = pass then
        exec i s = .next (s.answering s tag .done ([2#8] ++ u16 s.graph.genGeneral.toNat ++
          u16 s.graph.genStepFree.toNat))
      else
        ∃ t, exec i s = .next (s.answering t tag .done ([3#8] ++ u16 t.graph.genGeneral.toNat ++
            u16 t.graph.genStepFree.toNat)) ∧
          t = { s with
                graph := { s.graph with
                  edges := t.graph.edges, openLifts := t.graph.openLifts,
                  genGeneral := s.graph.genGeneral + 1#16,
                  genStepFree := if e.kind = .stair then s.graph.genStepFree else s.graph.genStepFree + 1#16 },
                route := t.route } ∧
          (∀ k, t.edge k = if k = id then some { e with pass } else s.edge k) ∧
          t.graph.openLifts = (if e.kind = .lift ∧ e.crewOnly = false then
            (if pass = .opened then s.graph.openLifts + 1 else s.graph.openLifts - 1)
            else s.graph.openLifts) ∧
          RaiseTakenBy s t (decide (e.kind ≠ .stair)))) ∧
  (∀ (s : State) (tag i1 i0 : Byte), s.loading = false → GraphInv s → RouteInv s →
    let id := rd16 i1 i0
    let i := Instr.edgeRetire tag [i1, i0]
    (3071 < id → exec i s = .next (s.answering s tag .badField [])) ∧
    (id ≤ 3071 → s.edge id = none → exec i s = .next (s.answering s tag .notFound [])) ∧
    (∀ e, id ≤ 3071 → s.edge id = some e →
      ∃ t, exec i s = .next (s.answering t tag .done (u16 t.graph.genGeneral.toNat ++
          u16 t.graph.genStepFree.toNat)) ∧
        t = { s with graph := t.graph, route := t.route } ∧
        (∀ k, t.edge k = if k = id then none else s.edge k) ∧
        (∀ n, t.node n = (s.node n).map fun x =>
          if e.hasEnd n then { x with degree := x.degree - 1, refs := x.refs - 1 } else x) ∧
        t.graph.openLifts = (if e.openLift then s.graph.openLifts - 1 else s.graph.openLifts) ∧
        t.graph.genGeneral = s.graph.genGeneral + 1#16 ∧
        t.graph.genStepFree =
          (if e.kind = .stair then s.graph.genStepFree else s.graph.genStepFree + 1#16) ∧
        RaiseTakenBy s t (decide (e.kind ≠ .stair))))

/-! ### Route maps (02) -/

/-- The usable edges of a profile are the live ones that R12 makes usable. A build computes the least lengths to the
anchor along usable edges (R22), and at each other node it chooses the lowest-numbered edge that begins such a path
(R23). -/
def Obligations.BuildsFindLeastPaths : Prop :=
  ∀ (s : State) (m : MapName) (a : Nat), s.anchorOf m.target = some a → Table.wf s.graph.edges = true →
    let edges := s.usableEdges m.profile
    let result := s.buildResult m
    let begins (n d id : Nat) : Prop := ∃ x y, (id, x) ∈ edges ∧ x.hasEnd n = true ∧
      Table.get result (x.other n) = some y ∧ y.dist + x.length = d
    (∀ id e, (id, e) ∈ edges ↔ s.edge id = some e ∧ s.usable m.profile id = true) ∧
    (∀ n d, d ≤ 65534 → ((Table.get result n).map (·.dist) = some d ↔ LeastLength edges n a d)) ∧
    (∀ n e, Table.get result n = some e → e.dist ≤ 65534 ∧
      if n = a then e.next = none
      else ∃ id, e.next = some id ∧ begins n e.dist id ∧ ∀ k, begins n e.dist k → id ≤ k)

/-- BUILD_COMPLETION (R34, R36): the built map, the slots that a completed map marks (R143), the next build, which
takes the head of URGENT and else of ORDINARY (R25, R27), and the notice. -/
def Obligations.BuildCompletionMakesTheMapCurrent : Prop :=
  (∀ (s : State) (m : MapName) (n : Nat) (x : Screen) (k : SlotKind),
    s.mapCauses m n x k = true ↔
      (k = .route ∧ m.target ∈ x.shown ∧ (x.stepFree = true ↔ m.profile = .stepFree)) ∨
      (k = .programme ∧ (x.stepFree = true ↔ m.profile = .stepFree) ∧
        (∃ v, s.targetAt m.target = some v ∧ v.station = none) ∧
        (∃ r ∈ s.programme.entries, r.2.venue = m.target) ∧ s.passes x m.target = true) ∨
      (k = .muster ∧ (s.stationAt m.target).isSome)) ∧
  ∀ (s : State) (b : Build), RouteInv s → Table.wf s.screen.screens = true → s.route.build = some b →
    ∃ t, exec .buildCompletion s = .next t ∧
      (∀ m, t.mapAt m =
        if m = b.map then some { state := .current, contentHeld := true, builtGen := some b.gen,
                                 entries := s.buildResult b.map }
        else (s.mapAt m).map fun r => if s.rebuildQueue.head? = some m then { r with state := .building } else r) ∧
      t.rebuildQueue = s.rebuildQueue.tail ∧
      t.route.urgent = s.route.urgent.tail ∧
      t.route.ordinary = (if s.route.urgent = [] then s.route.ordinary.tail else s.route.ordinary) ∧
      t.route.build = s.rebuildQueue.head?.map (fun m => { map := m, gen := s.genOf m.profile }) ∧
      MarkedBy s t (s.mapCauses b.map) ∧
      t = { s with route := t.route, screen := t.screen, port := { s.port with events := t.port.events } } ∧
      t.port.events = if s.rebuildQueue = [] then s.port.events ||| Notice.mapsSettled.flag else s.port.events

/-- The kinds and values of a lookup, by the map's state and entry (R37), with the four conditions of
PROVISIONAL (R38); and a trace follows next edges from the from-node until it reaches the anchor or holds 64
edges, and is TRUNCATED exactly where it has not reached the anchor (R41). -/
def Obligations.LookupsAndTraces : Prop :=
  (∀ (s : State) (m : MapName) (r : RouteMap) (n : Nat), s.mapAt m = some r →
    let anchor := s.anchorOf m.target = some n
    let bare (k : AnswerKind) : RouteAnswer := { kind := k, dist := 65535, next := none, leave := none }
    let here : RouteAnswer := { kind := .here, dist := 0, next := none, leave := none }
    (r.state = .current →
      s.lookup m n = if anchor then here else match Table.get r.entries n with
        | none => bare .noRoute
        | some e => { kind := .route, dist := e.dist, next := e.next,
                      leave := (e.next.bind s.edge).map fun x => if x.endA = n then x.leaveA else x.leaveB }) ∧
    (r.state = .stale ∨ r.state = .building →
      (∀ e id x, Table.get r.entries n = some e → e.next = some id → s.edge id = some x →
        x.hasEnd n = true → s.usable m.profile id = true →
        s.lookup m n = { kind := .provisional, dist := e.dist, next := some id,
                         leave := some (if x.endA = n then x.leaveA else x.leaveB) }) ∧
      ((¬∃ e id x, Table.get r.entries n = some e ∧ e.next = some id ∧ s.edge id = some x ∧
          x.hasEnd n = true ∧ s.usable m.profile id = true) →
        s.lookup m n = if anchor then here else bare .hold)) ∧
    (r.state = .empty → s.lookup m n = bare .hold)) ∧
  (∀ (s : State) (m : MapName) (r : RouteMap) (a n : Nat), s.mapAt m = some r → s.anchorOf m.target = some a →
    let tr := s.traceOf m n true
    (r.state = .current → (s.lookup m n).kind = .route →
      tr.1.length ≤ 64 ∧
      ∃ nodes : List Nat, nodes.length = tr.1.length + 1 ∧ nodes[0]? = some n ∧
        (∀ (k : Nat) (id : Nat) (d : Direction), tr.1[k]? = some (id, d) →
          ∃ (v w : Nat) (x : Edge), nodes[k]? = some v ∧ nodes[k + 1]? = some w ∧ s.edge id = some x ∧
            v ≠ a ∧ (Table.get r.entries v).bind (·.next) = some id ∧ d = x.leaveAt v ∧ w = x.other v) ∧
        (tr.2 = false ↔ nodes[tr.1.length]? = some a)) ∧
    (r.state = .current → (s.lookup m n).kind = .route → TablesWf s → RouteInv s → ContentInv s →
      (tr.2 = true → tr.1.length = 64) ∧
      (tr.2 = false → (tr.1.map fun e => ((s.edge e.1).map (·.length)).getD 0).sum = (s.lookup m n).dist)) ∧
    (¬(r.state = .current ∧ (s.lookup m n).kind = .route) → tr = ([], false)) ∧
    s.traceOf m n false = ([], false))

/-- ROUTE_ASK (R40, R43): the checks in their order and the body of the answer, with the arrow of each answer kind
(R43) and the class and the 1-based position of a QUEUED map (10 section 10.6); it changes nothing. That a trace flag
above 1 is out of range is read off R188 (log 31). Bytes without a value are free: those of a built generation that is
absent (log 6), and the class and the position of a map that is not QUEUED (log 7). -/
def Obligations.RouteAskAnswersTheLookup : Prop :=
  (∀ (a : RouteAnswer) (f : Facing),
    (a.kind = .route ∨ a.kind = .provisional → a.arrow f = a.leave.map fun d => d.arrow f) ∧
    (a.kind = .here → a.arrow f = some .here) ∧
    (a.kind = .noRoute ∨ a.kind = .hold → a.arrow f = none)) ∧
  ∀ (s : State) (tag f1 f0 t p trace facing : Byte),
    let origin := rd16 f1 f0
    let i := Instr.routeAsk tag [f1, f0, t, p, trace, facing]
    let inRange := origin ≤ 1023 ∧ t.toNat ≤ 63 ∧ p.toNat ≤ 1 ∧ trace.toNat ≤ 1 ∧
      (facing = 0#8 ∨ facing = 2#8 ∨ facing = 4#8 ∨ facing = 6#8 ∨ facing = 0xFF#8)
    (¬inRange → exec i s = .next (s.answering s tag .badField [])) ∧
    (inRange → s.targetAt t.toNat = none → exec i s = .next (s.answering s tag .notFound [9#8])) ∧
    (inRange → (s.targetAt t.toNat).isSome → s.node origin = none →
      exec i s = .next (s.answering s tag .notFound [4#8])) ∧
    (inRange → (s.targetAt t.toNat).isSome → (s.node origin).isSome →
      let m : MapName := { target := t.toNat, profile := if p = 0#8 then .general else .stepFree }
      let a := s.lookup m origin
      ∃ place built, exec i s = .next (s.answering s tag .done
          (u8 a.kind.code ++ u16 a.dist ++ optId a.next ++ optByte (a.leave.map (·.code)) ++
            optByte ((Facing.ofCode facing.toNat).bind fun f => (a.arrow f).map (·.code)) ++
            u8 (((s.mapAt m).map (·.state.code)).getD 0) ++ built ++ u16 (s.genOf m.profile).toNat ++ place ++
            u8 (s.traceOf m origin (trace = 1#8)).1.length ++ yesNo (s.traceOf m origin (trace = 1#8)).2 ++
            (s.traceOf m origin (trace = 1#8)).1.flatMap fun e => u16 e.1 ++ u8 e.2.code)) ∧
        (∀ g, (s.mapAt m).bind (·.builtGen) = some g → built = [1#8] ++ u16 g.toNat) ∧
        ((s.mapAt m).bind (·.builtGen) = none → built.length = 3 ∧ built.head? = some 0#8) ∧
        place.length = 3 ∧
        let building := s.route.build.any fun b => decide (b.map = m)
        (building = true → place.head? = some 2#8) ∧
        (∀ pre post, building = false → s.route.urgent = pre ++ m :: post → m ∉ pre →
          place = [1#8, 0#8] ++ u8 (pre.length + 1)) ∧
        (∀ pre post, building = false → m ∉ s.route.urgent → s.route.ordinary = pre ++ m :: post → m ∉ pre →
          place = [1#8, 1#8] ++ u8 (pre.length + 1)) ∧
        (building = false → m ∉ s.rebuildQueue → place.head? = some 0#8))

/-- The arrow of each leave direction for each facing (R42). -/
def Obligations.ArrowTable : Prop :=
  let row (d : Direction) : List Arrow := [d.arrow .fore, d.arrow .starboard, d.arrow .aft, d.arrow .port]
  row .fore = [.ahead, .left, .behind, .right] ∧
  row .starboard = [.right, .ahead, .left, .behind] ∧
  row .aft = [.behind, .right, .ahead, .left] ∧
  row .port = [.left, .behind, .right, .ahead] ∧
  row .foreStbd = [.aheadRight, .aheadLeft, .behindLeft, .behindRight] ∧
  row .forePort = [.aheadLeft, .behindLeft, .behindRight, .aheadRight] ∧
  row .aftStbd = [.behindRight, .aheadRight, .aheadLeft, .behindLeft] ∧
  row .aftPort = [.behindLeft, .behindRight, .aheadRight, .aheadLeft] ∧
  row .up = [.up, .up, .up, .up] ∧
  row .down = [.down, .down, .down, .down]

/-! ### The service port (09) -/

/-- A step takes the command at the front of the queue: it is `exec` of that command on the state with
the queue's rest (log 1). -/
def Obligations.StepTakesTheFrontCommand : Prop :=
  ∀ (s : State) (c : Instr) (cs : List Instr),
    step { s with pending := c :: cs } = exec c { s with pending := cs }

/-- On an empty queue one millisecond passes (the model's choice, log 1): every running timer counts on,
exactly the expiries that have fallen due join the queue, each once and in the order that the model gives them (log 1:
entry count, Ship Clock second, each link's, each trunk's, ALARM_IN filter, drill timer), and nothing else changes. -/
def Obligations.AnEmptyQueueLetsAMillisecondPass : Prop :=
  ∀ s : State, s.pending = [] →
    let on (t : Timer) : Timer := t.map (· + 1)
    let due (period : Nat) (t : Timer) : Prop := ∃ k, t = some k ∧ period ≤ k + 1
    let inOrder : List Instr := [.entryCountTimerExpiry, .secondTimerExpiry] ++
      (List.finRange 4).flatMap (fun l => [.periodTimerExpiry l, .answerWindowExpiry l, .answerLimitExpiry l]) ++
      (List.finRange 16).flatMap (fun i =>
        [.surveyTimerExpiry i, .idleGuardExpiry i, .holdTimerExpiry i, .stuckTimerExpiry i]) ++
      [.alarmInFilterExpiry, .drillTimerExpiry]
    ∃ t, step s = .next t ∧
      t = { s with
        plate := { s.plate with trunks := t.plate.trunks },
        programme := { s.programme with secondTimer := on s.programme.secondTimer },
        screen := { s.screen with links := t.screen.links },
        muster := { s.muster with entryTimer := on s.muster.entryTimer, drillTimer := on s.muster.drillTimer,
                                  filterTimer := on s.muster.filterTimer },
        pending := t.pending } ∧
      (∀ i, t.trunk i = { s.trunk i with
        surveyTimer := on (s.trunk i).surveyTimer, guardTimer := on (s.trunk i).guardTimer,
        holdTimer := on (s.trunk i).holdTimer, stuckTimer := on (s.trunk i).stuckTimer }) ∧
      (∀ l, t.link l = { s.link l with
        timer := on (s.link l).timer,
        exchange := (s.link l).exchange.map fun e => { e with window := on e.window, limit := on e.limit } }) ∧
      t.pending.Nodup ∧ t.pending.Sublist inOrder ∧
      ∀ c, c ∈ t.pending ↔
        (c = .entryCountTimerExpiry ∧ due 1000 s.muster.entryTimer) ∨
        (c = .secondTimerExpiry ∧ due 1000 s.programme.secondTimer) ∨
        (c = .alarmInFilterExpiry ∧ due 50 s.muster.filterTimer) ∨
        (c = .drillTimerExpiry ∧ due (s.muster.drillLimit * 60000) s.muster.drillTimer) ∨
        (∃ i, c = .surveyTimerExpiry i ∧ due s.plate.surveyPeriod (s.trunk i).surveyTimer) ∨
        (∃ i, c = .idleGuardExpiry i ∧ due 5 (s.trunk i).guardTimer) ∨
        (∃ i, c = .holdTimerExpiry i ∧ due s.plate.holdLimit (s.trunk i).holdTimer) ∨
        (∃ i, c = .stuckTimerExpiry i ∧ due 1000 (s.trunk i).stuckTimer) ∨
        (∃ l, c = .periodTimerExpiry l ∧ due (s.link l).periodSetting (s.link l).timer) ∨
        (∃ l e, c = .answerWindowExpiry l ∧ (s.link l).exchange = some e ∧ due 1 e.window) ∨
        (∃ l e, c = .answerLimitExpiry l ∧ (s.link l).exchange = some e ∧ due 2 e.limit)

/-- Every request has a code and a frame (10 section 10.2), and the part reads that request back from the frame,
whatever follows (R173). Every enumeration has its codes, an absent field its none value, and a field its most
significant byte first (R188; 10 sections 10.1 to 10.3, 10.6), the CRC-16 is the division of R189, and the fields of
the longer bodies stand where their layouts put them: the PUT bodies, and the settings and the amends by their mask
(R190; 10 section 10.3), each of the length that its counts and its mask give. -/
def Obligations.RequestFramesReadBack : Prop :=
  (∀ (i : Instr) (code tag : Byte) (body after : List Byte),
    requestParts i = some (code, tag, body) → i.wf = true →
    ∃ frame, encodeFrame i = some frame ∧ frame.length = body.length + 6 ∧
      decodeFrame (frame ++ after) = i) ∧
  (∀ (t : Byte) (b : List Byte),
    [.identify t b, .portStatus t b, .configGet t b, .configSet t b, .noticeClear t b, .restart t b,
      .cursorSet t b, .readNext t b, .loadBegin t b, .loadRecord t b, .loadAbort t b].map requestParts =
      [0x01#8, 0x02#8, 0x03#8, 0x04#8, 0x05#8, 0x06#8, 0x08#8, 0x09#8, 0x0A#8, 0x0B#8, 0x0C#8].map
        (fun c => some (c, t, b)) ∧
    [.nodePut t b, .nodeRetire t b, .nodeGet t b, .edgePut t b, .edgeSetPass t b, .edgeRetire t b, .edgeGet t b,
      .routeAsk t b].map requestParts =
      [0x10#8, 0x11#8, 0x12#8, 0x13#8, 0x14#8, 0x15#8, 0x16#8, 0x20#8].map (fun c => some (c, t, b)) ∧
    [.targetPut t b, .targetRetire t b, .targetGet t b, .stationBlock t b, .stationUnblock t b].map requestParts =
      [0x28#8, 0x29#8, 0x2A#8, 0x2B#8, 0x2C#8].map (fun c => some (c, t, b)) ∧
    [.cabinPut t b, .cabinAmend t b, .cabinRetire t b, .cabinGet t b, .plateRetry t b, .serviceTake t b,
      .trunkGet t b].map requestParts =
      [0x30#8, 0x31#8, 0x32#8, 0x33#8, 0x34#8, 0x35#8, 0x38#8].map (fun c => some (c, t, b)) ∧
    [.eventPut t b, .eventAmend t b, .eventCancel t b, .eventRetire t b, .eventGet t b, .clockSet t b,
      .clockGet t b].map requestParts =
      [0x40#8, 0x41#8, 0x42#8, 0x43#8, 0x44#8, 0x45#8, 0x46#8].map (fun c => some (c, t, b)) ∧
    [.screenPut t b, .screenAmend t b, .screenRetire t b, .screenGet t b, .noticeSet t b, .musterStart t b,
      .musterEnd t b, .musterStatus t b].map requestParts =
      [0x50#8, 0x51#8, 0x52#8, 0x53#8, 0x54#8, 0x60#8, 0x61#8, 0x62#8].map (fun c => some (c, t, b))) ∧
  ([.fore, .foreStbd, .starboard, .aftStbd, .aft, .aftPort, .port, .forePort, .up, .down].map Direction.code =
      List.range 10 ∧
    [.fore, .starboard, .aft, .port].map Facing.code = [0, 2, 4, 6] ∧
    [.ahead, .aheadRight, .right, .behindRight, .behind, .behindLeft, .left, .aheadLeft, .up, .down, .here].map
      Arrow.code = List.range 11 ∧
    [.walk, .stair, .lift].map EdgeKind.code = List.range 3 ∧
    [.route, .provisional, .here, .noRoute, .hold].map AnswerKind.code = List.range 5 ∧
    [.empty, .stale, .building, .current].map MapState.code = List.range 4 ∧
    [.vacant, .occupied].map Occupancy.code = List.range 2 ∧
    [.unasked, .doNotDisturb, .makeUpRoom].map Privacy.code = List.range 3 ∧
    [.noPlate, .pending, .current, .failed].map PlateState.code = List.range 4 ∧
    [.normal, .drill, .alarm].map PlateMode.code = List.range 3 ∧
    [.disabled, .settling, .idle, .talking, .held, .listening, .recovering, .fault].map TrunkState.code =
      List.range 8 ∧
    [.vacancies, .filling, .full].map Fill.code = List.range 3 ∧
    [.scheduled, .running, .suspended, .ended, .cancelled].map EntryState.code = List.range 5 ∧
    [.nothing, .all, .deck, .zone].map Scope.code = List.range 4 ∧
    [.off, .once, .refreshed].map Policy.code = List.range 3 ∧
    [.absent, .present, .lost].map AttachState.code = List.range 3 ∧
    [.small, .medium, .large].map PanelClass.code = List.range 3 ∧
    [.route, .programme, .notice, .muster].map SlotKind.code = List.range 4 ∧
    [.normal, .drill, .alarm, .standDown].map MusterState.code = List.range 4 ∧
    [.nothing, .drill, .alarm].map MusterKind.code = List.range 3 ∧
    [.nothing, .request, .alarmIn, .drillLimit, .completion].map LastCause.code = List.range 5 ∧
    [.node, .edge, .target, .cabin, .entry, .screen].map TableName.code = List.range 6 ∧
    [.nothing, .inProgress, .completed, .aborted, .restarted].map LoadEnding.code = List.range 5 ∧
    [.powerOn, .pin, .warm].map ResetCause.code = List.range 3 ∧
    [.done, .notFound, .exists_, .full, .degree, .inUse, .badField, .refusedState, .busy, .badFrame,
      .unknownRequest, .end_, .empty, .noAnswer].map Result.code = List.range 14 ∧
    [.plateFailed, .trunkFault, .screenChange, .mapsSettled, .musterChange, .loadDone, .stationOver, .portOverrun,
      .serviceWaiting, .inboundHalf].map (fun n : Notice => n.flag.toNat) = (List.range 10).map fun k => 2 ^ k) ∧
  (∀ n : Nat, (∀ f, Facing.ofCode n = some f ↔ f.code = n) ∧ (∀ o, Occupancy.ofCode n = some o ↔ o.code = n) ∧
    (∀ p, Privacy.ofCode n = some p ↔ p.code = n) ∧ (∀ f, Fill.ofCode n = some f ↔ f.code = n) ∧
    ∀ c, Scope.ofCode n = some c ↔ c.code = n) ∧
  (∀ (n : Nat) (i : Fin 16), yesNo true = [1#8] ∧ yesNo false = [0#8] ∧
    optId (some n) = u16 n ∧ optId none = [0xFF#8, 0xFF#8] ∧ optByte (some n) = u8 n ∧ optByte none = [0xFF#8] ∧
    optCatalogue (some n) = u16 n ∧ optCatalogue none = [0#8, 0#8] ∧
    optMinute (some n) = u24 n ∧ optMinute none = [0xFF#8, 0xFF#8, 0xFF#8] ∧
    optPlate (some { trunk := i, address := n }) = u8 i.val ++ u8 n ∧ optPlate none = [0xFF#8, 0#8]) ∧
  (∀ h m l : Byte, u16 (rd16 h l) = [h, l] ∧ u24 (rd24 h m l) = [h, m, l] ∧ rd16 h l = 256 * h.toNat + l.toNat ∧
    rd24 h m l = 65536 * h.toNat + 256 * m.toNat + l.toNat) ∧
  (let next (c : Word16) : Word16 := if c.getLsbD 15 = true then (c <<< 1) ^^^ 0x1021#16 else c <<< 1
   crc16 [] = 0xFFFF#16 ∧
   ∀ bs b, crc16 (bs ++ [b]) = next (next (next (next (next (next (next (next (crc16 bs ^^^ (b ++ 0#8)))))))))) ∧
  (∀ a b c d e f g h i j k l m : Byte,
    parseEdge [a, b, c, d, e, f, g, h, i, j, k, l] =
      some { id := rd16 a b, endA := rd16 c d, endB := rd16 e f, length := rd16 g h, kind := i.toNat,
             leaveA := j.toNat, leaveB := k.toNat, flags := l.toNat } ∧
    parseTarget [a, b, c, d, e, f, g, h, i] =
      some { id := a.toNat, kind := b.toNat, anchor := rd16 c d, label := rd16 e f, letter := g.toNat,
             capacity := rd16 h i } ∧
    parseEntry [a, b, c, d, e, f, g, h, i, j, k, l, m] =
      some { id := rd16 a b, start := rd24 c d e, finish := rd24 f g h, venue := i.toNat, title := rd16 j k,
             category := l.toNat, fill := m.toNat }) ∧
  (∀ body : List Byte, ((parseEdge body).isSome → body.length = 12) ∧ ((parseTarget body).isSome → body.length = 9) ∧
    ((parseEntry body).isSome → body.length = 13) ∧
    (∀ c, parseCabin body = some c → body.length = 16 + 2 * c.label.length) ∧
    (∀ x, parseScreen body = some x → body.length = 13 + x.languages.length + x.shown.length)) ∧
  (∀ (a b c d e f g h i j k l m n o p : Byte) (label : List Word16), label.length < 256 →
    parseCabin ([a, b, c, d, e, f, g, h, i, j, k, l, m, n, o] ++ u8 label.length ++
        label.flatMap fun w => u16 w.toNat) =
      some { deck := a.toNat, number := rd16 b c, doorNode := rd16 d e, plate := (f.toNat, g.toNat),
             berths := h.toNat, occupancy := i.toNat, privacy := j.toNat, language := k.toNat,
             message := rd16 l m, primary := n.toNat, alternate := o.toNat, label } ∧
    ∀ (languages shown : List Byte), languages.length < 256 → shown.length < 256 →
      parseScreen ([a, b, c, d, e, f, g, h, i, j, k] ++ u8 languages.length ++ languages ++ u8 shown.length ++ shown) =
        some { link := a.toNat, address := b.toNat, node := rd16 c d, facing := e.toNat, flags := f.toNat,
               scope := g.toNat, override := h.toNat, notice := rd16 i j, policies := k.toNat,
               languages := languages.map (·.toNat), shown := shown.map (·.toNat) } ∧
      let mask := rd16 o p
      let bytes (n : Nat) (x : List Byte) : List Byte := if mask.testBit n then x else []
      let one (n : Nat) (x : Byte) : Option Nat := if mask.testBit n then some x.toNat else none
      let two (n : Nat) (x y : Byte) : Option Nat := if mask.testBit n then some (rd16 x y) else none
      parseCabinAmend ([a, b, c, o, p] ++ bytes 0 [d, e] ++ bytes 1 [f, g] ++ bytes 2 [h] ++ bytes 3 [i] ++
          bytes 4 (u8 label.length ++ label.flatMap fun w => u16 w.toNat) ++ bytes 5 [j] ++ bytes 6 [k, l] ++
          bytes 7 [m] ++ bytes 8 [n] ++ bytes 9 [a] ++ bytes 10 [b]) =
        some { deck := a.toNat, number := rd16 b c, mask, doorNode := two 0 d e,
               plate := if mask.testBit 1 then some (f.toNat, g.toNat) else none, berths := one 2 h,
               occupancy := one 3 i, label := if mask.testBit 4 then some label else none, language := one 5 j,
               message := two 6 k l, primary := one 7 m, alternate := one 8 n, privacy := one 9 a,
               service := one 10 b } ∧
      parseEntryAmend ([a, b, o, p] ++ bytes 0 [c, d, e] ++ bytes 1 [f, g, h] ++ bytes 2 [i] ++ bytes 3 [j, k] ++
          bytes 4 [l] ++ bytes 5 [m] ++ bytes 6 [n]) =
        some { id := rd16 a b, mask, start := if mask.testBit 0 then some (rd24 c d e) else none,
               finish := if mask.testBit 1 then some (rd24 f g h) else none, venue := one 2 i, title := two 3 j k,
               category := one 4 l, fill := one 5 m, moved := one 6 n } ∧
      parseScreenAmend ([a, b, o, p] ++ bytes 0 [c, d] ++ bytes 1 [e] ++ bytes 2 [f] ++ bytes 3 [g] ++ bytes 4 [h] ++
          bytes 5 [i, j] ++ bytes 6 [k] ++ bytes 7 (u8 languages.length ++ languages) ++
          bytes 8 (u8 shown.length ++ shown)) =
        some { link := a.toNat, address := b.toNat, mask, node := two 0 c d, facing := one 1 e, flags := one 2 f,
               scope := one 3 g, override := one 4 h, notice := two 5 i j, policies := one 6 k,
               languages := if mask.testBit 7 then some (languages.map (·.toNat)) else none,
               shown := if mask.testBit 8 then some (shown.map (·.toNat)) else none }) ∧
  (let small (c : Nat) : Prop := c = 0 ∨ c = 8 ∨ c = 10
   let given (mask : Nat) : List Nat := (List.range 12).filter fun c => mask.testBit c
   (∀ (o p : Byte) (v : Nat → Nat), (∀ c, v c < if small c then 256 else 65536) →
     parseConfig ([o, p] ++ (given (rd16 o p)).flatMap fun c => if small c then u8 (v c) else u16 (v c)) =
       some { mask := rd16 o p, values := (given (rd16 o p)).map fun c => (c, v c) }) ∧
   ∀ body b, parseConfig body = some b → b.values.map (·.1) = given b.mask ∧
     body.length = 2 + ((given b.mask).map fun c => if small c then 1 else 2).sum) ∧
  (∀ (body : List Byte) (c : CabinAmendBody) (e : EntryAmendBody) (x : ScreenAmendBody),
    let size (mask n k : Nat) : Nat := if mask.testBit n then k else 0
    (parseCabinAmend body = some c → body.length = 5 + size c.mask 0 2 + size c.mask 1 2 + size c.mask 2 1 +
      size c.mask 3 1 + size c.mask 4 (1 + 2 * (c.label.getD []).length) + size c.mask 5 1 + size c.mask 6 2 +
      size c.mask 7 1 + size c.mask 8 1 + size c.mask 9 1 + size c.mask 10 1) ∧
    (parseEntryAmend body = some e → body.length = 4 + size e.mask 0 3 + size e.mask 1 3 + size e.mask 2 1 +
      size e.mask 3 2 + size e.mask 4 1 + size e.mask 5 1 + size e.mask 6 1) ∧
    (parseScreenAmend body = some x → body.length = 4 + size x.mask 0 2 + size x.mask 1 1 + size x.mask 2 1 +
      size x.mask 3 1 + size x.mask 4 1 + size x.mask 5 2 + size x.mask 6 1 +
      size x.mask 7 (1 + (x.languages.getD []).length) + size x.mask 8 (1 + (x.shown.getD []).length)))

/-- Frames that fail checks 2 to 4 of R173 are answered in that order, with the tag as received, and change
nothing else. A frame cut short before its body length fails check 2. -/
def Obligations.BadFramesAreAnsweredInOrder : Prop :=
  (∀ (s : State) (tag code hi lo : Byte) (rest : List Byte),
    let bytes := tag :: code :: hi :: lo :: rest
    let n := rd16 hi lo
    let whole := n ≤ 512 ∧ n + 2 ≤ rest.length
    let checked := (rest.drop n).take 2 = u16 (crc16 (tag :: code :: hi :: lo :: rest.take n)).toNat
    (¬whole → decodeFrame bytes = .badFrame bytes ∧
      exec (.badFrame bytes) s = .next (s.answering s tag .badFrame [0#8])) ∧
    (whole → ¬checked → decodeFrame bytes = .badFrame bytes ∧
      exec (.badFrame bytes) s = .next (s.answering s tag .badFrame [1#8])) ∧
    (whole → checked → requestOf code tag [] = none → decodeFrame bytes = .unknownRequest tag code ∧
      exec (.unknownRequest tag code) s = .next (s.answering s tag .unknownRequest []))) ∧
  (∀ (s : State) (tag : Byte) (rest : List Byte), rest.length < 3 →
    decodeFrame (tag :: rest) = .badFrame (tag :: rest) ∧
      exec (.badFrame (tag :: rest)) s = .next (s.answering s tag .badFrame [0#8]))

/-- The status byte's fields (R172; 10 section 10.2) and the ATTN_N pin (R183); PORT_OVERRUN raises its notice
and changes nothing else but the bytes driven (R173, check 1). READ_ANSWER drives the status byte and the
answer frame (R175), and no byte beyond it (the model's choice, log 5); a transaction byte that names neither
kind leaves SP_DO high; a transaction that ends after the status byte changes nothing (R172). -/
def Obligations.StatusByteOverrunsAndReadAnswer : Prop :=
  (∀ s : State,
    s.statusByte.getLsbD 7 = (s.port.answer.isSome && !s.port.processing) ∧
    s.statusByte.getLsbD 6 = !s.attnN ∧
    s.statusByte.getLsbD 5 = s.port.load.isSome ∧
    s.statusByte.getLsbD 4 = s.port.events.getLsbD 7 ∧
    s.statusByte.extractLsb' 0 4 = 0xA#4 ∧
    (s.attnN = true ↔ ∀ k, k < 10 → s.flags.getLsbD k = true → s.port.mask.getLsbD k = true) ∧
    (∀ k, k < 8 → s.flags.getLsbD k = s.port.events.getLsbD k) ∧
    (s.port.events &&& 0xFF00#16 = 0#16 →
      s.flags.getLsbD 8 = !s.cabin.service.isEmpty ∧
      s.flags.getLsbD 9 = decide (32 ≤ s.plate.inbound.length))) ∧
  (∀ (s : State) (byte : Byte) (clocks : Nat),
    let drove (out : List Byte) : State := { s with port := { s.port with out } }
    (∃ t, exec .portOverrun s = .next t ∧
      t = { s with port := { s.port with out := t.port.out, events := s.port.events ||| 0x0080#16 } }) ∧
    exec (.readAnswer { byte := 0x5A#8, clocks }) s = .next (drove (s.statusByte :: List.take clocks
      (match s.port.processing, s.port.answer with
        | false, some a => withCrc (a.tag :: u8 a.result.code ++ u16 a.body.length ++ a.body)
        | _, _ => withCrc [0#8, 0x0D#8, 0#8, 0#8]))) ∧
    (byte ≠ 0x5A#8 → byte ≠ 0xA5#8 → exec (.readAnswer { byte, clocks }) s =
      .next (drove (s.statusByte :: List.replicate clocks 0xFF#8))) ∧
    exec (.badFrame []) s = .next (drove [s.statusByte]))

/-- IDENTIFY, PORT_STATUS and CONFIG_GET answer in every port state and change nothing (R184, R185; 10 section 10.6),
with the entries reserved and free (R105) and each setting by its code. -/
def Obligations.PortReadsAnswerInEveryState : Prop :=
  ∀ (s : State) (tag : Byte),
    (s.reserved = 2 * s.surveySteps ∧ s.freeEntries = 64 - s.plate.inbound.length - s.reserved) ∧
    ((∀ l : Fin 4, s.setting (l.val + 1) = (s.link l).periodSetting ∧
        (s.setting 0).testBit l.val = (s.link l).enabled) ∧ s.setting 0 < 16 ∧
      (∀ i : Fin 16, (s.setting 5).testBit i.val = (s.trunk i).enabled) ∧ s.setting 5 < 65536 ∧
      s.setting 6 = s.plate.surveyPeriod ∧ s.setting 7 = s.plate.holdLimit ∧ s.setting 8 = s.programme.linger ∧
      s.setting 9 = s.programme.horizon ∧ s.setting 10 = s.muster.drillLimit ∧ s.setting 11 = s.port.mask.toNat) ∧
    exec (.identify tag []) s = .next (s.answering s tag .done
      [0x0F#8, 0x3A#8, 0x12#8, 0xD4#8, 1#8, 4#8, 0#8, 12#8, 0#8, 8#8, 64#8, 16#8, 128#8, 12#8, 0#8, 16#8,
       250#8, 1#8, 0#8, 2#8, 0#8, 4#8, 128#8, 8#8, 16#8, 96#8, 64#8, 2#8, 0#8, 16#8, 0#8,
       match s.port.resetCause with | .powerOn => 0#8 | .pin => 1#8 | .warm => 2#8]) ∧
    exec (.portStatus tag []) s = .next (s.answering s tag .done
      (yesNo s.port.load.isSome ++ optByte (s.port.summary.table.map (·.code)) ++ u16 s.port.summary.count ++
        u16 s.port.summary.remaining ++ u16 s.port.summary.refused ++ u8 s.port.summary.ending.code ++
        u16 s.flags.toNat ++ u16 s.port.mask.toNat ++
        u8 ((if s.plate.inbound = [] then 1 else 0) + (if 32 ≤ s.plate.inbound.length then 2 else 0) +
          (if s.freeEntries < 2 then 4 else 0)) ++
        u8 s.plate.inbound.length ++ u8 s.reserved ++ u8 s.freeEntries ++ u8 s.port.cursor.table.code ++
        u16 s.port.cursor.index ++ u8 s.port.resetCause.code)) ∧
    exec (.configGet tag []) s = .next (s.answering s tag .done
      (u8 (s.setting 0) ++ u16 (s.setting 1) ++ u16 (s.setting 2) ++ u16 (s.setting 3) ++ u16 (s.setting 4) ++
        u16 (s.setting 5) ++ u16 s.plate.surveyPeriod ++ u16 s.plate.holdLimit ++ u8 s.programme.linger ++
        u16 s.programme.horizon ++ u8 s.muster.drillLimit ++ u16 s.port.mask.toNat))

/-- While LOADING each changing request is answered BUSY and changes nothing (R176), a body of a wrong
length apart, which is BAD_FIELD with LENGTH in every port state (R173, check 5; log 16), as it is to every other
request but LOAD_RECORD. -/
def Obligations.ChangingRequestsAreBusyWhileLoading : Prop :=
  (∀ (s : State) (i : Instr) (tag : Byte) (fits : Bool), changingRequest i = some (tag, fits) →
    (fits = false → exec i s = .next (s.answering s tag .badField [0#8])) ∧
    (fits = true → s.port.load.isSome → exec i s = .next (s.answering s tag .busy []))) ∧
  ∀ (s : State) (i : Instr) (tag : Byte), otherRequest i = some (tag, false) →
    exec i s = .next (s.answering s tag .badField [0#8])

/-- CURSOR_SET and READ_NEXT (R177, R178) move the cursor and no record; READ_NEXT finds the first live slot at
or after the cursor, with the record as the GET of the table answers it in the same state. -/
def Obligations.CursorWalksATable : Prop :=
  (∀ (s : State) (tag code hi lo : Byte) (tb : TableName),
    (tb.code = code.toNat → rd16 hi lo < tb.slots →
      exec (.cursorSet tag [code, hi, lo]) s = .next (s.answering
        { s with port := { s.port with cursor := { table := tb, index := rd16 hi lo } } } tag .done [])) ∧
    (tb.code = code.toNat → tb.slots ≤ rd16 hi lo →
      exec (.cursorSet tag [code, hi, lo]) s = .next (s.answering s tag .badField [])) ∧
    (6 ≤ code.toNat → exec (.cursorSet tag [code, hi, lo]) s = .next (s.answering s tag .badField [])) ∧
    (∀ k r, s.recordFrom s.port.cursor.table s.port.cursor.index = some (k, r) →
      exec (.readNext tag []) s = .next (s.answering
        { s with port := { s.port with cursor := { s.port.cursor with index := k + 1 } } } tag .done (u16 k ++ r))) ∧
    (s.recordFrom s.port.cursor.table s.port.cursor.index = none →
      exec (.readNext tag []) s = .next (s.answering
        { s with port := { s.port with cursor := { s.port.cursor with index := 0 } } } tag .end_ []))) ∧
  (∀ (s : State) (tb : TableName) (k : Nat) (tag : Byte), TablesWf s → CabinInv s → EntryInv s →
    let live (j : Nat) : Bool := match tb with
      | .node => (s.node j).isSome
      | .edge => (s.edge j).isSome
      | .target => (s.targetAt j).isSome
      | .cabin => (s.cabinAt j).isSome
      | .entry => (s.entryAt j).isSome
      | .screen => (s.screenAt j).isSome
    let get (n : Nat) : Instr := match tb with
      | .node => .nodeGet tag (u16 n)
      | .edge => .edgeGet tag (u16 n)
      | .target => .targetGet tag (u8 n)
      | .cabin => .cabinGet tag ([0#8] ++ ((s.cabinAt n).map fun x =>
          u8 x.number.deck ++ u16 x.number.number).getD [])
      | .entry => .eventGet tag (((s.entryAt n).map fun e => u16 e.id).getD [])
      | .screen => .screenGet tag (u8 (n / 128) ++ u8 (n % 128 + 1))
    (∀ n r, s.recordFrom tb k = some (n, r) → k ≤ n ∧ live n = true ∧ (∀ j, k ≤ j → j < n → live j = false) ∧
      exec (get n) s = .next (s.answering s tag .done r)) ∧
    (s.recordFrom tb k = none → ∀ j, k ≤ j → live j = false))

/-- LOAD_BEGIN (R179) and LOAD_ABORT (R181), and LOAD_RECORD and LOAD_ABORT refused in READY (R176), the
first with the cause LOADING alone and no counts (the model's choice, log 15). LOAD_RECORD applies a record as the
load table's put does in READY, with the same result and effects; it counts the record, and with the last one the
load ends (R180). A body that does not fit is a refused record (log 15). -/
def Obligations.LoadsBeginApplyAndEnd : Prop :=
  (∀ (s : State) (tag code hi lo : Byte) (body : List Byte) (tb : TableName) (l : Load),
    let n := rd16 hi lo
    let begun := tb.code = code.toNat ∧ 1 ≤ n ∧ n ≤ 4096
    (s.port.load = none → begun →
      exec (.loadBegin tag [code, hi, lo]) s = .next (s.answering { s with port := { s.port with
        load := some { table := tb, remaining := n, refused := 0 },
        summary := { table := some tb, count := n, remaining := n, refused := 0, ending := .inProgress } } }
        tag .done (u16 n))) ∧
    (s.port.load = none → 6 ≤ code.toNat ∨ n = 0 ∨ 4096 < n →
      exec (.loadBegin tag [code, hi, lo]) s = .next (s.answering s tag .badField [])) ∧
    (s.port.load = some l → exec (.loadAbort tag []) s = .next (s.answering { s with port := { s.port with
        load := none, summary := { s.port.summary with ending := .aborted } } }
        tag .done (u16 l.remaining ++ u16 l.refused))) ∧
    (s.port.load = none →
      exec (.loadAbort tag []) s = .next (s.answering s tag .refusedState [17#8]) ∧
      exec (.loadRecord tag body) s = .next (s.answering s tag .refusedState [17#8]))) ∧
  (∀ (s : State) (tag : Byte) (body : List Byte) (l : Load), s.port.load = some l → 0 < l.remaining →
    let put : Instr := match l.table with
      | .node => .nodePut tag body
      | .edge => .edgePut tag body
      | .target => .targetPut tag body
      | .cabin => .cabinPut tag body
      | .entry => .eventPut tag body
      | .screen => .screenPut tag body
    ∃ u r b, exec put { s with port := { s.port with load := none } } = .next u ∧
      u.port.answer = some { tag, result := r, body := b } ∧
      let remaining := l.remaining - 1
      let refused := if r = .done then l.refused else l.refused + 1
      exec (.loadRecord tag body) s = .next { u with port := { u.port with
        out := [s.statusByte],
        answer := some { tag, result := r, body := b ++ u16 remaining ++ u16 refused },
        load := if remaining = 0 then none else some { l with remaining, refused },
        summary := { s.port.summary with
          remaining, refused, ending := if remaining = 0 then .completed else s.port.summary.ending },
        events := if remaining = 0 then u.port.events ||| 0x0020#16 else u.port.events } })

/-- CONFIG_SET (R184): the first value out of range is named and nothing changes; otherwise every setting given takes
its value, every other one keeps its own, and the answer names the changed ones. A reserved bit of the mask is out of
range too, and names no setting: the byte in the place of its code is free (log 8). A trunk or link that is disabled
has the stand-down condition judged (R100, R152, R166). A changed survey period restarts the survey timer of each
enabled trunk (R101), a changed hold limit each running hold timer (R87), a changed link period the timer of an
enabled link (R146) and a changed drill limit the drill timer in DRILL (R162); a changed horizon is a minute notice
(R120, R144); a value already held changes nothing. In each of these cases the event ends with the trunks' pick. -/
def Obligations.ConfigSetReplacesTheSettingsGiven : Prop :=
  (∀ (s : State) (tag : Byte) (body : List Byte) (b : ConfigBody), s.port.load = none →
    parseConfig body = some b →
    let inRange (r : Nat × Nat) : Prop :=
      (r.1 = 0 → r.2 ≤ 15) ∧ (1 ≤ r.1 → r.1 ≤ 4 → 100 ≤ r.2 ∧ r.2 ≤ 2000) ∧
      (r.1 = 6 → 20 ≤ r.2 ∧ r.2 ≤ 2000) ∧ (r.1 = 7 → 50 ≤ r.2 ∧ r.2 ≤ 1000) ∧ (r.1 = 8 → r.2 ≤ 60) ∧
      (r.1 = 9 → 30 ≤ r.2 ∧ r.2 ≤ 720) ∧ (r.1 = 10 → r.2 ≤ 240) ∧ (r.1 = 11 → r.2 ≤ 1023)
    let givenFor (c : Nat) : Option Nat := (b.values.find? fun r => decide (r.1 = c)).map (·.2)
    (∀ pre r post, b.values = pre ++ r :: post → (∀ q ∈ pre, inRange q) → ¬inRange r →
      exec (.configSet tag body) s = .next (s.answering s tag .badField (u8 r.1))) ∧
    ((∀ r ∈ b.values, inRange r) → 4096 ≤ b.mask →
      ∃ free, exec (.configSet tag body) s = .next (s.answering s tag .badField [free])) ∧
    ((∀ r ∈ b.values, inRange r) → b.mask < 4096 →
      ∃ t, exec (.configSet tag body) s = .next (s.answering t tag .done
          (u16 ((settingCodes.filter fun c => decide (t.setting c ≠ s.setting c)).foldl (fun a c => a + 2 ^ c) 0))) ∧
        (∀ c, c ≤ 11 → t.setting c = (givenFor c).getD (s.setting c)) ∧
        t.graph = s.graph ∧ t.route = s.route ∧ t.target = s.target ∧
        t.programme = { s.programme with linger := t.programme.linger, horizon := t.programme.horizon } ∧
        t.cabin.service = s.cabin.service ∧ t.plate.inbound = s.plate.inbound ∧
        t.muster = { s.muster with
          drillLimit := t.muster.drillLimit, drillTimer := t.muster.drillTimer
          completion := t.muster.completion } ∧
        (t.muster.completion = true ↔ s.muster.completion = true ∨
          (s.muster.state = .standDown ∧ t.standDownHolds = true ∧
            ((∃ i, (s.trunk i).enabled = true ∧ (t.trunk i).enabled = false) ∨
              ∃ l, (s.link l).enabled = true ∧ (t.link l).enabled = false))) ∧
        t.pending = s.pending ∧ t.port = { s.port with mask := t.port.mask }) ∧
    ((∀ r ∈ b.values, inRange r ∧ r.2 = s.setting r.1) → b.mask < 4096 →
      exec (.configSet tag body) s = .next (s.answering s.pickAll tag .done (u16 0)))) ∧
  ∀ (s : State) (tag hi lo : Byte) (l : Fin 4), s.port.load = none → Table.wf s.screen.screens = true →
    let n := rd16 hi lo
    let alters (c : Nat) (value : List Byte) (u : State) : Prop :=
      exec (.configSet tag (u16 (2 ^ c) ++ value)) s = .next (s.answering u.pickAll tag .done (u16 (2 ^ c)))
    (20 ≤ n → n ≤ 2000 → n ≠ s.plate.surveyPeriod → ∃ u, alters 6 [hi, lo] u ∧
      u = { s with plate := { s.plate with surveyPeriod := n, trunks := u.plate.trunks } } ∧
      ∀ i, u.trunk i = { s.trunk i with
        surveyTimer := if (s.trunk i).enabled then some 0 else (s.trunk i).surveyTimer }) ∧
    (50 ≤ n → n ≤ 1000 → n ≠ s.plate.holdLimit → ∃ u, alters 7 [hi, lo] u ∧
      u = { s with plate := { s.plate with holdLimit := n, trunks := u.plate.trunks } } ∧
      ∀ i, u.trunk i = { s.trunk i with holdTimer := (s.trunk i).holdTimer.map fun _ => 0 }) ∧
    (100 ≤ n → n ≤ 2000 → n ≠ (s.link l).periodSetting → alters (l.val + 1) [hi, lo] (s.setLink l { s.link l with
      periodSetting := n, timer := if (s.link l).enabled then some 0 else (s.link l).timer })) ∧
    (lo.toNat ≤ 60 → lo.toNat ≠ s.programme.linger →
      alters 8 [lo] { s with programme := { s.programme with linger := lo.toNat } }) ∧
    (30 ≤ n → n ≤ 720 → n ≠ s.programme.horizon → ∃ u, alters 9 [hi, lo] u ∧
      u = { s with programme := { s.programme with horizon := n }, screen := u.screen } ∧
      MarkedBy s u fun _ x k => decide (k = .programme) && decide (x.scope ≠ .nothing)) ∧
    (lo.toNat ≤ 240 → lo.toNat ≠ s.muster.drillLimit →
      alters 10 [lo] { s with muster := { s.muster with
        drillLimit := lo.toNat
        drillTimer := if s.muster.state = .drill then (if 0 < lo.toNat then some 0 else none)
          else s.muster.drillTimer } }) ∧
    (n ≤ 1023 → n ≠ s.port.mask.toNat → alters 11 [hi, lo] { s with port := { s.port with mask := hi ++ lo } })

/-- NOTICE_CLEAR (R182): each event flag named is cleared, each other flag is untouched, a level flag stays as its
condition has it, and a set that names no defined notice, or has a reserved bit (R188), is refused. RESTART(WARM) is
not answered; it is taken by the port (R186), the graph (R19), the maps (R45), the targets (R58), the cabins (R80),
the trunks (R109), the programme (R129), the screens and links (R154) and the Muster Controller (R171); another
argument is refused. The model's choices: the levels of wires that the part lets go (log 12), the refresh cursor at
slot ROUTE (log 28), a stand-down completion that is to follow, which is kept (log 20), and the record of ACCEPTed
news, which is kept (log 36). -/
def Obligations.NoticesAreClearedAndWarmRestartEndsTheWork : Prop :=
  (∀ (s : State) (tag hi lo : Byte),
    let n := rd16 hi lo
    (n = 0 ∨ 1024 ≤ n → exec (.noticeClear tag [hi, lo]) s = .next (s.answering s tag .badField [])) ∧
    (1 ≤ n → n ≤ 1023 →
      ∃ t, exec (.noticeClear tag [hi, lo]) s = .next (s.answering t tag .done (u16 t.flags.toNat)) ∧
        t = { s with port := { s.port with events := t.port.events } } ∧
        ∀ k, k < 16 → t.port.events.getLsbD k = (s.port.events.getLsbD k && !n.testBit k))) ∧
  (∀ (s : State) (tag arg : Byte),
    (arg ≠ 2#8 → exec (.restart tag [arg]) s = .next (s.answering s tag .badField [])) ∧
    (arg = 2#8 → ∃ t, exec (.restart tag [arg]) s = .next t ∧
      t.port = { s.port with
        load := none,
        summary := { s.port.summary with
          ending := if s.port.load.isSome then .restarted else s.port.summary.ending },
        processing := false,
        answer := none,
        cursor := { table := .node, index := 0 },
        events := 0#16,
        resetCause := .warm,
        out := [s.statusByte] } ∧
      t.plate = { s.plate with trunks := t.plate.trunks, inbound := [] } ∧ t.cabin.service = s.cabin.service ∧
      t.fresh = s.fresh ∧ t.pending = s.pending ∧ (TablesWf s → RouteInv s → TrunkInv s →
      t.graph = { s.graph with
        nodes := t.graph.nodes, openLifts := (s.graph.edges.filter fun r => r.2.openLift).length } ∧
      (∀ n, t.node n = (s.node n).map fun x => { x with degree := s.endsAt n, refs := s.claimsOnNode n }) ∧
      (GraphInv s → t.graph = s.graph) ∧
      (∀ k, t.targetAt k = (s.targetAt k).map fun x => { x with
        refs := s.claimsOnTarget k
        station := x.station.map fun st => { st with
          assigned := (s.assignedTo k).length
          swept := ((s.assignedTo k).filter fun r => r.2.swept).length
          occupied := berthsOf (s.assignedTo k)
          overFlag := decide (0 < st.capacity) && decide (st.capacity < berthsOf (s.assignedTo k)) } }) ∧
      t.target.unassigned = (s.cabin.cabins.filter fun r => (s.effective r.2).isNone).length ∧
      (TargetInv s → t.target = s.target) ∧
      (∀ m, t.mapAt m = (s.mapAt m).map fun r => { r with
        state := if t.route.build.any fun b => decide (b.map = m) then .building
          else if r.contentHeld then .stale else .empty }) ∧
      (∃ live : List MapName, live.Pairwise mapBefore ∧ (∀ m, m ∈ live ↔ (s.targetAt m.target).isSome) ∧
        let u := live.filter s.joinsUrgent
        let o := live.filter fun m => !s.joinsUrgent m
        t.route.urgent = u.tail ∧ t.route.ordinary = (if u = [] then o.tail else o) ∧
        t.route.build = (u ++ o).head?.map fun m => { map := m, gen := s.genOf m.profile }) ∧
      (∀ c, t.cabinAt c = (s.cabinAt c).map fun x =>
        if x.plate.isSome then { x with plateState := .pending, retries := 0 } else x) ∧
      (∀ i, ∃ waiting : List Nat,
        let tr := s.trunk i
        let clockHigh := tr.clockHigh || decide (tr.state = .talking)
        let dataHigh := tr.dataHigh || decide (tr.state = .talking) || decide (tr.state = .held)
        let proper := s.muster.state = .drill ∨ s.muster.state = .alarm
        let place (c : Nat) : Nat := (((s.cabinAt c).bind (·.plate)).map (·.address)).getD 0
        (waiting.Pairwise fun c d => place c ≤ place d) ∧ waiting.Nodup ∧
        (∀ c, c ∈ waiting ↔ ∃ x p, s.cabinAt c = some x ∧ x.plate = some p ∧ p.trunk = i) ∧
        t.trunk i = { tr with
          state := if tr.enabled then .settling else .disabled
          urgent := if proper then waiting else []
          ordinary := if proper then [] else waiting
          work := none
          believed := if tr.enabled then none else tr.believed
          cursor := 1
          surveyDue := false
          surveyTimer := if tr.enabled then some 0 else none
          guardTimer := if tr.enabled && (clockHigh && dataHigh) then some 0 else none
          holdTimer := none
          stuckTimer := if tr.enabled && !(clockHigh && dataHigh) then some 0 else none
          clockHigh, dataHigh }) ∧
      t.programme = { s.programme with
        secondTimer := if s.programme.clock.isSome then some 0 else s.programme.secondTimer } ∧
      (∀ l, let k := s.link l
        let on (n : Nat) : Prop := (s.screenAt n).isSome ∧ linkOfScreen n = l
        let idle : Link := { k with exchange := none, musterQueue := [], dirtyQueue := [] }
        let begun : Link := { idle with
          timer := some 0, period := 0#16, budget := 96, underWay := true, discovered := false,
          discoveryCursor := 1, refreshAddress := 1, refreshSlot := .route, keepaliveCursor := 1 }
        (k.enabled = false → t.link l = idle) ∧
        (k.enabled = true → (∀ n, ¬on n) → t.link l = { begun with underWay := false }) ∧
        ∀ n, k.enabled = true → on n → (∀ m, on m → n ≤ m) → t.link l = { begun with
          budget := 95
          discovered := true
          discoveryCursor := if n % 128 + 1 < 128 then n % 128 + 2 else 1
          exchange := some { screen := n, detached := false, packet := .discover, window := some 0,
                             limit := none } }) ∧
      (∀ n, t.screenAt n = (s.screenAt n).map fun x => { x with
        attach := .absent, descValid := false, misses := 0
        lastAddressed := if (t.link (linkOfScreen n)).exchange.any fun e => decide (e.screen = n) then some 0#16
          else none
        routeSlot := { x.routeSlot with lastSent := none }
        programmeSlot := { x.programmeSlot with lastSent := none }
        noticeSlot := { x.noticeSlot with lastSent := none }
        musterSlot := { x.musterSlot with lastSent := none } }) ∧
      t.muster = { s.muster with completion := t.muster.completion } ∧
      (t.muster.completion = true ↔ s.muster.completion = true ∨
        (s.muster.state = .standDown ∧ t.standDownHolds = true)))))

/-! ### Targets and muster stations (03) -/

/-- TARGET_PUT's checks in their order (R46); and a TARGET_PUT that passes them creates a target in a free slot (R5,
R20, R28, R46): its anchor's count rises, its two maps are live and queued (or the first is being built), and a
STATION marks the MUSTER slot of every screen. -/
def Obligations.TargetPutChecksThenCreates : Prop :=
  (∀ (s : State) (tag : Byte) (body : List Byte) (b : TargetBody), s.loading = false → TablesWf s →
    parseTarget body = some b →
    let i := Instr.targetPut tag body
    let inRange := b.id ≤ 63 ∧ b.kind ≤ 1 ∧ b.anchor ≤ 1023 ∧ (b.kind = 1 → b.letter ≤ 15 ∧ b.capacity ≤ 9999)
    let kindFree := ∀ x, s.targetAt b.id = some x → x.station.isSome ≠ decide (b.kind = 1) → x.refs = 0
    (¬inRange → exec i s = .next (s.answering s tag .badField [])) ∧
    (inRange → s.node b.anchor = none → exec i s = .next (s.answering s tag .badField [7#8])) ∧
    (∀ x, inRange → (s.node b.anchor).isSome → s.targetAt b.id = some x →
      x.station.isSome ≠ decide (b.kind = 1) → 0 < x.refs →
      exec i s = .next (s.answering s tag .inUse (u16 x.refs))) ∧
    (∀ h st, inRange → (s.node b.anchor).isSome → kindFree → b.kind = 1 → h ≠ b.id →
      s.stationAt h = some st → st.letter = b.letter →
      (∀ k sk, k ≠ b.id → s.stationAt k = some sk → sk.letter = b.letter → k = h) →
      exec i s = .next (s.answering s tag .exists_ (u8 h)))) ∧
  (∀ (s : State) (tag : Byte) (body : List Byte) (b : TargetBody), s.loading = false → TablesWf s → RouteInv s →
    parseTarget body = some b → b.id ≤ 63 → b.kind ≤ 1 → (s.node b.anchor).isSome → b.anchor ≤ 1023 →
    (b.kind = 1 → b.letter ≤ 15 ∧ b.capacity ≤ 9999 ∧
      ∀ k st, s.stationAt k = some st → st.letter ≠ b.letter) → s.targetAt b.id = none →
    let general : MapName := { target := b.id, profile := .general }
    let stepFree : MapName := { target := b.id, profile := .stepFree }
    let urgent := b.kind = 1 ∧ s.muster.state.proper = true
    let new : Station := { letter := b.letter, capacity := b.capacity, blocked := false, assigned := 0,
                           swept := 0, occupied := 0, overFlag := false }
    let created : Target := { anchor := b.anchor, label := b.label, refs := 0,
                              station := if b.kind = 1 then some new else none }
    ∃ t, exec (.targetPut tag body) s = .next (s.answering t tag .done [0#8]) ∧
      t = { s with graph := { s.graph with nodes := t.graph.nodes }, route := t.route,
                   target := { s.target with targets := t.target.targets }, screen := t.screen } ∧
      (∀ k, t.targetAt k = if k = b.id then some created else s.targetAt k) ∧
      (∀ n, t.node n = (s.node n).map fun x => if n = b.anchor then { x with refs := x.refs + 1 } else x) ∧
      (∀ m, m.target ≠ b.id → t.mapAt m = s.mapAt m) ∧
      (∀ m, m.target = b.id → t.mapAt m = some
        { contentHeld := false, builtGen := none, entries := [],
          state := if s.route.build = none ∧ m = general then .building else .empty }) ∧
      (∀ bd, s.route.build = some bd → t.route = { s.route with
          maps := t.route.maps,
          urgent := s.route.urgent ++ if urgent then [general, stepFree] else [],
          ordinary := s.route.ordinary ++ if urgent then [] else [general, stepFree] }) ∧
      (s.route.build = none → t.route =
        { maps := t.route.maps,
          urgent := if urgent then [stepFree] else [], ordinary := if urgent then [] else [stepFree],
          build := some { map := general, gen := s.graph.genGeneral } }) ∧
      if b.kind = 1 then MarkedBy s t (fun _ _ k => decide (k = .muster)) else t.screen = s.screen)

/-- A TARGET_PUT that passes its checks amends a live slot (R5, R31, R32, R47, R53), with the slots that a changed
label marks (R143), and the plates that a changed letter owes anew in their queues (R68). The event ends with the
trunks' pick. -/
def Obligations.TargetPutAmends : Prop :=
  (∀ (s : State) (k n : Nat) (x : Screen) (q : SlotKind),
    s.labelCauses k n x q = true ↔
      (q = .route ∧ k ∈ x.shown) ∨
      (q = .programme ∧ (∃ v, s.targetAt k = some v ∧ v.station = none) ∧
        (∃ r ∈ s.programme.entries, r.2.venue = k) ∧ s.passes x k = true) ∨
      (q = .muster ∧ (s.stationAt k).isSome)) ∧
  ∀ (s : State) (tag : Byte) (body : List Byte) (b : TargetBody) (old : Target), s.loading = false →
    TablesWf s → RouteInv s → TargetInv s → parseTarget body = some b →
    b.id ≤ 63 → b.kind ≤ 1 → (s.node b.anchor).isSome → b.anchor ≤ 1023 →
    (b.kind = 1 → b.letter ≤ 15 ∧ b.capacity ≤ 9999 ∧
      ∀ k st, k ≠ b.id → s.stationAt k = some st → st.letter ≠ b.letter) →
    s.targetAt b.id = some old → (old.station.isSome ≠ decide (b.kind = 1) → old.refs = 0) →
    let kept (st : Station) : Station :=
      { st with letter := b.letter, capacity := b.capacity,
                overFlag := decide (0 < b.capacity) && decide (b.capacity < st.occupied) }
    let new : Station := { letter := b.letter, capacity := b.capacity, blocked := false, assigned := 0,
                           swept := 0, occupied := 0, overFlag := false }
    let amended : Target := { anchor := b.anchor, label := b.label, refs := old.refs,
                              station := if b.kind = 1 then some ((old.station.map kept).getD new) else none }
    let kindChanged := old.station.isSome ≠ decide (b.kind = 1)
    let letterChanged := b.kind = 1 ∧ ∃ st, old.station = some st ∧ st.letter ≠ b.letter
    let labelChanged := old.label ≠ b.label
    let hurried : List MapName :=
      if kindChanged ∧ b.kind = 1 ∧ (s.muster.state = .drill ∨ s.muster.state = .alarm) then
        [{ target := b.id, profile := .general }, { target := b.id, profile := .stepFree }].filter
          fun m => decide (m ∈ s.route.ordinary)
      else []
    ∃ t : State, exec (.targetPut tag body) s = .next (s.answering t.pickAll tag .done [1#8]) ∧
      t = { s with graph := { s.graph with nodes := t.graph.nodes }, route := t.route,
                   target := { s.target with targets := t.target.targets },
                   cabin := { s.cabin with cabins := t.cabin.cabins },
                   plate := { s.plate with trunks := t.plate.trunks }, screen := t.screen, port := t.port } ∧
      (∀ k, t.targetAt k = if k = b.id then some amended else s.targetAt k) ∧
      (∀ n, t.node n = (s.node n).map fun x => { x with refs := x.refs -
        (if n = old.anchor ∧ old.anchor ≠ b.anchor then 1 else 0) +
        (if n = b.anchor ∧ old.anchor ≠ b.anchor then 1 else 0) }) ∧
      MapsOutdated s t (s.route.urgent ++ hurried) (s.route.ordinary.filter fun m => decide (m ∉ hurried))
        (fun m => decide (m.target = b.id) && decide (old.anchor ≠ b.anchor)) true ∧
      FacesRaised s t (fun _ x => decide (s.effective x = some b.id) && decide letterChanged) ∧
      PortTellsOver s t ∧
      MarkedBy s t (fun n x k =>
        (decide (k = .muster) && (decide kindChanged || decide letterChanged)) ||
        (decide (k = .route) && decide (b.id ∈ x.shown) && (decide letterChanged || decide labelChanged)) ||
        (decide labelChanged && t.labelCauses b.id n x k))

/-- TARGET_RETIRE (R5, R33, R48); and TARGET_GET (R49; 10 section 10.3) answers the record in every port state and
changes nothing. The bytes in the place of a VENUE's station figures are free (log 7). -/
def Obligations.TargetsAreRetiredAndRead : Prop :=
  (∀ (s : State) (tag v : Byte), s.loading = false → TablesWf s → RouteInv s →
    let id := v.toNat
    let i := Instr.targetRetire tag [v]
    (63 < id → exec i s = .next (s.answering s tag .badField [])) ∧
    (id ≤ 63 → s.targetAt id = none → exec i s = .next (s.answering s tag .notFound [])) ∧
    (∀ x, id ≤ 63 → s.targetAt id = some x → 0 < x.refs →
      exec i s = .next (s.answering s tag .inUse (u16 x.refs))) ∧
    (∀ x, id ≤ 63 → s.targetAt id = some x → x.refs = 0 →
      ∃ t, exec i s = .next (s.answering t tag .done []) ∧
        t = { s with graph := { s.graph with nodes := t.graph.nodes }, route := t.route,
                     target := { s.target with targets := t.target.targets }, screen := t.screen,
                     port := { s.port with events := t.port.events } } ∧
        (∀ k, t.targetAt k = if k = id then none else s.targetAt k) ∧
        (∀ n, t.node n = (s.node n).map fun y => if n = x.anchor then { y with refs := y.refs - 1 } else y) ∧
        (∀ m, t.mapAt m = if m.target = id then none else (s.mapAt m).map fun r => { r with
          state := if t.route.build.any fun b => decide (b.map = m) then .building else r.state }) ∧
        (let u := s.route.urgent.filter fun m => decide (m.target ≠ id)
         let o := s.route.ordinary.filter fun m => decide (m.target ≠ id)
         (∀ b, s.route.build = some b → b.map.target ≠ id →
           t.route.build = some b ∧ t.route.urgent = u ∧ t.route.ordinary = o) ∧
         ((∀ b, s.route.build = some b → b.map.target = id) →
           t.route.build = (u ++ o).head?.map (fun m => { map := m, gen := s.genOf m.profile }) ∧
           t.route.urgent = u.tail ∧ t.route.ordinary = if u = [] then o.tail else o)) ∧
        (t.port.events = if t.rebuildQueue = [] ∧ t.route.build = none ∧
            ¬(s.rebuildQueue = [] ∧ s.route.build = none)
          then s.port.events ||| Notice.mapsSettled.flag else s.port.events) ∧
        if x.station.isSome then MarkedBy s t (fun _ _ k => decide (k = .muster)) else t.screen = s.screen)) ∧
  (∀ (s : State) (tag v : Byte),
    let id := v.toNat
    let i := Instr.targetGet tag [v]
    (63 < id → exec i s = .next (s.answering s tag .badField [])) ∧
    (id ≤ 63 → s.targetAt id = none → exec i s = .next (s.answering s tag .notFound [])) ∧
    (∀ x st, id ≤ 63 → s.targetAt id = some x → x.station = some st →
      exec i s = .next (s.answering s tag .done (u8 id ++ [1#8] ++ u16 x.anchor ++ u16 x.label ++ u8 st.letter ++
        u16 st.capacity ++ u16 x.refs ++ u8 ((if st.blocked then 1 else 0) + (if st.overFlag then 2 else 0)) ++
        u16 st.assigned ++ u16 st.swept ++ u16 st.occupied))) ∧
    (∀ x, id ≤ 63 → s.targetAt id = some x → x.station = none →
      ∃ free : List Byte, free.length = 7 ∧
        exec i s = .next (s.answering s tag .done (u8 id ++ [0#8] ++ u16 x.anchor ++ u16 x.label ++ [0xFF#8] ++
          [0xFF#8, 0xFF#8] ++ u16 x.refs ++ free))))

/-- The effective station of a cabin (R51), and STATION_BLOCK and STATION_UNBLOCK (R54, R55): each case of their
table, and for a change the flag, the tallies, the over flags, and the plates of the affected cabins, which join
their queues (R68). The event ends with the trunks' pick. -/
def Obligations.StationBlockMovesTheAffectedCabins : Prop :=
  (∀ (s : State) (x : Cabin),
    let serves (k : Nat) : Prop := ∃ st, s.stationAt k = some st ∧ st.blocked = false
    (serves x.primary → s.effective x = some x.primary) ∧
    (∀ a, ¬serves x.primary → x.alternate = some a → serves a → s.effective x = some a) ∧
    (¬serves x.primary → (∀ a, x.alternate = some a → ¬serves a) → s.effective x = none)) ∧
  ∀ (s : State) (tag v : Byte), s.loading = false → TablesWf s → TargetInv s →
    let id := v.toNat
    let sets (i : Instr) (block : Bool) : Prop :=
      (63 < id → exec i s = .next (s.answering s tag .badField [])) ∧
      (id ≤ 63 → s.targetAt id = none → exec i s = .next (s.answering s tag .notFound [])) ∧
      (∀ x, id ≤ 63 → s.targetAt id = some x → x.station = none →
        exec i s = .next (s.answering s tag .badField [8#8])) ∧
      (∀ st, id ≤ 63 → s.stationAt id = some st → st.blocked = block →
        exec i s = .next (s.answering s tag .done ([2#8, 0#8, 0#8] ++ u16 st.assigned ++ u16 st.swept ++
          u16 st.occupied))) ∧
      (∀ st, id ≤ 63 → s.stationAt id = some st → st.blocked ≠ block →
        ∃ (t : State) (st' : Station), exec i s = .next (s.answering t.pickAll tag .done ([3#8] ++
            u16 (s.cabin.cabins.filter fun r => decide (s.effective r.2 ≠ t.effective r.2)).length ++
            u16 st'.assigned ++ u16 st'.swept ++ u16 st'.occupied)) ∧
          t = { s with target := t.target, cabin := { s.cabin with cabins := t.cabin.cabins },
                       plate := { s.plate with trunks := t.plate.trunks }, screen := t.screen, port := t.port } ∧
          t.stationAt id = some st' ∧ st'.blocked = block ∧
          (∀ k, s.targetAt k = none → t.targetAt k = none) ∧
          (∀ k x, s.targetAt k = some x → ∃ x', t.targetAt k = some x' ∧
            x' = { x with station := x'.station } ∧
            (x.station = none → x'.station = none) ∧
            ∀ a, x.station = some a → ∃ a', x'.station = some a' ∧ a'.letter = a.letter ∧
              a'.capacity = a.capacity ∧ (k ≠ id → a'.blocked = a.blocked)) ∧
          TargetInv t ∧
          FacesRaised s t (fun _ x => decide (s.effective x ≠ t.effective x)) ∧
          PortTellsOver s t ∧
          MarkedBy s t fun _ _ k => decide (k = .muster))
    sets (.stationBlock tag [v]) true ∧ sets (.stationUnblock tag [v]) false

/-! ### Cabin records (04) -/

/-- The checks of CABIN_PUT (R60) and of CABIN_AMEND (R61) in their order. -/
def Obligations.CabinChecksInOrder : Prop :=
  (∀ (s : State) (tag : Byte) (body : List Byte) (b : CabinBody), s.loading = false →
    parseCabin body = some b →
    let number : CabinNumber := { deck := b.deck, number := b.number }
    let holder : Option (Nat × Cabin) := ((plateOfRaw b.plate).getD none).bind s.cabinByPlate
    let refusal : Option (Result × List Byte) :=
      if b.occupancy = 0 ∧ (b.label ≠ [] ∨ b.privacy ≠ 0 ∨ b.message ≠ 0) then some (.badField, [2#8])
      else if b.alternate = b.primary then some (.badField, [3#8])
      else if s.node b.doorNode = none then some (.badField, [4#8])
      else if s.stationAt b.primary = none ∨ (b.alternate ≠ 0xFF ∧ s.stationAt b.alternate = none) then
        some (.badField, [3#8])
      else if (s.cabinByNumber number).isSome then some (.exists_, [6#8])
      else if holder.isSome then some (.exists_, [5#8] ++ (holder.map fun r =>
        u8 r.2.number.deck ++ u16 r.2.number.number).getD [])
      else if (List.range 3072).all (fun c => (s.cabinAt c).isSome) then some (.full, [])
      else none
    (¬b.InRange → exec (.cabinPut tag body) s = .next (s.answering s tag .badField [])) ∧
    ∀ r, b.InRange → refusal = some r → exec (.cabinPut tag body) s = .next (s.answering s tag r.1 r.2)) ∧
  (∀ (s : State) (tag : Byte) (body : List Byte) (b : CabinAmendBody), s.loading = false →
    parseCabinAmend body = some b →
    (¬b.InRange → exec (.cabinAmend tag body) s = .next (s.answering s tag .badField [])) ∧
    (b.InRange → s.cabinByNumber { deck := b.deck, number := b.number } = none →
      exec (.cabinAmend tag body) s = .next (s.answering s tag .notFound [])) ∧
    ∀ c old, b.InRange → s.cabinByNumber { deck := b.deck, number := b.number } = some (c, old) →
      let occupancy := (b.occupancy.bind Occupancy.ofCode).getD old.occupancy
      let primary := b.primary.getD old.primary
      let alternate := (b.alternate.bind optTargetOfRaw).getD old.alternate
      let holder := (((b.plate.bind plateOfRaw).bind id).bind s.cabinByPlate).filter fun r => decide (r.1 ≠ c)
      let refusal : Option (Result × List Byte) :=
        if occupancy = .vacant ∧ (b.label.any (fun l => !l.isEmpty) = true ∨
            b.privacy.any (fun n => decide (n ≠ 0)) = true ∨ b.message.any (fun n => decide (n ≠ 0)) = true) then
          some (.badField, [2#8])
        else if alternate = some primary then some (.badField, [3#8])
        else if b.doorNode.any (fun n => (s.node n).isNone) then some (.badField, [4#8])
        else if b.primary.any (fun k => (s.stationAt k).isNone) ∨
            b.alternate.any (fun k => decide (k ≠ 0xFF) && (s.stationAt k).isNone) then some (.badField, [3#8])
        else if holder.isSome then some (.exists_, [5#8] ++ (holder.map fun r =>
          u8 r.2.number.deck ++ u16 r.2.number.number).getD [])
        else none
      ∀ r, refusal = some r → exec (.cabinAmend tag body) s = .next (s.answering s tag r.1 r.2))

/-- A CABIN_PUT that passes its checks (R59, R60): the lowest free slot takes the record, the claims and the
tallies rise, and the plate is owed to its trunk, whose queue the cabin joins (R68). The event ends with the trunks'
pick. -/
def Obligations.CabinPutCreates : Prop :=
  ∀ (s : State) (tag : Byte) (body : List Byte) (b : CabinBody) (c : Nat) (plate : Option PlateAddress),
    s.loading = false → TablesWf s → TargetInv s → parseCabin body = some b → b.InRange →
    ¬(b.occupancy = 0 ∧ (b.label ≠ [] ∨ b.privacy ≠ 0 ∨ b.message ≠ 0)) → b.alternate ≠ b.primary →
    (s.node b.doorNode).isSome → (s.stationAt b.primary).isSome →
    (b.alternate ≠ 0xFF → (s.stationAt b.alternate).isSome) →
    s.cabinByNumber { deck := b.deck, number := b.number } = none →
    plateOfRaw b.plate = some plate → (∀ p, plate = some p → s.cabinByPlate p = none) →
    c < 3072 → s.cabinAt c = none → (∀ k, k < c → (s.cabinAt k).isSome) →
    let new : Cabin :=
      { number := { deck := b.deck, number := b.number }, doorNode := b.doorNode, plate,
        berths := b.berths, occupancy := if b.occupancy = 0 then .vacant else .occupied, label := b.label,
        language := b.language, message := if b.message = 0 then none else some b.message,
        primary := b.primary, alternate := if b.alternate = 0xFF then none else some b.alternate,
        privacy := if b.privacy = 0 then .unasked else if b.privacy = 1 then .doNotDisturb else .makeUpRoom,
        service := false, serviceMinute := none, swept := false, sweptBy := none, contentGen := 0#16,
        deliveredGen := 0#16, plateState := if plate.isSome then .pending else .noPlate, retries := 0 }
    ∃ t : State, exec (.cabinPut tag body) s = .next (s.answering t.pickAll tag .done ([0#8] ++ u16 c ++ [0#8, 0#8])) ∧
      t = { s with graph := { s.graph with nodes := t.graph.nodes }, target := t.target,
                   cabin := { s.cabin with cabins := t.cabin.cabins },
                   plate := { s.plate with trunks := t.plate.trunks }, port := t.port } ∧
      (∀ k, t.cabinAt k = if k = c then some new else s.cabinAt k) ∧
      (∀ n, t.node n = (s.node n).map fun x => if n = b.doorNode then { x with refs := x.refs + 1 } else x) ∧
      ClaimsMoved s t none (some new) ∧ TargetInv t ∧ PortTellsOver s t ∧
      (∀ i, t.trunk i = s.plateJoins (s.trunk i) (onTrunk plate i) c) ∧
      ∀ p, plate = some p → PlateOwed t.pickAll c p

/-- A CABIN_AMEND that passes its checks (R62, R63, R64, R68): the fields given replace those held, a
vacating clears the cabin's contents, the content generation is raised at most once, and a plate that is owed anew
joins its trunk's queue. The event ends with the trunks' pick. -/
def Obligations.CabinAmendReplacesTheFieldsGiven : Prop :=
  ∀ (s : State) (tag : Byte) (body : List Byte) (b : CabinAmendBody) (c : Nat) (old new : Cabin),
    s.loading = false → TablesWf s → TargetInv s → PlateInv s → parseCabinAmend body = some b → b.InRange →
    s.cabinByNumber { deck := b.deck, number := b.number } = some (c, old) → b.Gives old new →
    ¬(new.occupancy = .vacant ∧ (b.label.any (fun l => !l.isEmpty) = true ∨
      b.privacy.any (fun n => decide (n ≠ 0)) = true ∨ b.message.any (fun n => decide (n ≠ 0)) = true)) →
    new.alternate ≠ some new.primary → (s.node new.doorNode).isSome → (s.stationAt new.primary).isSome →
    (∀ a, new.alternate = some a → (s.stationAt a).isSome) →
    (∀ p k x, new.plate = some p → s.cabinByPlate p = some (k, x) → k = c) →
    let face := old.label ≠ new.label ∨ old.language ≠ new.language ∨ old.message ≠ new.message ∨
      old.privacy ≠ new.privacy ∨ old.occupancy ≠ new.occupancy ∨ s.effective old ≠ s.effective new
    let raised := face ∨ (old.plate ≠ new.plate ∧ new.plate ≠ none)
    let owedAnew := (old.plate ≠ new.plate ∧ new.plate ≠ none) ∨
      (old.plate = new.plate ∧ face ∧ (old.plateState = .current ∨ old.plateState = .failed))
    let after : Cabin := { new with
      contentGen := if raised then old.contentGen + 1#16 else old.contentGen,
      plateState := if owedAnew then .pending else if new.plate = none then .noPlate else old.plateState,
      retries := if owedAnew ∨ (old.plate ≠ new.plate) then 0 else old.retries }
    ∃ t : State, exec (.cabinAmend tag body) s = .next (s.answering t.pickAll tag .done
        ([1#8] ++ u16 after.contentGen.toNat ++ yesNo (decide raised))) ∧
      t = { s with graph := { s.graph with nodes := t.graph.nodes }, target := t.target, cabin := t.cabin,
                   plate := { s.plate with trunks := t.plate.trunks }, port := t.port } ∧
      (∀ k, t.cabinAt k = if k = c then some after else s.cabinAt k) ∧
      t.cabin.service = (if old.service ∧ ¬new.service then s.cabin.service.filter (fun k => decide (k ≠ c))
        else s.cabin.service) ∧
      (∀ n, t.node n = (s.node n).map fun x => { x with refs := x.refs -
        (if n = old.doorNode ∧ old.doorNode ≠ new.doorNode then 1 else 0) +
        (if n = new.doorNode ∧ old.doorNode ≠ new.doorNode then 1 else 0) }) ∧
      ClaimsMoved s t (some old) (some new) ∧ TargetInv t ∧ PortTellsOver s t ∧
      (∀ i,
        let left := if old.plate ≠ new.plate ∧ onTrunk old.plate i = true then ((s.trunk i).leave c).detach c
          else s.trunk i
        t.trunk i = s.plateJoins left (decide owedAnew && onTrunk new.plate i) c) ∧
      (∀ p, new.plate = some p → after.plateState = .pending → PlateOwed t.pickAll c p) ∧
      (∀ p, old.plate = some p → new.plate.map (·.trunk) ≠ some p.trunk → ¬PlateOwed t.pickAll c p)

/-- CABIN_RETIRE (R65), PLATE_RETRY (R70), which ends with the trunks' pick, and SERVICE_TAKE (R72). -/
def Obligations.CabinRetirePlateRetryAndServiceTake : Prop :=
  (∀ (t : Trunk) (c : Nat),
    t.leave c = { t with urgent := t.urgent.filter (fun d => decide (d ≠ c)),
                         ordinary := t.ordinary.filter (fun d => decide (d ≠ c)) } ∧
    t.detach c = match t.work with
      | some (.write (some d) a f k) => if d = c then { t with work := some (.write none a f k) } else t
      | _ => t) ∧
  (∀ (s : State) (tag d hi lo : Byte), s.loading = false → TablesWf s → TargetInv s →
    let number : CabinNumber := { deck := d.toNat, number := rd16 hi lo }
    let inRange := number.deck ≤ 19 ∧ 1 ≤ number.number ∧ number.number ≤ 999
    (¬inRange → exec (.cabinRetire tag [d, hi, lo]) s = .next (s.answering s tag .badField []) ∧
      exec (.plateRetry tag [d, hi, lo]) s = .next (s.answering s tag .badField [])) ∧
    (inRange → s.cabinByNumber number = none →
      exec (.cabinRetire tag [d, hi, lo]) s = .next (s.answering s tag .notFound []) ∧
      exec (.plateRetry tag [d, hi, lo]) s = .next (s.answering s tag .notFound [])) ∧
    (∀ c x, inRange → s.cabinByNumber number = some (c, x) → x.occupancy = .occupied →
      exec (.cabinRetire tag [d, hi, lo]) s = .next (s.answering s tag .refusedState [])) ∧
    (∀ c x, inRange → s.cabinByNumber number = some (c, x) → x.occupancy = .vacant →
      ∃ t, exec (.cabinRetire tag [d, hi, lo]) s = .next (s.answering t tag .done []) ∧
        t = { s with graph := { s.graph with nodes := t.graph.nodes }, target := t.target,
                     cabin := { s.cabin with cabins := t.cabin.cabins },
                     plate := { s.plate with trunks := t.plate.trunks } } ∧
        (∀ k, t.cabinAt k = if k = c then none else s.cabinAt k) ∧
        (∀ n, t.node n = (s.node n).map fun y => if n = x.doorNode then { y with refs := y.refs - 1 } else y) ∧
        ClaimsMoved s t (some x) none ∧ TargetInv t ∧
        (∀ i, t.trunk i = if (x.plate.map (·.trunk)) = some i then ((s.trunk i).leave c).detach c else s.trunk i)) ∧
    (∀ c x, inRange → s.cabinByNumber number = some (c, x) → x.plateState ≠ .failed →
      exec (.plateRetry tag [d, hi, lo]) s = .next (s.answering s tag .refusedState (u8 x.plateState.code))) ∧
    (∀ c x p, inRange → s.cabinByNumber number = some (c, x) → x.plateState = .failed → x.plate = some p →
      ∃ t : State, exec (.plateRetry tag [d, hi, lo]) s = .next (s.answering t.pickAll tag .done []) ∧
        t = { s with cabin := { s.cabin with cabins := t.cabin.cabins },
                     plate := { s.plate with trunks := t.plate.trunks } } ∧
        (∀ k, t.cabinAt k = if k = c then some { x with plateState := .pending, retries := 0 } else s.cabinAt k) ∧
        (∀ j, t.trunk j = s.plateJoins (s.trunk j) (decide (p.trunk = j)) c) ∧ PlateOwed t.pickAll c p)) ∧
  (∀ (s : State) (tag : Byte), s.loading = false →
    (s.cabin.service = [] → exec (.serviceTake tag []) s = .next (s.answering s tag .empty [])) ∧
    (∀ c rest x, s.cabin.service = c :: rest → s.cabinAt c = some x →
      ∃ t, exec (.serviceTake tag []) s = .next (s.answering t tag .done
          (u8 x.number.deck ++ u16 x.number.number ++ optMinute x.serviceMinute ++ u16 rest.length)) ∧
        t = { s with cabin := { cabins := t.cabin.cabins, service := rest } } ∧
        ∀ k, t.cabinAt k = if k = c then some { x with service := false } else s.cabinAt k))

/-- CABIN_GET by cabin number or by plate address, and with a selector that is neither (R66, R188), and TRUNK_GET
(R107) answer the record in every port state and change nothing (10 sections 10.3 and 10.6; the reserved and free
entries R105). Bytes without a value are free (log 6, 7); what a disabled trunk shows as required and owed is read off
the rule (log 17). -/
def Obligations.CabinAndTrunkReads : Prop :=
  (∀ (s : State) (tag v a h l : Byte), 2 ≤ v.toNat →
    exec (.cabinGet tag [v, a, h, l]) s = .next (s.answering s tag .badField [])) ∧
  (∀ s : State, s.reserved = 2 * s.surveySteps ∧
    s.freeEntries = 64 - s.plate.inbound.length - s.reserved) ∧
  (∀ (s : State) (n : CabinNumber) (p : PlateAddress) (c : Nat) (x : Cabin), TablesWf s → CabinInv s →
    (s.cabinByNumber n = some (c, x) ↔ s.cabinAt c = some x ∧ x.number = n) ∧
    (s.cabinByPlate p = some (c, x) ↔ s.cabinAt c = some x ∧ x.plate = some p)) ∧
  (∀ (s : State) (tag a h l : Byte),
    let number := rd16 h l
    let byNumber := Instr.cabinGet tag [0#8, a, h, l]
    let byPlate := Instr.cabinGet tag [1#8, a, h, l]
    let answers (i : Instr) (found : Option (Nat × Cabin)) : Prop :=
      match found with
      | none => exec i s = .next (s.answering s tag .notFound [])
      | some (c, x) => ∃ place sweptBy : List Byte, exec i s = .next (s.answering s tag .done
            (u8 x.number.deck ++ u16 x.number.number ++ u16 x.doorNode ++ optPlate x.plate ++ u8 x.berths ++
              u8 x.occupancy.code ++ u8 x.privacy.code ++ u8 x.language ++ optCatalogue x.message ++
              u8 x.primary ++ optByte x.alternate ++ u8 x.label.length ++ x.label.flatMap (fun w => u16 w.toNat) ++
              u16 c ++ yesNo x.service ++ optMinute x.serviceMinute ++ yesNo x.swept ++ sweptBy ++
              u16 x.contentGen.toNat ++ u16 x.deliveredGen.toNat ++ u8 x.plateState.code ++ u8 x.retries ++
              optByte (s.effective x) ++ place)) ∧
          (∀ w, x.sweptBy = some w → sweptBy = [1#8] ++ u16 w.toNat) ∧
          (x.sweptBy = none → sweptBy.length = 3 ∧ sweptBy.head? = some 0#8) ∧ place.length = 4 ∧
          (∀ p, x.plate = some p → (s.trunk p.trunk).writing c = true → place.head? = some 2#8) ∧
          (∀ p k, x.plate = some p → (s.trunk p.trunk).writing c = false →
            position c (s.trunk p.trunk).urgent = k + 1 →
            place = u8 1 ++ u8 p.trunk.val ++ u8 0 ++ u8 (k + 1)) ∧
          (∀ p k, x.plate = some p → (s.trunk p.trunk).writing c = false →
            position c (s.trunk p.trunk).urgent = 0 → position c (s.trunk p.trunk).ordinary = k + 1 →
            place = u8 1 ++ u8 p.trunk.val ++ u8 1 ++ u8 (k + 1)) ∧
          (∀ p, x.plate = some p → (s.trunk p.trunk).writing c = false → c ∉ (s.trunk p.trunk).urgent →
            c ∉ (s.trunk p.trunk).ordinary → place.head? = some 0#8) ∧
          (x.plate = none → place.head? = some 0#8)
    (¬(a.toNat ≤ 19 ∧ 1 ≤ number ∧ number ≤ 999) → exec byNumber s = .next (s.answering s tag .badField [])) ∧
    (a.toNat ≤ 19 ∧ 1 ≤ number ∧ number ≤ 999 →
      answers byNumber (s.cabinByNumber { deck := a.toNat, number })) ∧
    (¬(a.toNat ≤ 15 ∧ 1 ≤ h.toNat ∧ h.toNat ≤ 250 ∧ l = 0#8) →
      exec byPlate s = .next (s.answering s tag .badField [])) ∧
    (∀ i : Fin 16, i.val = a.toNat → 1 ≤ h.toNat → h.toNat ≤ 250 → l = 0#8 →
      answers byPlate (s.cabinByPlate { trunk := i, address := h.toNat }))) ∧
  (∀ (s : State) (tag v : Byte),
    (16 ≤ v.toNat → exec (.trunkGet tag [v]) s = .next (s.answering s tag .badField [])) ∧
    ∀ i : Fin 16, i.val = v.toNat →
      let tr := s.trunk i
      let required : Nat := match s.muster.state with
        | .normal => 0
        | .drill => 1
        | .alarm => 2
        | .standDown => 0
      let believed : Nat := match tr.believed with
        | some .normal => 0
        | some .drill => 1
        | some .alarm => 2
        | none => 3
      let plates (st : PlateState) : Nat := (s.cabin.cabins.filter fun r =>
        r.2.plate.any (fun p => decide (p.trunk = i)) && decide (r.2.plateState = st)).length
      ∃ work : List Byte, exec (.trunkGet tag [v]) s = .next (s.answering s tag .done
          (u8 tr.state.code ++ yesNo tr.enabled ++ u8 believed ++ u8 required ++
            yesNo (tr.enabled && decide (believed ≠ required)) ++ work ++ u8 tr.urgent.length ++
            u8 tr.ordinary.length ++ u8 tr.cursor ++ yesNo tr.surveyDue ++ u8 (plates .pending) ++
            u8 (plates .current) ++ u8 (plates .failed) ++ u8 s.plate.inbound.length ++ u8 s.reserved ++
            u8 s.freeEntries)) ∧
        (tr.work = none → work = [0#8, 0#8, 0#8, 0#8]) ∧
        (∀ c a f k x, tr.work = some (.write (some c) a f k) → s.cabinAt c = some x →
          work = [1#8] ++ u8 x.number.deck ++ u16 x.number.number) ∧
        (∀ a f k, tr.work = some (.write none a f k) → work = [2#8, 0#8, 0#8, 0#8]) ∧
        (∀ m, tr.work = some (.broadcast m) → work = [3#8] ++ u8 m.code ++ [0#8, 0#8]) ∧
        (∀ a acc, tr.work = some (.survey a acc) → work = [4#8] ++ u8 a ++ [0#8, 0#8]))

/-- PRIVACY, TOOL_WRITE, SERVICE_CALL and SWEEP_CLEAR reports at the head of the Inbound Report Queue (R73 to
R77). Each event ends with the trunks' pick. -/
def Obligations.ReportsReachTheirCabins : Prop :=
  (∀ (s : State) (i : Fin 16) (a : Nat) (rest : List ReportEntry) (v : Privacy),
    let found := s.cabinByPlate { trunk := i, address := a }
    let owed (x : Cabin) : Prop := x.plateState = .current ∨ x.plateState = .failed
    (s.plate.inbound = ⟨i, a, .privacy v⟩ :: rest →
      ∃ t : State, exec .privacy s = .next t.pickAll ∧
        t = { s with cabin := { s.cabin with cabins := t.cabin.cabins },
                     plate := { s.plate with trunks := t.plate.trunks, inbound := rest } } ∧
        (found = none → t.cabin = s.cabin ∧ ∀ j, t.trunk j = s.trunk j) ∧
        ∀ c x, Table.wf s.cabin.cabins = true → found = some (c, x) →
          let g := x.contentGen + 1#16
          let after : Cabin :=
            if x.occupancy = .vacant ∨ x.privacy = v then x
            else if x.plateState = .current then { x with privacy := v, contentGen := g, deliveredGen := g }
            else if x.plateState = .failed then
              { x with privacy := v, contentGen := g, plateState := .pending, retries := 0 }
            else { x with privacy := v, contentGen := g }
          let owedAnew := ¬(x.occupancy = .vacant ∨ x.privacy = v) ∧ x.plateState = .failed
          (∀ k, t.cabinAt k = if k = c then some after else s.cabinAt k) ∧
          ∀ j, t.trunk j = s.plateJoins (s.trunk j) (decide owedAnew && onTrunk x.plate j) c) ∧
    (s.plate.inbound = ⟨i, a, .toolWrite⟩ :: rest →
      ∃ t : State, exec .toolWrite s = .next t.pickAll ∧
        t = { s with cabin := { s.cabin with cabins := t.cabin.cabins },
                     plate := { s.plate with trunks := t.plate.trunks, inbound := rest } } ∧
        (found = none → t.cabin = s.cabin ∧ ∀ j, t.trunk j = s.trunk j) ∧
        ∀ c x, Table.wf s.cabin.cabins = true → found = some (c, x) →
          (∀ k, t.cabinAt k = if k = c then some { x with
              contentGen := x.contentGen + 1#16,
              plateState := if owed x then .pending else x.plateState,
              retries := if x.plateState = .noPlate then x.retries else 0 } else s.cabinAt k) ∧
          (∀ j, t.trunk j = s.plateJoins (s.trunk j) (decide (owed x) && onTrunk x.plate j) c) ∧
          ∀ p, x.plate = some p → owed x → PlateOwed t.pickAll c p)) ∧
  (∀ (s : State) (i j : Fin 16) (a a' : Nat) (rest : List ReportEntry) (crew : Word16),
    let found := s.cabinByPlate { trunk := i, address := a }
    let proper := s.muster.state = .drill ∨ s.muster.state = .alarm
    (s.plate.inbound = ⟨i, a, .serviceCall⟩ :: rest →
      ∃ t : State, exec .serviceCall s = .next t.pickAll ∧
        t = { s with cabin := t.cabin, plate := { s.plate with inbound := rest } } ∧
        (found = none → t.cabin = s.cabin) ∧
        ∀ c x, Table.wf s.cabin.cabins = true → found = some (c, x) →
          if x.occupancy = .vacant ∨ x.service = true then t.cabin = s.cabin
          else t.cabin.service = s.cabin.service ++ [c] ∧
            ∀ k, t.cabinAt k = if k = c then some { x with
              service := true, serviceMinute := s.programme.clock.map (·.minute) } else s.cabinAt k) ∧
    (s.plate.inbound = ⟨i, a, .sweepClear⟩ :: ⟨j, a', .crewTag crew⟩ :: rest →
      ∃ t : State, exec .sweepClear s = .next t.pickAll ∧
        t = { s with cabin := { s.cabin with cabins := t.cabin.cabins },
                     plate := { s.plate with inbound := rest },
                     target := { s.target with targets := t.target.targets } } ∧
        (found = none ∨ ¬proper → t.cabin = s.cabin ∧ t.target = s.target) ∧
        ∀ c x, Table.wf s.cabin.cabins = true → found = some (c, x) → proper →
          (∀ k, t.cabinAt k = if k = c then some { x with swept := true, sweptBy := some crew }
            else s.cabinAt k) ∧
          ∀ k, t.stationAt k = (s.stationAt k).map fun st =>
            if s.effective x = some k ∧ x.swept = false then { st with swept := st.swept + 1 } else st))

/-! ### Door-plate trunks (05) -/

/-- What a trunk takes when it picks (R90, R92, R98, R99, R102), the plate that a survey step reads among those of the
live cabins on the trunk (R103), with the face that a write carries (R67), and the bytes that the part sends for the
work in flight: WRITE_FACE, READ_NEWS and GROUP_MODE (R188; 10 section 10.4). That the bytes are read off the work in
flight, and not stored, is the model's (log 13). At the end of an event every trunk picks, in ascending number (the
model's choice, log 38). -/
def Obligations.PickTakesTheFirstWorkThatApplies : Prop :=
  (∀ (s : State) (i : Fin 16), s.trunkSends i = (s.trunk i).work.map fun w => match w with
    | .write _ address f _ => u8 address ++ [0x31#8] ++ u16 f.gen.toNat ++
        u8 (match f.mode with
          | .normal => 0
          | .drill => 1
          | .alarm => 2) ++
        u8 ((if f.occupancy = .occupied then 1 else 0) + 2 * (match f.privacy with
          | .unasked => 0
          | .doNotDisturb => 1
          | .makeUpRoom => 2)) ++
        u8 (f.letter.getD 0xFF) ++ u16 f.message ++ u8 f.language ++ u8 f.label.length ++
        f.label.flatMap fun c => u16 c.toNat
    | .survey address _ => u8 address ++ [0x32#8]
    | .broadcast m => [0#8, 0x33#8] ++ u8 (match m with
        | .normal => 0
        | .drill => 1
        | .alarm => 2)) ∧
  ∀ (s : State) (i : Fin 16), TrunkOk (s.trunk i) → QueuedLive s i →
    let tr := s.trunk i
    let t := s.pick i
    let required : PlateMode := match s.muster.state with
      | .drill => .drill
      | .alarm => .alarm
      | .normal => .normal
      | .standDown => .normal
    let free := tr.state = .idle ∧ tr.clockHigh = true ∧ tr.dataHigh = true
    let quiet := free ∧ tr.believed = some required
    let room := tr.surveyDue = true ∧ s.held + s.reserved + 2 ≤ 64
    let left := if room ∧ s.surveyPlate i = none then { tr with surveyDue := false } else tr
    let writing (from' : Trunk) (c : Nat) (x : Cabin) (k : QueueClass) : Trunk := { from' with
      state := .talking,
      urgent := tr.urgent.filter (fun d => decide (d ≠ c)),
      ordinary := tr.ordinary.filter (fun d => decide (d ≠ c)),
      work := some (.write (some c) ((x.plate.map (·.address)).getD 0)
        { label := if x.occupancy = .vacant then [] else x.label, privacy := x.privacy,
          letter := ((s.effective x).bind s.stationAt).map (·.letter), message := x.message.getD 0,
          language := x.language, occupancy := x.occupancy, mode := required, gen := x.contentGen } k) }
    t = { s with plate := { s.plate with trunks := t.plate.trunks } } ∧
    (∀ j, j ≠ i → t.trunk j = s.trunk j) ∧
    (¬free → t.trunk i = tr) ∧
    (free → tr.believed ≠ some required →
      t.trunk i = { tr with state := .talking, work := some (.broadcast required) }) ∧
    (∀ c cs x, quiet → tr.urgent = c :: cs → s.cabinAt c = some x → t.trunk i = writing tr c x .urgent) ∧
    (∀ a, quiet → tr.urgent = [] → room → s.surveyPlate i = some a →
      t.trunk i = { tr with state := .talking, work := some (.survey a false) }) ∧
    (∀ c cs x, quiet → tr.urgent = [] → ¬(room ∧ (s.surveyPlate i).isSome) → tr.ordinary = c :: cs →
      s.cabinAt c = some x → t.trunk i = writing left c x .ordinary) ∧
    (quiet → tr.urgent = [] → ¬(room ∧ (s.surveyPlate i).isSome) → tr.ordinary = [] → t.trunk i = left) ∧
    (∀ a, s.surveyPlate i = some a → a ∈ s.addressesOn i ∧
      ∀ b ∈ s.addressesOn i, (tr.cursor ≤ a → tr.cursor ≤ b → a ≤ b) ∧ (a < tr.cursor → a ≤ b ∧ b < tr.cursor)) ∧
    (s.surveyPlate i = none → s.addressesOn i = []) ∧
    (Table.wf s.cabin.cabins = true → ∀ a, a ∈ s.addressesOn i ↔
      ∃ c x, s.cabinAt c = some x ∧ x.plate = some { trunk := i, address := a }) ∧
    s.pickAll = (List.finRange 16).foldl State.pick s

/-- The survey timer, the idle guard and the stuck timer expire (R85, R86, R88, R101); another talker's OPEN and
CLOSE, wires that change, and the ways out of RECOVERING and FAULT (R85, R86, R87, R88), in every state of the
trunk. The model's choices: in TALKING and HELD an OPEN, a CLOSE or a change of the wires changes nothing but
that a rising clock wire releases a hold (log 2, 12), and these are the wires' levels (log 12). -/
def Obligations.TrunkTimersAndWires : Prop :=
  (∀ (s : State) (i : Fin 16), TrunkOk (s.trunk i) →
    let tr := s.trunk i
    (tr.surveyTimer.isSome → exec (.surveyTimerExpiry i) s =
      .next (s.setTrunk i { tr with surveyTimer := some 0, surveyDue := true }).pickAll) ∧
    (tr.guardTimer.isSome → exec (.idleGuardExpiry i) s =
      .next (s.setTrunk i { tr with state := .idle, guardTimer := none }).pickAll) ∧
    (tr.stuckTimer.isSome → ∃ t, exec (.stuckTimerExpiry i) s = .next t ∧
      t = { s.setTrunk i { tr with state := .fault, guardTimer := none, stuckTimer := none } with
        port := { s.port with events := s.port.events ||| 0x0002#16 },
        muster := { s.muster with completion := t.muster.completion } } ∧
      (t.muster.completion = true ↔
        s.muster.completion = true ∨ (s.muster.state = .standDown ∧ t.standDownHolds = true)))) ∧
  (∀ (s : State) (i : Fin 16) (c d : Bool), TrunkOk (s.trunk i) →
    let tr := s.trunk i
    let silent := tr.state = .talking ∨ tr.state = .held
    let other := tr.state = .listening ∨ tr.state = .recovering ∨ tr.state = .fault ∨ tr.state = .disabled
    let seen (c d : Bool) : Trunk :=
      let high := c && d
      let at' : Trunk := { tr with clockHigh := c, dataHigh := d }
      let stuck : Timer := if high then none else if tr.bothHigh then some 0 else tr.stuckTimer
      let guard : Timer := if !high then none else if tr.bothHigh then tr.guardTimer else some 0
      match tr.state with
      | .idle => { at' with stuckTimer := stuck }
      | .settling => { at' with guardTimer := guard, stuckTimer := stuck }
      | .listening => { at' with guardTimer := guard, stuckTimer := stuck }
      | .recovering =>
        if high then { at' with state := .settling, guardTimer := some 0, stuckTimer := none } else at'
      | .fault => if high then { at' with state := .settling, believed := none, guardTimer := some 0 } else at'
      | .disabled => at'
      | .talking => tr
      | .held => tr
    (tr.state = .idle ∨ tr.state = .settling → exec (.otherTalkerOpen i) s = .next (s.setTrunk i
      { tr with state := .listening, clockHigh := true, dataHigh := false, guardTimer := none,
                stuckTimer := if tr.bothHigh then some 0 else tr.stuckTimer })) ∧
    (silent → exec (.otherTalkerOpen i) s = .next s) ∧
    (tr.state = .listening → exec (.otherTalkerClose i) s = .next (s.setTrunk i
      { tr with state := .idle, clockHigh := true, dataHigh := true, guardTimer := none,
                stuckTimer := none }).pickAll) ∧
    (silent → exec (.otherTalkerClose i) s = .next s.pickAll) ∧
    (other → exec (.otherTalkerOpen i) s = .next (s.setTrunk i (seen true false))) ∧
    (¬silent → tr.state ≠ .listening →
      exec (.otherTalkerClose i) s = .next (s.setTrunk i (seen true true)).pickAll) ∧
    (¬silent → exec (.trunkWireChange i c d) s = .next (s.setTrunk i (seen c d)).pickAll) ∧
    (tr.state = .talking ∨ (tr.state = .held ∧ c = false) →
      exec (.trunkWireChange i c d) s = .next s.pickAll) ∧
    (tr.state = .recovering → exec (.recoveringWiresHigh i) s = .next (s.setTrunk i
      { tr with state := .settling, clockHigh := true, dataHigh := true, guardTimer := some 0,
                stuckTimer := none })) ∧
    (tr.state = .fault → exec (.faultWiresHigh i) s = .next (s.setTrunk i
      { tr with state := .settling, clockHigh := true, dataHigh := true, believed := none,
                guardTimer := some 0, stuckTimer := none })) ∧
    (tr.state = .held → c = true → exec (.trunkWireChange i c d) s = .next (s.setTrunk i
      { tr with state := .talking, clockHigh := true, holdTimer := none }).pickAll))

/-- Holds, their release and their expiry, and lost arbitration (R83, R84, R87, R94, R96, R99, R103, R104). A release
after the expiry is a rising wire in RECOVERING (R87); in any other state too it is the clock wire rising (the model's
choice, log 2). That a hold or a loss tells whether the address was ACCEPTed is read off R104 (log 11); the levels of
the wires after an expiry and after a loss are the model's choice (log 12). -/
def Obligations.HoldsAndLostArbitration : Prop :=
  ∀ (s : State) (i : Fin 16) (accepted : Bool), TrunkOk (s.trunk i) →
    let tr := s.trunk i
    let recovering : Trunk := { tr with
      state := .recovering, work := none, clockHigh := false, dataHigh := true, holdTimer := none,
      stuckTimer := some 0 }
    let listening : Trunk := { tr with
      state := .listening, work := none, clockHigh := true, dataHigh := false, stuckTimer := some 0 }
    (tr.state = .talking → ∃ w, exec (.hold i accepted) s = .next (s.setTrunk i
        { tr with state := .held, clockHigh := false, holdTimer := some 0, work := some w }) ∧
      ∀ v, tr.work = some v → w = match v with
        | .survey a acc => .survey a (acc || accepted)
        | .write k a f q => .write k a f q
        | .broadcast m => .broadcast m) ∧
    (tr.state = .held → exec (.holdRelease i) s = .next (s.setTrunk i
      { tr with state := .talking, clockHigh := true, holdTimer := none })) ∧
    (tr.state = .recovering → tr.dataHigh = true → exec (.holdRelease i) s = .next (s.setTrunk i
      { tr with state := .settling, clockHigh := true, guardTimer := some 0, stuckTimer := none }).pickAll) ∧
    (tr.state = .recovering → tr.dataHigh = false →
      exec (.holdRelease i) s = .next (s.setTrunk i { tr with clockHigh := true }).pickAll) ∧
    (tr.state ≠ .held → exec (.holdRelease i) s = exec (.trunkWireChange i true tr.dataHigh) s) ∧
    (∀ c a f k, tr.state = .held → tr.work = some (.write (some c) a f k) →
      exec (.holdTimerExpiry i) s = .next ((s.setTrunk i recovering).writeFailed c).pickAll) ∧
    (∀ a f k, tr.state = .held → tr.work = some (.write none a f k) →
      exec (.holdTimerExpiry i) s = .next (s.setTrunk i recovering).pickAll) ∧
    (∀ m, tr.state = .held → tr.work = some (.broadcast m) →
      exec (.holdTimerExpiry i) s = .next (s.setTrunk i recovering).pickAll) ∧
    (∀ a acc, tr.state = .held → tr.work = some (.survey a acc) →
      let u := s.setTrunk i { recovering with surveyDue := false, cursor := if a < 250 then a + 1 else 1 }
      exec (.holdTimerExpiry i) s = .next (if acc then u.surveyRevives i a else u).pickAll) ∧
    (∀ c a f k, tr.state = .talking → tr.work = some (.write (some c) a f k) →
      exec (.arbitrationLoss i accepted) s = .next (s.setTrunk i { listening with
        urgent := if k = .urgent then c :: tr.urgent else tr.urgent,
        ordinary := if k = .urgent then tr.ordinary else c :: tr.ordinary }).pickAll) ∧
    (∀ a f k, tr.state = .talking → tr.work = some (.write none a f k) →
      exec (.arbitrationLoss i accepted) s = .next (s.setTrunk i listening).pickAll) ∧
    (∀ m, tr.state = .talking → tr.work = some (.broadcast m) →
      exec (.arbitrationLoss i accepted) s = .next (s.setTrunk i listening).pickAll) ∧
    (∀ a acc, tr.state = .talking → tr.work = some (.survey a acc) →
      exec (.arbitrationLoss i accepted) s = .next
        (if acc || accepted then (s.setTrunk i listening).surveyRevives i a else s.setTrunk i listening).pickAll)

/-- The outcomes of face writes (R93, R94, R97), before the trunks pick. -/
def Obligations.WritesCompleteOrFail : Prop :=
  (∀ (s : State) (c : Nat) (x : Cabin) (p : PlateAddress), Table.wf s.cabin.cabins = true →
    s.cabinAt c = some x → x.plate = some p →
    let gone := 3 ≤ x.retries + 1
    ∃ u, s.writeFailed c = u ∧
      u = { (if gone then s else s.setTrunk p.trunk ((s.trunk p.trunk).joinTail s.plateClassNow c)) with
        cabin := { s.cabin with cabins := u.cabin.cabins }
        port := { s.port with events := if gone then s.port.events ||| 0x0001#16 else s.port.events } } ∧
      ∀ d, u.cabinAt d = if d = c then some { x with
        retries := x.retries + 1, plateState := if gone then .failed else x.plateState } else s.cabinAt d) ∧
  ∀ (s : State) (i : Fin 16), TrunkOk (s.trunk i) → Table.wf s.cabin.cabins = true →
    let tr := s.trunk i
    let closed : State := s.setTrunk i { tr with state := .idle, work := none }
    (∀ c a f k, tr.state = .talking → tr.work = some (.write (some c) a f k) →
      ∀ x p, s.cabinAt c = some x → x.plate = some p →
      (∃ u : State, exec (.writeCompletion i) s = .next u.pickAll ∧
        u = { closed with cabin := { s.cabin with cabins := u.cabin.cabins }, plate := u.plate } ∧
        (∀ d, u.cabinAt d = if d = c then some { x with
            deliveredGen := f.gen, retries := 0,
            plateState := if x.contentGen = f.gen then .current else x.plateState } else s.cabinAt d) ∧
        u.plate = if x.contentGen = f.gen then closed.plate
          else (closed.setTrunk p.trunk ((closed.trunk p.trunk).joinTail s.plateClassNow c)).plate) ∧
      (∃ u : State, exec (.writeRefused i) s = .next u.pickAll ∧
        u = { closed with
          cabin := { s.cabin with cabins := u.cabin.cabins }, plate := u.plate,
          port := { s.port with events := u.port.events } } ∧
        (∀ d, u.cabinAt d = if d = c then some { x with
            retries := x.retries + 1,
            plateState := if x.retries + 1 < 3 then x.plateState else .failed } else s.cabinAt d) ∧
        u.port.events = (if x.retries + 1 < 3 then s.port.events else s.port.events ||| 0x0001#16) ∧
        u.plate = if x.retries + 1 < 3
          then (closed.setTrunk p.trunk ((closed.trunk p.trunk).joinTail s.plateClassNow c)).plate
          else closed.plate)) ∧
    (∀ a f k, tr.state = .talking → tr.work = some (.write none a f k) →
      exec (.writeCompletion i) s = .next closed.pickAll ∧ exec (.writeRefused i) s = .next closed.pickAll)

/-- A broadcast completes (R99, R100), and a survey step ends (R103, R104, R105, R191), with the revival of a FAILED
plate (R104). Free: whether a REFUSE in the command slot revives (log 10), and which of two cases of R191 a news
byte falls under, kind 0 with a reserved bit (log 32) or kind 3 with one and its tag cut short (log 34). What a
hold told of the address is read off R104 (log 11), and the ACCEPTs are counted in a record of the model (log 36). -/
def Obligations.BroadcastsCompleteAndSurveysEnd : Prop :=
  (∀ (u : State) (i : Fin 16) (a : Nat) (parts : List ReportPart), u.addReport i a parts =
    { u with plate := { u.plate with
      inbound := u.plate.inbound ++ parts.map fun q => { trunk := i, address := a, part := q } } }) ∧
  (∀ (u : State) (i : Fin 16) (a : Nat), Table.wf u.cabin.cabins = true →
    (∀ c x, u.cabinByPlate { trunk := i, address := a } = some (c, x) → x.plateState = .failed →
      ∃ v, u.surveyRevives i a = v ∧
        v = { u.setTrunk i ((u.trunk i).joinTail
                (if u.muster.state = .drill ∨ u.muster.state = .alarm then .urgent else .ordinary) c) with
              cabin := { u.cabin with cabins := v.cabin.cabins } } ∧
        ∀ k, v.cabinAt k = if k = c then some { x with plateState := .pending, retries := 0 } else u.cabinAt k) ∧
    ((∀ c x, u.cabinByPlate { trunk := i, address := a } = some (c, x) → x.plateState ≠ .failed) →
      u.surveyRevives i a = u)) ∧
  ∀ (s : State) (i : Fin 16) (how : SurveyEnd), TrunkOk (s.trunk i) →
    let tr := s.trunk i
    (∀ m, tr.state = .talking → tr.work = some (.broadcast m) →
      ∃ t, exec (.broadcastCompletion i) s = .next t ∧
        let u := (s.setTrunk i { tr with state := .idle, work := none, believed := some m }).pickAll
        t = { u with muster := { s.muster with completion := t.muster.completion } } ∧
        (t.muster.completion = true ↔ s.muster.completion = true ∨
          (m = .normal ∧ s.muster.state = .standDown ∧ u.standDownHolds = true))) ∧
    (∀ a acc, tr.state = .talking → tr.work = some (.survey a acc) →
      ∃ parts cursor revived accepts, exec (.surveyStepEnd i how) s =
          .next (let u := (s.setTrunk i { tr with
              state := .idle, work := none, surveyDue := false, cursor := cursor,
              newsAccepts := accepts }).addReport i a parts
            if revived then u.surveyRevives i a else u).pickAll ∧
        let on := if a < 250 then a + 1 else 1
        (how = .refusedAddress → parts = [] ∧ cursor = on ∧ revived = acc ∧ accepts = 0) ∧
        (how = .refusedCommand → parts = [] ∧ cursor = on ∧ accepts = 0 ∧
          revived = (acc || Config.commandRefuseRevives)) ∧
        ∀ item crew, how = .news item crew → revived = true ∧ accepts = 1 + crew.length ∧
          let kind := item.toNat / 32
          let value := item.toNat % 4
          let reserved := item.getLsbD 3 || item.getLsbD 2
          let kept := if item.getLsbD 4 then a else on
          (kind = 0 → reserved = false → parts = [] ∧ cursor = on) ∧
          (kind = 0 → reserved = true → parts = [] ∧
            cursor = if Config.reservedSpoilsEmpty then kept else on) ∧
          (5 ≤ kind ∨ (kind ≠ 0 ∧ kind ≠ 3 ∧ reserved = true) ∨ (kind = 1 ∧ value = 3) →
            parts = [] ∧ cursor = kept) ∧
          (kind = 3 → reserved = true → parts = [] ∧
            cursor = if crew.length < 2 ∧ Config.reservedSpoilsCutShort = false then on else kept) ∧
          (kind = 3 → reserved = false → crew.length < 2 → parts = [] ∧ cursor = on) ∧
          (1 ≤ kind → kind ≤ 4 → reserved = false → (kind = 3 → 2 ≤ crew.length) → cursor = kept) ∧
          (kind = 1 → reserved = false → parts = match value with
            | 0 => [.privacy .unasked]
            | 1 => [.privacy .doNotDisturb]
            | 2 => [.privacy .makeUpRoom]
            | _ => []) ∧
          (kind = 2 → reserved = false → parts = [.serviceCall]) ∧
          (∀ hi lo, kind = 3 → reserved = false → crew = [hi, lo] →
            parts = [.sweepClear, .crewTag (hi ++ lo)]) ∧
          (kind = 4 → reserved = false → parts = [.toolWrite]))

/-- CONFIG_SET of the trunk enables (R85, R89): every trunk named anew goes to SETTLING, every trunk left out is
disabled with its queues, cursor and believed mode kept, and a write in flight goes back to the head of its class
(R96). A survey step that a disable ends revives the FAILED plate that ACCEPTed its address (R104); whether it has, a
hold tells, and otherwise it is free (log 11). A disable has the stand-down condition judged (R100, R166). The levels
of the wires that the part lets go are the model's choice (log 12). -/
def Obligations.TrunksAreEnabledAndDisabled : Prop :=
  ∀ (s : State) (tag hi lo : Byte), s.loading = false → TablesWf s → TrunkInv s →
    let named (i : Fin 16) : Bool := (rd16 hi lo).testBit i.val
    let proper := s.muster.state = .drill ∨ s.muster.state = .alarm
    let revived (i : Fin 16) : Option (Nat × Cabin) := match (s.trunk i).work with
      | some (.survey a acc) =>
        if acc || (decide ((s.trunk i).state = .talking) && Config.addressAccepted s.fresh i.val) then
          (s.cabinByPlate { trunk := i, address := a }).filter fun r => decide (r.2.plateState = .failed)
        else none
      | _ => none
    ∃ t, exec (.configSet tag [0#8, 0x20#8, hi, lo]) s = .next t ∧
      (∀ i, named i = true → (s.trunk i).enabled = false → t.trunk i = { s.trunk i with
        enabled := true, state := .settling, believed := none, surveyDue := false, surveyTimer := some 0,
        guardTimer := if (s.trunk i).bothHigh then some 0 else none,
        stuckTimer := if (s.trunk i).bothHigh then none else some 0 }) ∧
      (∀ i, named i = false → (s.trunk i).enabled = true →
        (t.trunk i).state = .disabled ∧ (t.trunk i).enabled = false ∧ (t.trunk i).work = none ∧
        (t.trunk i).surveyDue = false ∧ (t.trunk i).surveyTimer = none ∧ (t.trunk i).guardTimer = none ∧
        (t.trunk i).holdTimer = none ∧ (t.trunk i).stuckTimer = none ∧
        (t.trunk i).cursor = (s.trunk i).cursor ∧ (t.trunk i).believed = (s.trunk i).believed ∧
        (t.trunk i).newsAccepts = (s.trunk i).newsAccepts ∧
        (t.trunk i).clockHigh = ((s.trunk i).clockHigh || decide ((s.trunk i).state = .talking)) ∧
        (t.trunk i).dataHigh = ((s.trunk i).dataHigh || decide ((s.trunk i).state = .talking) ||
          decide ((s.trunk i).state = .held)) ∧
        (∀ c a f k, (s.trunk i).work = some (.write (some c) a f k) →
          (t.trunk i).urgent = (if k = .urgent then c :: (s.trunk i).urgent else (s.trunk i).urgent) ∧
          (t.trunk i).ordinary = if k = .urgent then (s.trunk i).ordinary else c :: (s.trunk i).ordinary) ∧
        (∀ c x, revived i = some (c, x) → t.cabinAt c = some { x with plateState := .pending, retries := 0 } ∧
          (t.trunk i).urgent = (if proper then (s.trunk i).urgent ++ [c] else (s.trunk i).urgent) ∧
          (t.trunk i).ordinary = if proper then (s.trunk i).ordinary else (s.trunk i).ordinary ++ [c]) ∧
        ((∀ c a f k, (s.trunk i).work ≠ some (.write (some c) a f k)) → revived i = none →
          (t.trunk i).urgent = (s.trunk i).urgent ∧ (t.trunk i).ordinary = (s.trunk i).ordinary)) ∧
      t.cabin.service = s.cabin.service ∧
      (∀ c x, s.cabinAt c = some x →
        (∀ i y, named i = false → (s.trunk i).enabled = true → revived i ≠ some (c, y)) → t.cabinAt c = some x) ∧
      (∀ i, named i = (s.trunk i).enabled → (t.trunk i).enabled = (s.trunk i).enabled) ∧
      t.graph = s.graph ∧ t.route = s.route ∧ t.target = s.target ∧ t.programme = s.programme ∧
      t.screen = s.screen ∧ t.plate.inbound = s.plate.inbound ∧
      t.muster = { s.muster with completion := t.muster.completion } ∧
      (t.muster.completion = true ↔ s.muster.completion = true ∨
        ((∃ i, named i = false ∧ (s.trunk i).enabled = true) ∧ s.muster.state = .standDown ∧
          t.standDownHolds = true))

/-! ### The daily programme (06) -/

/-- The judgement of an entry at a minute (R112); CLOCK_SET, CLOCK_GET and the second timer (R121 to R125). -/
def Obligations.TheShipClockJudgesTheProgramme : Prop :=
  (∀ (e : Entry) (now linger : Nat) (m : MusterState),
    (e.state ≠ .cancelled → now < e.start → e.judge now linger m = some .scheduled) ∧
    (e.state ≠ .cancelled → e.start ≤ now → now < e.finish →
      e.judge now linger m = some (if m = .normal then .running else .suspended)) ∧
    (e.state ≠ .cancelled → e.start ≤ now → e.finish ≤ now →
      e.judge now linger m = if e.finish + linger ≤ now then none else some .ended) ∧
    (e.state = .cancelled → now < e.start → e.judge now linger m = some .cancelled) ∧
    (e.state = .cancelled → e.start ≤ now → e.judge now linger m = none)) ∧
  (∀ (s : State) (tag m2 m1 m0 sec : Byte), TablesWf s → EntryInv s →
    let minute := rd24 m2 m1 m0
    let judged (e : Entry) : Option EntryState := e.judge minute s.programme.linger s.muster.state
    let onlyClock (t : State) : Prop :=
      t = { s with target := { s.target with targets := t.target.targets }, screen := t.screen,
                   programme := { s.programme with
                     entries := t.programme.entries, clock := t.programme.clock, secondTimer := some 0 } }
    (s.loading = false → 1048575 < minute ∨ 59 < sec.toNat →
      exec (.clockSet tag [m2, m1, m0, sec]) s = .next (s.answering s tag .badField [])) ∧
    (s.loading = false → minute ≤ 1048575 → sec.toNat ≤ 59 →
      ∃ t, exec (.clockSet tag [m2, m1, m0, sec]) s = .next (s.answering t tag .done
          (u16 (s.programme.entries.filter fun r => decide (judged r.2 ≠ some r.2.state)).length ++
            u16 (s.programme.entries.filter fun r => (judged r.2).isNone).length)) ∧
        onlyClock t ∧ t.programme.clock = some { minute, second := sec.toNat } ∧ JudgedAt s t minute) ∧
    exec (.clockGet tag []) s = .next (s.answering s tag .done
      ((match s.programme.clock with
        | none => [0#8, 0xFF#8, 0xFF#8, 0xFF#8, 0xFF#8]
        | some c => [1#8] ++ u24 c.minute ++ u8 c.second) ++ u8 s.programme.linger ++ u16 s.programme.horizon)) ∧
    (∀ c k, s.programme.clock = some c → s.programme.secondTimer = some k →
      ∃ t, exec .secondTimerExpiry s = .next t ∧ onlyClock t ∧
        (c.second < 59 → t.programme.clock = some { c with second := c.second + 1 } ∧
          t.programme.entries = s.programme.entries ∧ t.target = s.target ∧ t.screen = s.screen) ∧
        (c.second = 59 → c.minute < 1048575 →
          t.programme.clock = some { minute := c.minute + 1, second := 0 } ∧ JudgedAt s t (c.minute + 1)) ∧
        (c.second = 59 → c.minute = 1048575 → t.programme.clock = some c ∧
          t.programme.entries = s.programme.entries ∧ t.target = s.target ∧ t.screen = s.screen)))

/-- EVENT_PUT (R113, R114, R120): the checks in their order, then the entry, its state and its place. -/
def Obligations.EventPutChecksAndCreates : Prop :=
  ∀ (s : State) (tag : Byte) (body : List Byte) (b : EntryBody) (fill : Fill) (slot : Nat), s.loading = false →
    TablesWf s → EntryInv s → parseEntry body = some b →
    let i := Instr.eventPut tag body
    let inRange := 1 ≤ b.id ∧ b.start ≤ 1048574 ∧ b.finish ≤ 1048575 ∧ b.venue ≤ 63 ∧ 1 ≤ b.title ∧
      b.category ≤ 15 ∧ b.fill ≤ 2
    let venue := (s.targetAt b.venue).any fun x => x.station.isNone
    let refusal : Option (Result × List Byte) :=
      if ¬inRange then some (.badField, [])
      else if ¬(b.start < b.finish ∧ b.finish ≤ b.start + 1440) then some (.badField, [11#8])
      else if s.programme.clock.any (fun c => decide (b.finish + s.programme.linger ≤ c.minute)) then
        some (.badField, [12#8])
      else if venue = false then some (.badField, [13#8])
      else if (s.entryById b.id).isSome then some (.exists_, [])
      else if (List.range 256).all (fun k => (s.entryAt k).isSome) then some (.full, [])
      else none
    let state : EntryState := match s.programme.clock with
      | none => .scheduled
      | some c => if c.minute < b.start then .scheduled
        else if c.minute < b.finish then (if s.muster.state = .normal then .running else .suspended)
        else .ended
    let e : Entry := { id := b.id, start := b.start, finish := b.finish, venue := b.venue, title := b.title,
                       category := b.category, fill, moved := false, state }
    (∀ r, refusal = some r → exec i s = .next (s.answering s tag r.1 r.2)) ∧
    (refusal = none → fill.code = b.fill → slot < 256 → s.entryAt slot = none →
      (∀ k, k < slot → (s.entryAt k).isSome) →
      ∃ t, exec i s = .next (s.answering t tag .done ([0#8] ++ u8 slot ++ u8 state.code ++ u16 (s.placeOf e))) ∧
        t = { s with target := { s.target with targets := t.target.targets },
                     programme := { s.programme with entries := t.programme.entries }, screen := t.screen } ∧
        (∀ k, t.entryAt k = if k = slot then some e else s.entryAt k) ∧
        (∀ k, t.targetAt k = (s.targetAt k).map fun x =>
          if k = b.venue then { x with refs := x.refs + 1 } else x) ∧
        MarkedBy s t (venueCauses s b.venue))

/-- EVENT_AMEND (R115, R116, R120). -/
def Obligations.EventAmendReplacesTheFieldsGiven : Prop :=
  ∀ (s : State) (tag : Byte) (body : List Byte) (b : EntryAmendBody), s.loading = false →
    TablesWf s → EntryInv s → parseEntryAmend body = some b →
    let i := Instr.eventAmend tag body
    let inRange := 1 ≤ b.id ∧ b.mask < 128 ∧ b.start.all (fun n => decide (n ≤ 1048574)) = true ∧
      b.finish.all (fun n => decide (n ≤ 1048575)) = true ∧ b.venue.all (fun n => decide (n ≤ 63)) = true ∧
      b.title.all (fun n => decide (1 ≤ n)) = true ∧ b.category.all (fun n => decide (n ≤ 15)) = true ∧
      b.fill.all (fun n => decide (n ≤ 2)) = true ∧ b.moved.all (fun n => decide (n = 0)) = true
    (¬inRange → exec i s = .next (s.answering s tag .badField [])) ∧
    (inRange → s.entryById b.id = none → exec i s = .next (s.answering s tag .notFound [])) ∧
    ∀ slot old, inRange → s.entryById b.id = some (slot, old) →
      let start := b.start.getD old.start
      let finish := b.finish.getD old.finish
      let venue := b.venue.getD old.venue
      let gone (now : Nat) : Bool :=
        if old.state = .cancelled then decide (start ≤ now) else decide (finish + s.programme.linger ≤ now)
      let refusal : Option (List Byte) :=
        if ¬(start < finish ∧ finish ≤ start + 1440) then some [11#8]
        else if (b.start.isSome ∨ b.finish.isSome) ∧ s.programme.clock.any (fun c => gone c.minute) = true then
          some [12#8]
        else if b.venue.any (fun v => !(s.targetAt v).any fun x => x.station.isNone) then some [13#8]
        else none
      let sameTimes := old.start = start ∧ old.finish = finish
      let state : EntryState := match s.programme.clock with
        | none => old.state
        | some c => if sameTimes ∨ old.state = .cancelled then old.state
          else if c.minute < start then .scheduled
          else if c.minute < finish then (if s.muster.state = .normal then .running else .suspended)
          else .ended
      let new : Entry := { old with
        start := start, finish := finish, venue := venue,
        title := b.title.getD old.title,
        category := b.category.getD old.category,
        fill := (b.fill.bind Fill.ofCode).getD old.fill,
        moved := if venue ≠ old.venue then true else if b.moved.isSome then false else old.moved,
        state := state }
      (∀ r, refusal = some r → exec i s = .next (s.answering s tag .badField r)) ∧
      (refusal = none →
        ∃ t, exec i s = .next (s.answering t tag .done ([1#8] ++ u8 state.code ++ u16 (t.placeOf new) ++
            yesNo (decide (state ≠ old.state)))) ∧
          t = { s with target := { s.target with targets := t.target.targets },
                       programme := { s.programme with entries := t.programme.entries }, screen := t.screen } ∧
          (∀ k, t.entryAt k = if k = slot then some new else s.entryAt k) ∧
          (∀ k, t.targetAt k = (s.targetAt k).map fun x => { x with refs := x.refs -
            (if k = old.venue ∧ venue ≠ old.venue then 1 else 0) +
            (if k = venue ∧ venue ≠ old.venue then 1 else 0) }) ∧
          (new = old → t.screen = s.screen) ∧
          (new ≠ old → MarkedBy s t ((venueCauses s old.venue).or (venueCauses s venue))))

/-- EVENT_CANCEL, EVENT_RETIRE and EVENT_GET (R117, R118, R119). -/
def Obligations.EventCancelRetireAndGet : Prop :=
  ∀ (s : State) (tag hi lo : Byte), TablesWf s → EntryInv s →
    let id := rd16 hi lo
    let taken := s.loading = false
    let dropped (slot : Nat) (e : Entry) (t : State) : Prop :=
      t = { s with target := { s.target with targets := t.target.targets },
                   programme := { s.programme with entries := t.programme.entries }, screen := t.screen } ∧
      (∀ k, t.entryAt k = if k = slot then none else s.entryAt k) ∧
      (∀ k, t.targetAt k = (s.targetAt k).map fun x =>
        if k = e.venue then { x with refs := x.refs - 1 } else x) ∧
      MarkedBy s t (venueCauses s e.venue)
    (id = 0 → (taken → exec (.eventCancel tag [hi, lo]) s = .next (s.answering s tag .badField []) ∧
        exec (.eventRetire tag [hi, lo]) s = .next (s.answering s tag .badField [])) ∧
      exec (.eventGet tag [hi, lo]) s = .next (s.answering s tag .badField [])) ∧
    (1 ≤ id → s.entryById id = none →
      (taken → exec (.eventCancel tag [hi, lo]) s = .next (s.answering s tag .notFound []) ∧
        exec (.eventRetire tag [hi, lo]) s = .next (s.answering s tag .notFound [])) ∧
      exec (.eventGet tag [hi, lo]) s = .next (s.answering s tag .notFound [])) ∧
    ∀ slot e, 1 ≤ id → s.entryById id = some (slot, e) →
      (taken → e.state = .scheduled →
        ∃ t, exec (.eventCancel tag [hi, lo]) s = .next (s.answering t tag .done [5#8]) ∧
          t = { s with programme := { s.programme with entries := t.programme.entries }, screen := t.screen } ∧
          (∀ k, t.entryAt k = if k = slot then some { e with state := .cancelled } else s.entryAt k) ∧
          MarkedBy s t (venueCauses s e.venue)) ∧
      (taken → e.state = .cancelled → exec (.eventCancel tag [hi, lo]) s = .next (s.answering s tag .done [2#8])) ∧
      (taken → e.state = .running ∨ e.state = .suspended →
        ∃ t, exec (.eventCancel tag [hi, lo]) s = .next (s.answering t tag .done [4#8]) ∧ dropped slot e t) ∧
      (taken → e.state = .ended →
        exec (.eventCancel tag [hi, lo]) s = .next (s.answering s tag .refusedState [18#8])) ∧
      (taken → ∃ t, exec (.eventRetire tag [hi, lo]) s = .next (s.answering t tag .done (u8 e.state.code)) ∧
        dropped slot e t) ∧
      exec (.eventGet tag [hi, lo]) s = .next (s.answering s tag .done
        (u16 e.id ++ u24 e.start ++ u24 e.finish ++ u8 e.venue ++ u16 e.title ++ u8 e.category ++
          u8 e.fill.code ++ u8 slot ++ u8 e.state.code ++ yesNo e.moved ++ u16 (s.placeOf e)))

/-! ### Screens and screen links (07) -/

/-- SCREEN_PUT (R5, R50, R130, R131, R133): the checks in their order, then the record with its starting
values. That bits 2 to 7 of the flags byte and bits 6 and 7 of the policies byte are out of range is the model's
choice (log 39). -/
def Obligations.ScreenPutChecksAndCreates : Prop :=
  ∀ (s : State) (tag : Byte) (body : List Byte) (b : ScreenBody) (facing : Facing) (scope : Scope),
    s.loading = false → TablesWf s → parseScreen body = some b →
    let i := Instr.screenPut tag body
    let n := 128 * b.link + b.address - 1
    let inRange := b.link ≤ 3 ∧ 1 ≤ b.address ∧ b.address ≤ 128 ∧ b.node ≤ 1023 ∧
      (b.facing = 0 ∨ b.facing = 2 ∨ b.facing = 4 ∨ b.facing = 6) ∧ b.flags ≤ 3 ∧ b.scope ≤ 3 ∧
      (b.override = 0xFF ∨ b.override ≤ 63) ∧ b.policies ≤ 63 ∧
      (1 ≤ b.languages.length ∧ b.languages.length ≤ 4 ∧ ∀ x ∈ b.languages, x ≤ 15) ∧
      b.shown.length ≤ 8 ∧ ∀ x ∈ b.shown, x ≤ 63
    let refusal : Option (Result × List Byte) :=
      if ¬(b.shown.Nodup ∧ b.languages.Nodup) then some (.badField, [10#8])
      else if s.node b.node = none then some (.badField, [4#8])
      else match b.shown.find? fun k => (s.targetAt k).isNone with
        | some k => some (.badField, [9#8] ++ u8 k)
        | none =>
          if b.override ≠ 0xFF ∧ s.stationAt b.override = none then some (.badField, [3#8])
          else if (s.screenAt n).isSome then some (.exists_, [])
          else none
    let slot (place : Nat) (default : Policy) : Slot :=
      { policy := match b.policies / 4 ^ place % 4 with
          | 0 => .off
          | 1 => .once
          | 2 => .refreshed
          | _ => default
        gen := 0#16, accepted := some 0#16, lastSent := none }
    let new : Screen :=
      { node := b.node, facing, stepFree := b.flags.testBit 0, shown := b.shown, scope,
        override := if b.override = 0xFF then none else some b.override, languages := b.languages,
        notice := b.notice, mode := if b.flags.testBit 1 then .dark else .normal, attach := .absent,
        descValid := false, descriptor := none, misses := 0, lastAddressed := none,
        routeSlot := slot 0 .refreshed, programmeSlot := slot 1 .refreshed, noticeSlot := slot 2 .off,
        musterSlot := { policy := .refreshed, gen := 0#16, accepted := some 0#16, lastSent := none } }
    (¬inRange → exec i s = .next (s.answering s tag .badField [])) ∧
    (∀ r, inRange → refusal = some r → exec i s = .next (s.answering s tag r.1 r.2)) ∧
    (inRange → refusal = none → facing.code = b.facing → scope.code = b.scope →
      ∃ t, exec i s = .next (s.answering t tag .done ([0#8] ++ u16 n)) ∧
        t = { s with graph := { s.graph with nodes := t.graph.nodes },
                     target := { s.target with targets := t.target.targets },
                     screen := { s.screen with screens := t.screen.screens } } ∧
        (∀ k, t.screenAt k = if k = n then some new else s.screenAt k) ∧
        (∀ k, t.node k = (s.node k).map fun x => if k = b.node then { x with refs := x.refs + 1 } else x) ∧
        ∀ k, t.targetAt k = (s.targetAt k).map fun x => { x with refs := x.refs +
          (if k ∈ b.shown then 1 else 0) + (if k = b.override ∧ b.override ≠ 0xFF then 1 else 0) })

/-- SCREEN_AMEND (R5, R50, R131, R134): the checks, the model's place for NOT_FOUND among them (log 14) and its range
of the flags and policies bytes, whose bits without a meaning are out of range (the model's choice, log 39), then the
fields given replace those held, the claims move, and the slots that the change reaches are raised once and queued.
NOTICE_SET (R137): one screen, the screens of a deck, or every screen takes the notice and the policy, and the
answer counts those that this changes. -/
def Obligations.ScreenAmendAndNoticeSet : Prop :=
  (∀ (s : State) (tag : Byte) (body : List Byte) (b : ScreenAmendBody), s.loading = false → TablesWf s →
    TargetInv s → parseScreenAmend body = some b →
    let i := Instr.screenAmend tag body
    let n := 128 * b.link + b.address - 1
    let inRange := b.link ≤ 3 ∧ 1 ≤ b.address ∧ b.address ≤ 128 ∧ b.mask ≤ 511 ∧
      (∀ x, b.node = some x → x ≤ 1023) ∧ (∀ x, b.facing = some x → x = 0 ∨ x = 2 ∨ x = 4 ∨ x = 6) ∧
      (∀ x, b.flags = some x → x ≤ 3) ∧ (∀ x, b.scope = some x → x ≤ 3) ∧
      (∀ x, b.override = some x → x = 0xFF ∨ x ≤ 63) ∧ (∀ x, b.policies = some x → x ≤ 63) ∧
      (∀ l, b.languages = some l → 1 ≤ l.length ∧ l.length ≤ 4 ∧ ∀ x ∈ l, x ≤ 15) ∧
      ∀ l, b.shown = some l → l.length ≤ 8 ∧ ∀ x ∈ l, x ≤ 63
    let refusal : Option (List Byte) :=
      if ¬((b.shown.getD []).Nodup ∧ (b.languages.getD []).Nodup) then some [10#8]
      else if b.node.any fun x => (s.node x).isNone then some [4#8]
      else match (b.shown.getD []).find? fun k => (s.targetAt k).isNone with
        | some k => some ([9#8] ++ u8 k)
        | none =>
          if b.override.any fun k => decide (k ≠ 0xFF) && (s.stationAt k).isNone then some [3#8] else none
    (¬inRange → exec i s = .next (s.answering s tag .badField [])) ∧
    (inRange → s.screenAt n = none → exec i s = .next (s.answering s tag .notFound [])) ∧
    (∀ r, inRange → (s.screenAt n).isSome → refusal = some r →
      exec i s = .next (s.answering s tag .badField r)) ∧
    (∀ old new, inRange → s.screenAt n = some old → refusal = none → b.Gives old new →
      ∃ t after raised, exec i s = .next (s.answering t tag .done ([1#8] ++ u8 raised)) ∧
        t = { s with graph := { s.graph with nodes := t.graph.nodes },
                     target := { s.target with targets := t.target.targets }, screen := t.screen } ∧
        ScreenReplaced old new after ∧
        (∀ l : List SlotKind, l.Nodup → (∀ k, k ∈ l ↔ slotRaised old new k) → raised = l.length) ∧
        (∀ k, t.screenAt k = if k = n then some after else s.screenAt k) ∧
        (∀ k, t.node k = (s.node k).map fun x => { x with refs := x.refs -
          (if k = old.node ∧ old.node ≠ new.node then 1 else 0) +
          (if k = new.node ∧ old.node ≠ new.node then 1 else 0) }) ∧
        (∀ k, t.targetAt k = (s.targetAt k).map fun x => { x with refs := x.refs -
          ((if k ∈ old.shown then 1 else 0) + (if old.override = some k then 1 else 0)) +
          ((if k ∈ new.shown then 1 else 0) + (if new.override = some k then 1 else 0)) }) ∧
        QueuesGrow s t (fun r => r.screen = n ∧ slotTouched old new r.kind))) ∧
  (∀ (s : State) (tag reach link address deck hi lo policy : Byte) (p : Policy), s.loading = false →
    Table.wf s.screen.screens = true →
    let i := Instr.noticeSet tag [reach, link, address, deck, hi, lo, policy]
    let one := 128 * link.toNat + address.toNat - 1
    let inRange := policy.toNat ≤ 2 ∧
      ((reach = 0#8 ∧ link.toNat ≤ 3 ∧ 1 ≤ address.toNat ∧ address.toNat ≤ 128) ∨
        (reach = 1#8 ∧ deck.toNat ≤ 19) ∨ reach = 2#8)
    let reached (n : Nat) (x : Screen) : Bool :=
      (decide (reach = 0#8) && decide (n = one)) ||
      (decide (reach = 1#8) && (s.node x.node).any fun y => decide (y.deck = deck.toNat)) ||
      decide (reach = 2#8)
    let given (x : Screen) : Screen :=
      { x with notice := rd16 hi lo, noticeSlot := { x.noticeSlot with policy := p } }
    (¬inRange → exec i s = .next (s.answering s tag .badField [])) ∧
    (inRange → reach = 0#8 → s.screenAt one = none → exec i s = .next (s.answering s tag .notFound [])) ∧
    (inRange → (reach = 0#8 → (s.screenAt one).isSome) → p.code = policy.toNat →
      ∃ t, exec i s = .next (s.answering t tag .done
          (u16 (s.screen.screens.filter fun r => reached r.1 r.2 && decide (given r.2 ≠ r.2)).length)) ∧
        t = { s with screen := t.screen } ∧
        (∀ n, match s.screenAt n with
          | none => t.screenAt n = none
          | some x => ∃ y, t.screenAt n = some y ∧
              (reached n x = false → y = x) ∧ (reached n x = true → ScreenReplaced x (given x) y)) ∧
        QueuesGrow s t fun r => ∃ x, s.screenAt r.screen = some x ∧ reached r.screen x = true ∧
          slotTouched x (given x) r.kind))

/-- SCREEN_RETIRE (R5, R50, R135) and SCREEN_GET (R136; 10 section 10.3), which answers in every port state.
Bytes of the answer without a value are free (log 6, 7). -/
def Obligations.ScreenRetireAndGet : Prop :=
  ∀ (s : State) (tag link address : Byte), TablesWf s → TargetInv s →
    let n := 128 * link.toNat + address.toNat - 1
    let inRange := link.toNat ≤ 3 ∧ 1 ≤ address.toNat ∧ address.toNat ≤ 128
    let retire := Instr.screenRetire tag [link, address]
    let get := Instr.screenGet tag [link, address]
    (¬inRange → (s.loading = false → exec retire s = .next (s.answering s tag .badField [])) ∧
      exec get s = .next (s.answering s tag .badField [])) ∧
    (inRange → s.screenAt n = none →
      (s.loading = false → exec retire s = .next (s.answering s tag .notFound [])) ∧
      exec get s = .next (s.answering s tag .notFound [])) ∧
    ∀ (x : Screen) (l : Fin 4), inRange → s.screenAt n = some x → l.val = link.toNat →
      (s.loading = false →
        ∃ t, exec retire s = .next (s.answering t tag .done []) ∧
          t = { s with graph := { s.graph with nodes := t.graph.nodes },
                       target := { s.target with targets := t.target.targets }, screen := t.screen,
                       muster := { s.muster with completion := t.muster.completion } } ∧
          (∀ k, t.screenAt k = if k = n then none else s.screenAt k) ∧
          (∀ k, t.node k = (s.node k).map fun y => if k = x.node then { y with refs := y.refs - 1 } else y) ∧
          (∀ k, t.targetAt k = (s.targetAt k).map fun y => { y with refs := y.refs -
            ((if k ∈ x.shown then 1 else 0) + (if x.override = some k then 1 else 0)) }) ∧
          (∀ j, t.link j = if j = l then { s.link l with
              musterQueue := (s.link l).musterQueue.filter fun q => decide (q.screen ≠ n)
              dirtyQueue := (s.link l).dirtyQueue.filter fun q => decide (q.screen ≠ n)
              exchange := (s.link l).exchange.map fun e =>
                if e.screen = n then { e with detached := true } else e } else s.link j) ∧
          (t.muster.completion = true ↔ s.muster.completion = true ∨
            (x.attach = .present ∧ s.muster.state = .standDown ∧ t.standDownHolds = true))) ∧
      ∃ descriptor addressed : List Byte, ∃ slots : SlotKind → List Byte,
        exec get s = .next (s.answering s tag .done
          (u8 l.val ++ u8 address.toNat ++ u16 x.node ++ u8 x.facing.code ++
            u8 ((if x.stepFree then 1 else 0) + (if x.mode = .dark then 2 else 0)) ++ u8 x.scope.code ++
            optByte x.override ++ u16 x.notice ++
            u8 (x.routeSlot.policy.code + 4 * x.programmeSlot.policy.code + 16 * x.noticeSlot.policy.code) ++
            u8 x.languages.length ++ x.languages.flatMap u8 ++ u8 x.shown.length ++ x.shown.flatMap u8 ++
            u8 x.attach.code ++ yesNo x.descValid ++ descriptor ++ u8 x.misses ++ addressed ++
            slots .route ++ slots .programme ++ slots .notice ++ slots .muster)) ∧
        descriptor.length = 4 ∧
        (∀ d, x.descriptor = some d → descriptor = u8 d.lines ++ u16 d.rendered.toNat ++ u8 d.panelClass.code) ∧
        (∀ p, x.lastAddressed = some p → addressed = [1#8] ++ u16 p.toNat) ∧
        (x.lastAddressed = none → addressed.length = 3 ∧ addressed.head? = some 0#8) ∧
        ∀ k, ∃ accepted place : List Byte,
          slots k = u16 (x.slot k).gen.toNat ++ accepted ++
            yesNo (decide ((x.slot k).accepted ≠ some (x.slot k).gen)) ++ place ∧
          (∀ g, (x.slot k).accepted = some g → accepted = [1#8] ++ u16 g.toNat) ∧
          ((x.slot k).accepted = none → accepted.length = 3 ∧ accepted.head? = some 0#8) ∧
          place.length = 4 ∧
          let r : SlotRef := { screen := n, kind := k }
          let flying := (s.link l).sending r
          (flying = true → place.head? = some 2#8) ∧
          (∀ pre post, flying = false → (s.link l).musterQueue = pre ++ r :: post → r ∉ pre →
            place = [1#8, 0#8] ++ u16 (pre.length + 1)) ∧
          (∀ pre post, flying = false → r ∉ (s.link l).musterQueue →
            (s.link l).dirtyQueue = pre ++ r :: post → r ∉ pre →
            place = [1#8, 1#8] ++ u16 (pre.length + 1)) ∧
          (flying = false → (s.link l).queued r = false → place.head? = some 0#8)

/-- What a packet for a slot carries, by effective mode (R138), with the ROUTE lines of R140, the entries and lines
of a PROGRAMME panel (R141) and the choice of the station of a MUSTER panel (R142). The model's choices: a HERE
line carries distance 0 (log 18), a notice of number 0 is a panel (log 25), and what is composed for the slots
that DRILL and ALARM never send is BLANK (log 37). -/
def Obligations.PanelsFollowTheEffectiveMode : Prop :=
  ∀ (s : State) (x : Screen) (d : Descriptor),
    let muster := s.muster.state = .drill ∨ s.muster.state = .alarm
    let profile : Profile := if x.stepFree then .stepFree else .general
    let route (k : Nat) : RouteAnswer := s.lookup { target := k, profile } x.node
    let shows (k : Nat) : Content → Prop := fun c =>
      ∃ y st, s.targetAt k = some y ∧ y.station = some st ∧
        ∃ line, c = .muster line ∧
          line.marker = (if s.muster.state = .drill then .drill else .alarm) ∧
          if (route k).kind = .noRoute ∨ (route k).kind = .hold then
            line = { line with followCrew := true, letter := none, label := 0, kind := .hold, arrow := none,
                               dist := 65535 }
          else
            line = { line with followCrew := false, letter := some st.letter, label := y.label,
                               kind := (route k).kind, arrow := (route k).arrow x.facing, dist := (route k).dist }
    let reaches (k : Nat) (dist : Nat) : Prop := (∃ st, s.stationAt k = some st ∧ st.blocked = false) ∧
      (∃ r, s.mapAt { target := k, profile } = some r ∧ r.state = .current) ∧ (route k).dist = dist ∧ dist < 65535
    let now : Nat := (s.programme.clock.map (·.minute)).getD 0
    let shown (v : Nat) : Prop := x.scope = .all ∨ ∃ y a b, s.targetAt v = some y ∧ s.node y.anchor = some a ∧
      s.node x.node = some b ∧ ((x.scope = .deck ∧ a.deck = b.deck) ∨ (x.scope = .zone ∧ a.zone = b.zone))
    let admitted (e : Entry) : Prop := shown e.venue ∧ (e.state = .running ∨ e.state = .suspended ∨
      e.state = .ended ∨ e.start ≤ now + s.programme.horizon)
    let first (e f : Entry) : Prop := e.start < f.start ∨ (e.start = f.start ∧ e.id < f.id)
    let line (e : Entry) : ProgrammeLine :=
      { title := e.title, category := e.category, start := e.start, minutesToStart := e.start - now,
        mark := match e.state with
          | .suspended => 1
          | .ended => 2
          | .cancelled => 3
          | _ => 0
        fill := e.fill, moved := e.moved, label := ((s.targetAt e.venue).map (·.label)).getD 0,
        kind := (route e.venue).kind, arrow := (route e.venue).arrow x.facing, dist := (route e.venue).dist }
    (∀ v, s.passes x v = true ↔ shown v) ∧
    (muster → s.compose x d .route = .blank ∧ s.compose x d .programme = .blank ∧
      s.compose x d .notice = .blank) ∧
    (¬muster → s.compose x d .muster = .blank) ∧
    (¬muster → x.mode = .dark → ∀ k, s.compose x d k = .blank) ∧
    (¬muster → ∀ k, (x.slot k).policy = .off → s.compose x d k = .blank) ∧
    (¬muster → x.mode = .normal → x.noticeSlot.policy ≠ .off → s.compose x d .notice = .notice x.notice) ∧
    (¬muster → x.mode = .normal → x.routeSlot.policy ≠ .off →
      let lines := x.shown.take (if d.panelClass = .small then min d.lines 3 else d.lines)
      s.compose x d .route = if lines = [] then .blank else .route (lines.map fun k =>
        { label := ((s.targetAt k).map (·.label)).getD 0, letter := (s.stationAt k).map (·.letter),
          kind := (route k).kind, arrow := (route k).arrow x.facing, dist := (route k).dist })) ∧
    (¬muster → x.mode = .normal → x.programmeSlot.policy ≠ .off →
      (s.programme.clock = none ∨ x.scope = .nothing → s.compose x d .programme = .blank) ∧
      (s.programme.clock.isSome → x.scope ≠ .nothing → TablesWf s → EntryInv s →
        ∃ es : List (Nat × Entry), s.compose x d .programme = .programme (es.map fun r => line r.2) ∧
          es.length ≤ min 6 d.lines ∧ es.Pairwise (fun q r => first q.2 r.2) ∧
          (∀ r ∈ es, s.entryAt r.1 = some r.2 ∧ admitted r.2) ∧
          ∀ k e, s.entryAt k = some e → admitted e →
            (k, e) ∈ es ∨ (es.length = min 6 d.lines ∧ ∀ r ∈ es, first r.2 e))) ∧
    (∀ k st, muster → x.override = some k → s.stationAt k = some st → st.blocked = false →
      shows k (s.compose x d .muster)) ∧
    ((∀ k st, x.override = some k → s.stationAt k = some st → st.blocked = true) → muster →
      (∀ k dist, TablesWf s → reaches k dist →
        (∀ j e, reaches j e → dist < e ∨ (dist = e ∧ k ≤ j)) → shows k (s.compose x d .muster)) ∧
      (TablesWf s → (∀ k dist, ¬reaches k dist) → ∃ line, s.compose x d .muster = .muster line ∧
        line = { marker := if s.muster.state = .drill then .drill else .alarm, followCrew := true, letter := none,
                 label := 0, kind := .hold, arrow := none, dist := 65535 }))

/-- What an enabled link with a period under way and no exchange in flight sends (R139, R147, R148): the first of its
five offers, or nothing, and then the period ends. The order of the offers is the rule's, over the worked rows of
section 7.9 (log 33). And the bytes of the packet in flight (R188, R189; 10 section 10.5), read off the exchange in
flight (log 13). -/
def Obligations.ALinkSendsItsFirstOffer : Prop :=
  (∀ (s : State) (l : Fin 4),
    let route (x : RouteLine) : List Byte :=
      u16 x.label ++ u8 (x.letter.getD 0xFF) ++ u8 x.kind.code ++ u8 ((x.arrow.map (·.code)).getD 0xFF) ++ u16 x.dist
    let programme (x : ProgrammeLine) : List Byte :=
      u16 x.title ++ u8 x.category ++ u24 x.start ++ u16 (x.minutesToStart % 65536).toNat ++ u8 x.mark ++
        u8 x.fill.code ++ yesNo x.moved ++ u16 x.label ++ u8 x.kind.code ++
        u8 ((x.arrow.map (·.code)).getD 0xFF) ++ u16 x.dist
    let muster (x : MusterLine) : List Byte :=
      u8 x.marker.code ++ yesNo x.followCrew ++ u8 (x.letter.getD 0xFF) ++ u16 x.label ++ u8 x.kind.code ++
        u8 ((x.arrow.map (·.code)).getD 0xFF) ++ u16 x.dist
    let body (c : Content) : List Byte := match c with
      | .blank => []
      | .route ls => u8 ls.length ++ ls.flatMap route
      | .programme ls => u8 ls.length ++ ls.flatMap programme
      | .notice n => [1#8] ++ u16 n
      | .muster x => [1#8] ++ muster x
    let packet (address : Nat) (kind : Byte) (b : List Byte) : List Byte :=
      withCrc (u8 address ++ [kind] ++ u16 b.length ++ b)
    s.linkSends l = (s.link l).exchange.map fun e =>
      let a := e.screen % 128 + 1
      match e.packet with
      | .discover => packet a 1#8 []
      | .keepalive => packet a 2#8 []
      | .slot k g languages c => packet a (if c = .blank then 4#8 else 3#8)
          (u8 k.code ++ u16 g.toNat ++ u8 languages.length ++ languages.flatMap u8 ++ body c)) ∧
  ∀ (s : State) (l : Fin 4), TablesWf s → (s.link l).enabled = true → (s.link l).underWay = true →
    (s.link l).exchange = none →
    let k := s.link l
    let t := s.runLink l
    let ends := t = s.setLink l { k with underWay := false }
    let proper := s.muster.state = .drill ∨ s.muster.state = .alarm
    let found (x : Screen) : Prop := x.attach = .present ∧ x.descValid = true
    let after (a : Nat) : Nat := if a < 128 then a + 1 else 1
    let address (n : Nat) : Nat := n % 128 + 1
    let sent (n : Nat) (p : Packet) (from' : Link) : Prop := t = { s with screen := t.screen } ∧
      (∀ j, t.link j = if j = l then { from' with
        budget := k.budget - 1
        exchange := some { screen := n, detached := false, packet := p, window := some 0, limit := none } }
        else s.link j) ∧
      ∀ m, t.screenAt m = (s.screenAt m).map fun x => if m = n then match p with
        | .slot kind _ _ _ => { x.modSlot kind (fun y => { y with
            lastSent := some { period := k.period, gen := y.gen } }) with lastAddressed := some k.period }
        | _ => { x with lastAddressed := some k.period } else x
    let slotSent (r : SlotRef) (from' : Link) : Prop := ∀ x d, s.screenAt r.screen = some x →
      x.descriptor = some d → sent r.screen
        (.slot r.kind (x.slot r.kind).gen
          (let shown := x.languages.filter fun n => d.rendered.getLsbD n
           if shown = [] then [0] else shown) (s.compose x d r.kind))
        { from' with musterQueue := k.musterQueue.filter fun q => decide (q ≠ r)
                     dirtyQueue := k.dirtyQueue.filter fun q => decide (q ≠ r) }
    let fresh (r : SlotRef) : Prop := ∃ x, s.screenAt r.screen = some x ∧
      (x.slot r.kind).lastSent ≠ some { period := k.period, gen := (x.slot r.kind).gen }
    let first (q : List SlotRef) (r : SlotRef) : Prop :=
      ∃ pre post, q = pre ++ r :: post ∧ fresh r ∧ ∀ j ∈ pre, ¬fresh j
    let due (r : SlotRef) : Prop := linkOfScreen r.screen = l ∧ ∃ x, s.screenAt r.screen = some x ∧ found x ∧
      (x.slot r.kind).policy = .refreshed ∧ (proper → r.kind = .muster) ∧
      ∀ ls, (x.slot r.kind).lastSent = some ls → ls.period ≠ k.period ∧ ls.period ≠ k.period - 1#16
    let place (r : SlotRef) : Nat := 4 * address r.screen + r.kind.code
    let from' : Nat := 4 * k.refreshAddress + k.refreshSlot.code
    let nextFrom (cursor : Nat) (p : Screen → Prop) (n : Nat) : Prop :=
      (∃ x, s.screenAt n = some x ∧ linkOfScreen n = l ∧ p x) ∧
      ∀ m y, s.screenAt m = some y → linkOfScreen m = l → p y →
        (cursor ≤ address n → cursor ≤ address m → address n ≤ address m) ∧
        (address n < cursor → address m < cursor ∧ address n ≤ address m)
    (k.budget = 0 → ends) ∧
    (∀ n, 0 < k.budget → k.discovered = false → nextFrom k.discoveryCursor (fun x => ¬found x) n →
      sent n .discover { k with discovered := true, discoveryCursor := after (address n) }) ∧
    (0 < k.budget →
      (k.discovered = true ∨ ∀ m y, s.screenAt m = some y → linkOfScreen m = l → found y) →
      (∀ r, first k.musterQueue r → slotSent r k) ∧
      ((∀ r ∈ k.musterQueue, ¬fresh r) →
        (∀ r, ¬proper → first k.dirtyQueue r → slotSent r k) ∧
        (proper ∨ (∀ r ∈ k.dirtyQueue, ¬fresh r) →
          (∀ r, s.refreshOffer l = some r → slotSent r (match r.kind with
            | .route => { k with refreshAddress := address r.screen, refreshSlot := .programme }
            | .programme => { k with refreshAddress := address r.screen, refreshSlot := .notice }
            | .notice => { k with refreshAddress := address r.screen, refreshSlot := .muster }
            | .muster => { k with refreshAddress := after (address r.screen), refreshSlot := .route })) ∧
          (∀ r, s.refreshOffer l = some r → due r ∧ ∀ q, due q →
            (from' ≤ place r → from' ≤ place q → place r ≤ place q) ∧
            (place r < from' → place q < from' ∧ place r ≤ place q)) ∧
          (s.refreshOffer l = none →
            (∀ q, ¬due q) ∧
            (∀ n, nextFrom k.keepaliveCursor (fun x => found x ∧ x.lastAddressed ≠ some k.period) n →
              sent n .keepalive { k with keepaliveCursor := after (address n) }) ∧
            ((∀ m y, s.screenAt m = some y → linkOfScreen m = l → found y →
              y.lastAddressed = some k.period) → ends)))))

/-- Link periods (R146): at an expiry the period number rises and a period begins with a budget of 96; a link that is
enabled begins a period of number 0 at once, its refresh cursor at slot ROUTE (the model's choice, log 28); a link
that is disabled stops, its screens are ABSENT, and the stand-down condition is judged (R152, R166). One request's
enables come last (log 24). -/
def Obligations.LinkPeriodsBeginAndEnd : Prop :=
  ∀ (s : State) (l : Fin 4) (tag v : Byte), TablesWf s →
    let k := s.link l
    let p := k.period + 1#16
    let forgot (y : Slot) : Slot :=
      { y with lastSent := y.lastSent.filter fun ls => decide (ls.period ≠ p) }
    (∀ n, k.timer = some n → ∃ u : State, exec (.periodTimerExpiry l) s = .next (u.runLink l) ∧
      u = { s with screen := u.screen } ∧
      (∀ j, u.link j = if j = l then { k with
        period := p, timer := some 0, budget := 96, underWay := true, discovered := false } else s.link j) ∧
      ∀ m, u.screenAt m = (s.screenAt m).map fun x => if linkOfScreen m = l then { x with
        lastAddressed := x.lastAddressed.filter (fun q => decide (q ≠ p))
        routeSlot := forgot x.routeSlot
        programmeSlot := forgot x.programmeSlot
        noticeSlot := forgot x.noticeSlot
        musterSlot := forgot x.musterSlot } else x) ∧
    (s.loading = false → v.toNat ≤ 15 → ∃ t, exec (.configSet tag [0#8, 1#8, v]) s = .next t ∧
      let named := v.toNat.testBit l.val
      (named = k.enabled → t.link l = k) ∧
      let afresh : Link := { k with
        enabled := true, timer := some 0, period := 0#16, budget := 96, underWay := true,
        discovered := false, discoveryCursor := 1, refreshAddress := 1, refreshSlot := .route,
        keepaliveCursor := 1 }
      (named = true → k.enabled = false → k.exchange = none → k.musterQueue = [] → k.dirtyQueue = [] →
        (∀ m x, s.screenAt m = some x → linkOfScreen m = l → x.attach = .absent) →
        ((∀ m x, s.screenAt m = some x → linkOfScreen m ≠ l) → t.link l = { afresh with underWay := false }) ∧
        ∀ n, (s.screenAt n).isSome → linkOfScreen n = l →
          (∀ m, (s.screenAt m).isSome → linkOfScreen m = l → n ≤ m) →
          t.link l = { afresh with
            budget := 95
            discovered := true
            discoveryCursor := if n % 128 + 1 < 128 then n % 128 + 2 else 1
            exchange := some { screen := n, detached := false, packet := .discover, window := some 0,
                               limit := none } }) ∧
      (named = false → k.enabled = true → t.link l = { k with
        enabled := false, timer := none, exchange := none, underWay := false, musterQueue := [],
        dirtyQueue := [] }) ∧
      (∀ m x, s.screenAt m = some x → linkOfScreen m = l → named = false → k.enabled = true →
        ∃ y, t.screenAt m = some y ∧ y = { x with
          attach := .absent, descValid := false, misses := 0, lastAddressed := none
          routeSlot := { x.routeSlot with lastSent := none }
          programmeSlot := { x.programmeSlot with lastSent := none }
          noticeSlot := { x.noticeSlot with lastSent := none }
          musterSlot := { x.musterSlot with lastSent := none } }) ∧
      t.muster = { s.muster with completion := t.muster.completion } ∧
      (t.muster.completion = true ↔ s.muster.completion = true ∨
        ((∃ j : Fin 4, v.toNat.testBit j.val = false ∧ (s.link j).enabled = true) ∧
          s.muster.state = .standDown ∧ t.standDownHolds = true)) ∧
      t.graph = s.graph ∧ t.route = s.route ∧ t.target = s.target ∧ t.programme = s.programme ∧
      t.port.events = s.port.events)

/-- ACCEPT, REJECT and DESCRIPTOR end the exchange in flight (R132, R148 to R150, R152, R192), and are discarded on a
detached one (R135). They are taken whether or not the answer has been seen to begin (the model's choice, log 23). The
bytes of an answer are one of them, or corrupt where the length or the CRC-16 is wrong (R148, R188, R189, R192; 10
section 10.5); any kind but the three that a screen sends, a kind that the part sends among them, is taken as a REJECT
without the descriptor-changed flag, whatever the length of its body (the model's choice, log 22). -/
def Obligations.AnswersEndTheExchange : Prop :=
  (∀ (l : Fin 4) (address kind hi lo : Byte) (rest : List Byte),
    let read := decodeScreenAnswer l (address :: kind :: hi :: lo :: rest)
    let n := rd16 hi lo
    let body := rest.take n
    let whole := rest.length = n + 2 ∧
      rest.drop n = u16 (crc16 (address :: kind :: hi :: lo :: body)).toNat
    (¬whole → read = .corruptAnswer l) ∧
    (kind = 0x81#8 ∨ kind = 0x82#8 → n ≠ 4 → read = .corruptAnswer l) ∧
    (kind = 0x83#8 → n ≠ 5 → read = .corruptAnswer l) ∧
    (∀ flags slot g1 g0, whole → body = [flags, slot, g1, g0] →
      (kind = 0x81#8 → read = .accept l address flags slot (g1 ++ g0)) ∧
      (kind = 0x82#8 → read = .reject l address flags slot (g1 ++ g0))) ∧
    (∀ flags lines l1 l0 cls, whole → body = [flags, lines, l1, l0, cls] → kind = 0x83#8 →
      read = .descriptor l address flags lines (l1 ++ l0) cls) ∧
    (whole → kind ≠ 0x81#8 → kind ≠ 0x82#8 → kind ≠ 0x83#8 →
      read = .reject l address 0#8 0xFF#8 0#16)) ∧
  (∀ (l : Fin 4) (bytes : List Byte), bytes.length < 4 → decodeScreenAnswer l bytes = .corruptAnswer l) ∧
  (∀ (s : State) (l : Fin 4) (e : Exchange) (address flags slot lines cls : Byte) (gen rendered : Word16)
    (i : Instr), (s.link l).exchange = some e → e.detached = true →
    i = .accept l address flags slot gen ∨ i = .reject l address flags slot gen ∨
      i = .descriptor l address flags lines rendered cls →
    exec i s = .next ((s.setLink l { s.link l with exchange := none }).runLink l)) ∧
  ∀ (s : State) (l : Fin 4) (e : Exchange) (x : Screen) (address flags slot lines cls : Byte)
    (gen rendered : Word16), Table.wf s.screen.screens = true → (s.link l).exchange = some e →
    e.detached = false → s.screenAt e.screen = some x → linkOfScreen e.screen = l →
    let n := e.screen
    let answered : Screen := { x with misses := 0 }
    let flagged (y : Screen) : Screen := if flags.getLsbD 0 then { y with descValid := false } else y
    let sentSlot (k : SlotKind) : Prop := ∃ g a c, e.packet = .slot k g a c
    let told := address.toNat = n % 128 + 1
    let ended (t : State) (y : Screen) (owed : SlotKind → Prop) (notice : Bool) : Prop :=
      ExchangeEnded s t l n (flagged y) owed (flags.getLsbD 0) notice
    (∀ k g a c, e.packet = .slot k g a c → told → slot.toNat = k.code → gen = g →
      ∃ t, exec (.accept l address flags slot gen) s = .next t ∧
        ended t (answered.modSlot k fun y => { y with accepted := some g }) sentSlot false ∧
        (t.muster.completion = true → s.muster.completion = true ∨
          (s.muster.state = .standDown ∧ t.standDownHolds = true)) ∧
        (k = .muster → x.attach = .present → (s.link l).enabled = true →
          x.musterSlot.accepted ≠ some x.musterSlot.gen → g = x.musterSlot.gen →
          s.muster.state = .standDown → t.standDownHolds = true → t.muster.completion = true)) ∧
    ((∀ k g a c, e.packet = .slot k g a c → ¬(told ∧ slot.toNat = k.code ∧ gen = g)) →
      ∃ t, exec (.accept l address flags slot gen) s = .next t ∧ ended t answered sentSlot false ∧
        t.muster = s.muster) ∧
    (∃ t, exec (.reject l address flags slot gen) s = .next t ∧ ended t answered sentSlot false ∧
      t.muster = s.muster) ∧
    (∃ t, exec (.descriptor l address flags lines rendered cls) s = .next t ∧ t.muster = s.muster ∧
      let good := e.packet = .discover ∧ told ∧ 1 ≤ lines.toNat ∧ lines.toNat ≤ 8 ∧ cls.toNat ≤ 2
      let owe (y : Slot) : Slot := if y.policy = .off then y else { y with accepted := none }
      (¬good → ended t answered sentSlot false) ∧
      ∀ c : PanelClass, c.code = cls.toNat → good →
        ended t { answered with
          descriptor := some { lines := lines.toNat, rendered, panelClass := c }
          descValid := true
          attach := .present
          routeSlot := owe x.routeSlot
          programmeSlot := owe x.programmeSlot
          noticeSlot := owe x.noticeSlot
          musterSlot := owe x.musterSlot } (fun _ => True) true)

/-- The answer begins, or does not, or is not finished, or is corrupt (R148, R150, R151); the answer to a
retired screen's exchange is discarded (R135). The model's choices: without an exchange nothing changes (log 2), and
a corrupt answer is taken though none was seen to begin (log 23). -/
def Obligations.MissesCountTowardLoss : Prop :=
  ∀ (s : State) (l : Fin 4) (i : Instr), Table.wf s.screen.screens = true →
    let k := s.link l
    let miss (e : Exchange) : Prop := i = .corruptAnswer l ∨
      (i = .answerWindowExpiry l ∧ e.window.isSome) ∨ (i = .answerLimitExpiry l ∧ e.limit.isSome)
    (k.exchange = none → i = .corruptAnswer l ∨ i = .answerWindowExpiry l ∨ i = .answerLimitExpiry l ∨
      i = .screenAnswerBegin l → exec i s = .next s) ∧
    (∀ e, k.exchange = some e → e.window.isSome → exec (.screenAnswerBegin l) s = .next (s.setLink l
      { k with exchange := some { e with window := none, limit := some 0 } })) ∧
    (∀ e, k.exchange = some e → e.detached = true → miss e →
      exec i s = .next ((s.setLink l { k with exchange := none }).runLink l)) ∧
    ∀ e x, k.exchange = some e → e.detached = false → s.screenAt e.screen = some x →
      linkOfScreen e.screen = l → miss e →
      let sentSlot (q : SlotKind) : Prop := ∃ g a c, e.packet = .slot q g a c
      ∃ t, exec i s = .next t ∧
        (x.attach ≠ .present → ExchangeEnded s t l e.screen x sentSlot false false ∧ t.muster = s.muster) ∧
        (x.attach = .present → x.misses + 1 < 3 →
          ExchangeEnded s t l e.screen { x with misses := x.misses + 1 } sentSlot false false ∧
          t.muster = s.muster) ∧
        (x.attach = .present → 3 ≤ x.misses + 1 →
          ExchangeEnded s t l e.screen { x with attach := .lost, misses := 0, descValid := false }
            (fun _ => False) true true ∧
          (k.enabled = true → (t.muster.completion = true ↔ s.muster.completion = true ∨
            (s.muster.state = .standDown ∧ t.standDownHolds = true))))

/-! ### Muster control (08) -/

/-- MUSTER_START (R155, R156) and MUSTER_END (R155, R157): each case of their tables, with the reactions of the
other blocks to the transition (R15, R30, R78, R126, R145, R162). DRILL with the line ASSERTED, which the tables
leave out, is refused as in ALARM (log 19). -/
def Obligations.MusterStartAndEnd : Prop :=
  ∀ (s : State) (tag v : Byte), TablesWf s → RouteInv s →
    let state := s.muster.state
    let start := Instr.musterStart tag [v]
    let finish := Instr.musterEnd tag []
    (v ≠ 1#8 → v ≠ 2#8 → exec start s = .next (s.answering s tag .badField [])) ∧
    (v = 1#8 → state ≠ .alarm → ∃ t, exec start s = .next (s.answering t tag .done [3#8, 1#8, 1#8]) ∧
      TransitionTaken s t .drill .request) ∧
    (v = 1#8 → state = .alarm → exec start s = .next (s.answering s tag .refusedState [14#8])) ∧
    (v = 2#8 → state ≠ .alarm → ∃ t, exec start s = .next (s.answering t tag .done [3#8, 2#8, 2#8]) ∧
      TransitionTaken s t .alarm .request) ∧
    (v = 2#8 → state = .alarm →
      exec start s = .next (s.answering s tag .done ([2#8, 2#8] ++ u8 s.muster.kind.code))) ∧
    (state = .normal → exec finish s = .next (s.answering s tag .refusedState [16#8])) ∧
    (state = .drill ∨ state = .alarm → s.muster.asserted = true →
      exec finish s = .next (s.answering s tag .refusedState [15#8])) ∧
    (state = .drill ∨ state = .alarm → s.muster.asserted = false →
      ∃ t, exec finish s = .next (s.answering t tag .done ([3#8, 3#8] ++ u8 s.muster.kind.code ++
          u8 t.trunksOutstanding ++ u16 t.screensOutstanding)) ∧
        TransitionTaken s t .standDown .request) ∧
    (state = .standDown → exec finish s = .next (s.answering s tag .done ([2#8, 3#8] ++ u8 s.muster.kind.code ++
      u8 s.trunksOutstanding ++ u16 s.screensOutstanding)))

/-- MUSTER_STATUS answers the figures of its table in every port state and changes nothing (R169; 10 section
10.6), with what counts and has stood down and the stand-down condition (R164, R165, R166). The remaining seconds of
a running drill timer are rounded freely (log 9), the bytes of an absent figure are free (log 6), and a disabled
trunk shows the required mode (the model's choice, log 17). -/
def Obligations.MusterStatusAnswersItsFigures : Prop :=
  (∀ s : State, TablesWf s →
    (s.standDownHolds = true ↔
      (∀ i, (s.trunk i).enabled = true → (s.trunk i).state ≠ .fault → (s.trunk i).believed = some .normal) ∧
      ∀ n x, s.screenAt n = some x → x.attach = .present → (s.link (linkOfScreen n)).enabled = true →
        x.musterSlot.accepted = some x.musterSlot.gen)) ∧
  ∀ (s : State) (tag : Byte),
    let m := s.muster
    let counts (i : Fin 16) : Bool := (s.trunk i).enabled && decide ((s.trunk i).state ≠ .fault)
    let stood (i : Fin 16) : Bool := counts i && decide ((s.trunk i).believed = some .normal)
    let required : Nat := match m.state with
      | .normal => 0
      | .drill => 1
      | .alarm => 2
      | .standDown => 0
    let plates (i : Fin 16) (st : PlateState) : Nat := (s.cabin.cabins.filter fun r =>
      r.2.plate.any (fun p => decide (p.trunk = i)) && decide (r.2.plateState = st)).length
    let trunk (i : Fin 16) : List Byte :=
      u8 (s.trunk i).state.code ++ u8 (believedCode (s.trunk i).believed) ++ u8 required ++ yesNo (counts i) ++
        yesNo (stood i) ++ u8 (plates i .pending) ++ u8 (plates i .current) ++ u8 (plates i .failed)
    let stations : List (Nat × Station) := s.target.targets.filterMap fun r => r.2.station.map fun st => (r.1, st)
    let station (r : Nat × Station) : List Byte :=
      u8 r.1 ++ u8 r.2.letter ++ yesNo r.2.blocked ++ u16 r.2.capacity ++ u16 r.2.assigned ++ u16 r.2.swept ++
        u16 r.2.occupied ++ yesNo r.2.overFlag
    let present : List (Nat × Screen) := s.screen.screens.filter fun r =>
      decide (r.2.attach = .present) && (s.link (linkOfScreen r.1)).enabled
    let accepted : List (Nat × Screen) := present.filter fun r =>
      decide (r.2.musterSlot.accepted = some r.2.musterSlot.gen)
    let current (p : Profile) : Nat := (stations.filter fun r =>
      (s.mapAt { target := r.1, profile := p }).any fun x => decide (x.state = .current)).length
    s.trunksOutstanding = (allTrunks.filter fun i => counts i && !stood i).length ∧
    s.screensOutstanding = present.length - accepted.length ∧
    ∃ remaining : List Byte, exec (.musterStatus tag []) s = .next (s.answering s tag .done
        (u8 m.state.code ++ u8 m.kind.code ++ u8 m.cause.code ++ u16 m.entryCount ++ u8 m.drillLimit ++ remaining ++
          yesNo m.asserted ++ yesNo m.filterTimer.isSome ++ u8 stations.length ++ stations.flatMap station ++
          u16 s.target.unassigned ++ allTrunks.flatMap trunk ++ u16 present.length ++ u16 accepted.length ++
          u8 (allTrunks.filter fun i => counts i && !stood i).length ++ u16 (present.length - accepted.length) ++
          u8 stations.length ++ u8 (current .general) ++ u8 (current .stepFree))) ∧
      (m.drillTimer = none → remaining.length = 3 ∧ remaining.head? = some 0#8) ∧
      ∀ k, m.drillTimer = some k → ∃ sec, remaining = [1#8] ++ u16 (sec % 65536) ∧
        (m.drillLimit * 60000 - k) / 1000 ≤ sec ∧ sec * 1000 ≤ m.drillLimit * 60000 - k + 999

/-- The ALARM_IN filter (R158, R160, R161), the drill timer (R163), the entry count (R168) and the stand-down
completion (R166). The model's choices: a completion that is not to follow changes nothing (log 2), and one mark
says that it is to follow, cleared when it is taken (log 20). -/
def Obligations.AlarmLineTimersAndCompletion : Prop :=
  ∀ (s : State) (low : Bool), TablesWf s → RouteInv s →
    let m := s.muster
    (∃ t, exec (.alarmInChange low) s = .next t ∧
      (low = m.rawLow → t = s) ∧
      (low ≠ m.rawLow → low ≠ m.asserted →
        t = { s with muster := { m with rawLow := low, filterTimer := some 0 } }) ∧
      (low ≠ m.rawLow → low = m.asserted →
        t = { s with muster := { m with rawLow := low, filterTimer := none } })) ∧
    (m.filterTimer.isSome →
      let u : State := { s with muster := { m with asserted := m.rawLow, filterTimer := none } }
      ∃ t, exec .alarmInFilterExpiry s = .next t ∧
        (m.rawLow = true → m.state ≠ .alarm → TransitionTaken u t .alarm .alarmIn) ∧
        (m.rawLow = true → m.state = .alarm → t = u) ∧
        (m.rawLow = false → t = u)) ∧
    (m.drillTimer.isSome → m.state = .drill →
      ∃ t, exec .drillTimerExpiry s = .next t ∧ TransitionTaken s t .standDown .drillLimit) ∧
    (m.entryTimer.isSome → exec .entryCountTimerExpiry s = .next { s with muster := { m with
      entryCount := if m.entryCount < 65535 then m.entryCount + 1 else 65535, entryTimer := some 0 } }) ∧
    (m.completion = false → exec .standDownCompletion s = .next s) ∧
    (m.completion = true →
      let u : State := { s with muster := { m with completion := false } }
      ∃ t, exec .standDownCompletion s = .next t ∧
        (m.state = .standDown ∧ s.trunksOutstanding = 0 ∧ s.screensOutstanding = 0 →
          TransitionTaken u t .normal .completion) ∧
        (¬(m.state = .standDown ∧ s.trunksOutstanding = 0 ∧ s.screensOutstanding = 0) → t = u))

/-! ### Resets and what every step keeps -/

/-- Power-on and pin reset put every register at its reset value (R18, R44, R57, R79, R108, R128, R153, R170,
R187). The model's choices: the levels that the outside drives and the commands that wait stay (log 4), SP_DO has
driven no byte (log 5), no completion is to follow (log 20), no period is under way and the refresh cursor stands
at slot ROUTE (log 28), and no news has been ACCEPTed (log 36). -/
def Obligations.ResetsPutEveryRegisterAtItsValue : Prop :=
  ∀ (s : State) (cause : ResetCause) (i : Instr),
    (i = .powerOnReset ∧ cause = .powerOn) ∨ (i = .pinReset ∧ cause = .pin) →
    ∃ t, exec i s = .next t ∧
      t.graph = { nodes := [], edges := [], genGeneral := 0#16, genStepFree := 0#16, openLifts := 0 } ∧
      t.route = { maps := [], urgent := [], ordinary := [], build := none } ∧
      t.target = { targets := [], unassigned := 0 } ∧
      t.cabin = { cabins := [], service := [] } ∧
      t.plate = { trunks := t.plate.trunks, inbound := [], surveyPeriod := 250, holdLimit := 300 } ∧
      (∀ j, t.trunk j =
        { state := .disabled, enabled := false, urgent := [], ordinary := [], work := none, believed := none,
          cursor := 1, newsAccepts := 0, surveyDue := false, surveyTimer := none, guardTimer := none,
          holdTimer := none, stuckTimer := none, clockHigh := (s.trunk j).clockHigh,
          dataHigh := (s.trunk j).dataHigh }) ∧
      t.programme = { entries := [], clock := none, secondTimer := none, linger := 10, horizon := 180 } ∧
      t.screen.screens = [] ∧
      (∀ l, t.link l =
        { enabled := false, periodSetting := 500, timer := none, period := 0#16, budget := 0, underWay := false,
          discovered := false, musterQueue := [], dirtyQueue := [], discoveryCursor := 1, refreshAddress := 1,
          refreshSlot := .route, keepaliveCursor := 1, exchange := none }) ∧
      t.muster =
        { state := .normal, kind := .nothing, cause := .nothing, entryCount := 0, entryTimer := some 0,
          drillLimit := 0, drillTimer := none, asserted := false, rawLow := s.muster.rawLow,
          filterTimer := if s.muster.rawLow then some 0 else none, completion := false } ∧
      t.port =
        { load := none
          summary := { table := none, count := 0, remaining := 0, refused := 0, ending := .nothing }
          processing := false, answer := none, cursor := { table := .node, index := 0 }, events := 0#16,
          mask := 0x03FF#16, resetCause := cause, out := [] } ∧
      t.fresh = s.fresh ∧ t.pending = s.pending

/-- The state after reset meets every invariant below. -/
def Obligations.ResetMeetsTheInvariants : Prop :=
  let s := State.reset
  TablesWf s ∧ GraphInv s ∧ DegreeInv s ∧ TargetInv s ∧ RouteInv s ∧ ContentInv s ∧ CabinInv s ∧ PlateInv s ∧
  TrunkInv s ∧ EntryInv s ∧ MusterInv s ∧ ScreenInv s

/-- Every step keeps every table in its canonical form and within its slots (00 section 5.9). -/
def Obligations.StepsKeepTheTables : Prop :=
  ∀ s t : State, TablesWf s → step s = .next t → TablesWf t

/-- Every step keeps each claim on a live record, each degree, reference count, tally and over flag what the live
records make it, and at most 8 edge ends at a node (R4, R8, R16, R46, R50, R52, R53). -/
def Obligations.StepsKeepClaimsAndCounts : Prop :=
  ∀ s t : State, TablesWf s → GraphInv s → DegreeInv s → TargetInv s → step s = .next t →
    GraphInv t ∧ DegreeInv t ∧ TargetInv t

/-- Every step keeps the rebuild queue, the build record and the map states in agreement: a CURRENT map always
has the present generation (R20, R25, R27, R35), and its entries are those that a build would give now (R22, R35). -/
def Obligations.StepsKeepTheMaps : Prop :=
  (∀ s t : State, TablesWf s → RouteInv s → step s = .next t → RouteInv t) ∧
  ∀ s t : State, TablesWf s → GraphInv s → RouteInv s → ContentInv s → step s = .next t → ContentInv t

/-- Every step keeps each PENDING plate at exactly one place on its own trunk (R69), the states, wires and timers of
the trunks in agreement, and room for every report of a survey step under way (R105); and it keeps the service list
the list of the cabins that call, and each cabin number and plate address with one cabin (R59, R71). How the sensed
wires stand in TALKING, HELD, RECOVERING and FAULT is the model's choice (log 12). -/
def Obligations.StepsKeepPlatesAndTrunks : Prop :=
  (∀ s t : State, TablesWf s → PlateInv s → TrunkInv s → step s = .next t → PlateInv t ∧ TrunkInv t) ∧
  ∀ s t : State, TablesWf s → CabinInv s → step s = .next t → CabinInv t

/-- Every step keeps the muster state ALARM while the filtered ALARM_IN line is asserted (R159), the drill timer
in DRILL (R162), and the entries' states fit for the muster state and the clock (R110, R126). -/
def Obligations.StepsKeepAlarmAndEntries : Prop :=
  ∀ s t : State, TablesWf s → MusterInv s → EntryInv s → step s = .next t → MusterInv t ∧ EntryInv t

/-- Every step keeps each owed slot of a found screen in its queue or in flight, and only slots of found
screens in a queue, each once, in the queue of its kind on its own link, and not in flight (R131, R132, R146, R152). A
queued slot may be clean again, where its generation has wrapped (00 section 5.5). -/
def Obligations.StepsKeepTheScreenQueues : Prop :=
  ∀ s t : State, TablesWf s → ScreenInv s → step s = .next t → ScreenInv t

end
end

