-- ==== Sys2Proof/Laws/Tables.lean ====
section
/-! SUPPORT. What the operations over tables do to a slot and to the canonical form. -/

set_option Elab.async false

namespace Sys2Proof.Table

variable {α : Type}

/-! ### Reading after a change -/

@[simp] theorem get_nil (k : Nat) : get ([] : Table α) k = none := rfl

theorem get_cons (j : Nat) (v : α) (t : Table α) (k : Nat) :
    get ((j, v) :: t) k = if j = k then some v else get t k := rfl

@[simp] theorem get_put_same (t : Table α) (k : Nat) (v : α) : get (put t k v) k = some v := by
  induction t with
  | nil => simp [put, get]
  | cons r t ih =>
    obtain ⟨j, w⟩ := r
    simp only [put]
    split
    · simp [get]
    · split
      · simp [get]
      · rename_i h1 h2
        have hj : ¬j = k := fun e => h2 e.symm
        simp [get, hj, ih]

theorem get_put_other (t : Table α) (k m : Nat) (v : α) (h : m ≠ k) : get (put t k v) m = get t m := by
  have hk : ¬k = m := fun e => h e.symm
  induction t with
  | nil => simp [put, get, hk]
  | cons r t ih =>
    obtain ⟨j, w⟩ := r
    simp only [put]
    split
    · simp [get, hk]
    · split
      · rename_i h1 h2
        subst h2
        simp [get, hk]
      · simp [get, ih]

theorem get_put (t : Table α) (k m : Nat) (v : α) :
    get (put t k v) m = if m = k then some v else get t m := by
  split
  · rename_i h; subst h; simp
  · rename_i h; exact get_put_other t k m v h

theorem get_del (t : Table α) (k m : Nat) : get (del t k) m = if m = k then none else get t m := by
  induction t with
  | nil => simp [del]
  | cons r t ih =>
    obtain ⟨j, w⟩ := r
    simp only [del] at ih ⊢
    by_cases hj : j = k
    · subst hj
      rw [List.filter_cons_of_neg (by simp), ih]
      by_cases hm : m = j
      · simp [hm]
      · have hjm : ¬j = m := fun e => hm e.symm
        simp [hm, get, hjm]
    · rw [List.filter_cons_of_pos (by simpa using hj), get_cons, get_cons, ih]
      by_cases hjm : j = m
      · subst hjm; simp [hj]
      · simp [hjm]

@[simp] theorem get_del_same (t : Table α) (k : Nat) : get (del t k) k = none := by simp [get_del]

theorem get_modify (t : Table α) (k m : Nat) (f : α → α) :
    get (modify t k f) m = if m = k then (get t m).map f else get t m := by
  induction t with
  | nil => simp [modify]
  | cons r t ih =>
    obtain ⟨j, w⟩ := r
    simp only [modify, List.map] at ih ⊢
    by_cases hj : j = k
    · subst hj
      simp only [if_true, get]
      by_cases hm : j = m
      · subst hm; simp
      · have hmj : ¬m = j := fun e => hm e.symm
        simp [hm, hmj, ih]
    · simp only [hj, if_false, get]
      by_cases hm : j = m
      · subst hm; simp [hj]
      · simp [hm, ih]

@[simp] theorem get_modify_same (t : Table α) (k : Nat) (f : α → α) :
    get (modify t k f) k = (get t k).map f := by simp [get_modify]

theorem get_modify_other (t : Table α) (k m : Nat) (f : α → α) (h : m ≠ k) :
    get (modify t k f) m = get t m := by simp [get_modify, h]

theorem get_mapAll (t : Table α) (f : α → α) (k : Nat) : get (mapAll t f) k = (get t k).map f := by
  induction t with
  | nil => simp [mapAll]
  | cons r t ih =>
    obtain ⟨j, w⟩ := r
    simp only [mapAll, List.map] at ih ⊢
    by_cases hj : j = k <;> simp [get, hj, ih]

/-! ### The canonical form -/

theorem wf_iff (t : Table α) : wf t = true ↔ (t.map (·.1)).Pairwise (· < ·) := by
  induction t with
  | nil => simp [wf]
  | cons r t ih =>
    cases t with
    | nil => simp [wf]
    | cons q t =>
      simp only [wf, Bool.and_eq_true, decide_eq_true_eq, ih, List.map_cons]
      constructor
      · rintro ⟨h, hp⟩
        refine List.Pairwise.cons ?_ hp
        intro a ha
        rcases List.mem_cons.mp ha with rfl | ha
        · exact h
        · exact Nat.lt_trans h (List.rel_of_pairwise_cons hp ha)
      · intro hp
        exact ⟨List.rel_of_pairwise_cons hp (List.mem_cons_self ..), List.Pairwise.of_cons hp⟩

@[simp] theorem wf_nil : wf ([] : Table α) = true := rfl

theorem keys_modify (t : Table α) (k : Nat) (f : α → α) : (modify t k f).map (·.1) = t.map (·.1) := by
  simp only [modify, List.map_map]
  refine List.map_congr_left fun r _ => ?_
  simp only [Function.comp]
  split <;> rfl

theorem keys_mapAll (t : Table α) (f : α → α) : (mapAll t f).map (·.1) = t.map (·.1) := by
  simp [mapAll, List.map_map, Function.comp_def]

@[simp] theorem wf_modify (t : Table α) (k : Nat) (f : α → α) : wf (modify t k f) = wf t := by
  rw [Bool.eq_iff_iff, wf_iff, wf_iff, keys_modify]

@[simp] theorem wf_mapAll (t : Table α) (f : α → α) : wf (mapAll t f) = wf t := by
  rw [Bool.eq_iff_iff, wf_iff, wf_iff, keys_mapAll]

theorem wf_filter (t : Table α) (p : Nat × α → Bool) (h : wf t = true) : wf (t.filter p) = true := by
  rw [wf_iff] at h ⊢
  exact h.sublist (List.filter_sublist.map _)

theorem wf_del (t : Table α) (k : Nat) (h : wf t = true) : wf (del t k) = true := wf_filter t _ h

theorem mem_keys_put (t : Table α) (k m : Nat) (v : α) :
    m ∈ (put t k v).map (·.1) ↔ m = k ∨ m ∈ t.map (·.1) := by
  induction t with
  | nil => simp [put]
  | cons r t ih =>
    obtain ⟨j, w⟩ := r
    simp only [put]
    split
    · simp
    · split
      · rename_i h1 h2; subst h2; simp
      · simp only [List.map_cons, List.mem_cons, ih]; tauto

theorem wf_put (t : Table α) (k : Nat) (v : α) (h : wf t = true) : wf (put t k v) = true := by
  rw [wf_iff] at h ⊢
  induction t with
  | nil => simp [put]
  | cons r t ih =>
    obtain ⟨j, w⟩ := r
    have ht := List.Pairwise.of_cons h
    have hj : ∀ a ∈ t.map (·.1), j < a := fun a ha => List.rel_of_pairwise_cons h ha
    simp only [put]
    split
    · rename_i hk
      refine List.Pairwise.cons ?_ h
      intro a ha
      rcases List.mem_cons.mp ha with rfl | ha
      · exact hk
      · exact Nat.lt_trans hk (hj a ha)
    · split
      · rename_i h1 h2
        subst h2
        exact List.Pairwise.cons hj ht
      · rename_i h1 h2
        refine List.Pairwise.cons ?_ (ih ht)
        intro a ha
        rcases (mem_keys_put t k a v).mp ha with rfl | ha
        · exact Nat.lt_of_le_of_ne (Nat.le_of_not_lt h1) (fun e => h2 e.symm)
        · exact hj a ha

/-! ### Live slots and membership -/

theorem get_eq_none_iff (t : Table α) (k : Nat) : get t k = none ↔ k ∉ t.map (·.1) := by
  induction t with
  | nil => simp
  | cons r t ih =>
    obtain ⟨j, w⟩ := r
    by_cases h : j = k
    · simp [get, h]
    · simp only [get, h, if_false, ih, List.map_cons, List.mem_cons, not_or]
      exact ⟨fun x => ⟨fun e => h e.symm, x⟩, fun x => x.2⟩

theorem mem_of_get (t : Table α) (k : Nat) (v : α) (h : get t k = some v) : (k, v) ∈ t := by
  induction t with
  | nil => simp at h
  | cons r t ih =>
    obtain ⟨j, w⟩ := r
    simp only [get] at h
    split at h
    · rename_i hj; subst hj; simp at h; subst h; exact List.mem_cons_self ..
    · exact List.mem_cons_of_mem _ (ih h)

/-- In a canonical table a slot is live with the one record that is listed. -/
theorem get_iff_mem (t : Table α) (h : wf t = true) (k : Nat) (v : α) :
    get t k = some v ↔ (k, v) ∈ t := by
  refine ⟨mem_of_get t k v, fun hm => ?_⟩
  rw [wf_iff] at h
  induction t with
  | nil => simp at hm
  | cons r t ih =>
    obtain ⟨j, w⟩ := r
    rcases List.mem_cons.mp hm with e | hm
    · cases e; simp [get]
    · have : j < k := List.rel_of_pairwise_cons h (List.mem_map_of_mem (f := (·.1)) hm)
      simp [get, Nat.ne_of_lt this, ih (List.Pairwise.of_cons h) hm]

/-- Canonical tables with equal contents are equal data. -/
theorem wf_ext (t u : Table α) (ht : wf t = true) (hu : wf u = true)
    (h : ∀ k, get t k = get u k) : t = u := by
  have hperm : t.Perm u := by
    refine (List.perm_ext_iff_of_nodup ?_ ?_).mpr ?_
    · exact List.Nodup.of_map _ ((List.Pairwise.imp Nat.ne_of_lt ((wf_iff t).mp ht)))
    · exact List.Nodup.of_map _ ((List.Pairwise.imp Nat.ne_of_lt ((wf_iff u).mp hu)))
    · rintro ⟨k, v⟩
      rw [← get_iff_mem t ht, ← get_iff_mem u hu, h k]
  have pt : t.Pairwise fun a b => a.1 < b.1 := by simpa [List.pairwise_map] using (wf_iff t).mp ht
  have pu : u.Pairwise fun a b => a.1 < b.1 := by simpa [List.pairwise_map] using (wf_iff u).mp hu
  exact hperm.eq_of_pairwise (fun a b _ _ hab hba => absurd hab (Nat.lt_asymm hba)) pt pu

end Sys2Proof.Table
end

