-- ==== Sys2Proof/Laws/Checks.lean ====
section
/-! SUPPORT. The invariants of a state whose tables are written out, from checks over the records listed: each
lemma turns a claim about every slot into one about the listed slots, which can be decided. -/

set_option Elab.async false

namespace Sys2Proof

/-- What holds of every listed record holds of every live slot. -/
theorem Table.forall_get {α : Type} {t : Table α} {P : Nat → α → Prop} (h : ∀ r ∈ t, P r.1 r.2)
    (k : Nat) (v : α) (hk : Table.get t k = some v) : P k v := h _ (Table.mem_of_get t k v hk)

namespace Machine

theorem mapOfSlot_slot (m : MapName) : mapOfSlot m.slot = m := by
  obtain ⟨t, p⟩ := m
  have h1 : (2 * t + 1) / 2 = t := by omega
  have h2 : (2 * t + 1) % 2 = 1 := by omega
  cases p
  · simp [MapName.slot, mapOfSlot]
  · simp [MapName.slot, mapOfSlot, h1, h2]

theorem slot_mapOfSlot (k : Nat) : (mapOfSlot k).slot = k := by
  simp only [mapOfSlot]
  split <;> simp only [MapName.slot] <;> omega

/-! ### Tables and the deck graph -/

/-- Every table is sorted and within its slots. -/
abbrev TablesChecked (s : State) : Prop :=
  (Table.wf s.graph.nodes = true ∧ ∀ r ∈ s.graph.nodes, r.1 < 1024) ∧
  (Table.wf s.graph.edges = true ∧ ∀ r ∈ s.graph.edges, r.1 < 3072) ∧
  (Table.wf s.route.maps = true ∧ ∀ r ∈ s.route.maps, r.1 < 128) ∧
  (Table.wf s.target.targets = true ∧ ∀ r ∈ s.target.targets, r.1 < 64) ∧
  (Table.wf s.cabin.cabins = true ∧ ∀ r ∈ s.cabin.cabins, r.1 < 3072) ∧
  (Table.wf s.programme.entries = true ∧ ∀ r ∈ s.programme.entries, r.1 < 256) ∧
  (Table.wf s.screen.screens = true ∧ ∀ r ∈ s.screen.screens, r.1 < 512)

/-- The listed records name live nodes, and the counts are what they make them. -/
abbrev GraphChecked (s : State) : Prop :=
  (∀ r ∈ s.graph.edges, r.2.endA ≠ r.2.endB ∧ (s.node r.2.endA).isSome ∧ (s.node r.2.endB).isSome) ∧
  (∀ r ∈ s.target.targets, (s.node r.2.anchor).isSome) ∧
  (∀ r ∈ s.cabin.cabins, (s.node r.2.doorNode).isSome) ∧
  (∀ r ∈ s.screen.screens, (s.node r.2.node).isSome) ∧
  (∀ r ∈ s.graph.nodes, r.2.degree = s.endsAt r.1 ∧ r.2.refs = s.claimsOnNode r.1) ∧
  s.graph.openLifts = Table.count s.graph.edges Edge.openLift

theorem graphInv_of_checked {s : State} (h : GraphChecked s) : GraphInv s := by
  obtain ⟨edges, anchors, doors, screens, counts, lifts⟩ := h
  exact ⟨Table.forall_get edges, Table.forall_get anchors, Table.forall_get doors, Table.forall_get screens,
    Table.forall_get counts, lifts⟩

/-! ### Targets -/

/-- The listed records name live targets of the right kind, and the figures are what they make them. -/
abbrev TargetsChecked (s : State) : Prop :=
  (∀ r ∈ s.cabin.cabins, (s.stationAt r.2.primary).isSome ∧
    ∀ a ∈ r.2.alternate.toList, a ≠ r.2.primary ∧ (s.stationAt a).isSome) ∧
  (∀ r ∈ s.programme.entries, ((s.targetAt r.2.venue).any fun v => v.station.isNone) = true) ∧
  (∀ r ∈ s.screen.screens, r.2.shown.Nodup ∧ (∀ t ∈ r.2.shown, (s.targetAt t).isSome) ∧
    ∀ t ∈ r.2.override.toList, (s.stationAt t).isSome) ∧
  (∀ r ∈ s.stations, ∀ q ∈ s.stations, r.2.letter = q.2.letter → r.1 = q.1) ∧
  (∀ r ∈ s.target.targets, r.2.refs = s.claimsOnTarget r.1) ∧
  (∀ r ∈ s.stations, r.2.assigned = (s.assignedTo r.1).length ∧
    r.2.swept = ((s.assignedTo r.1).filter fun c => c.2.swept).length ∧
    r.2.occupied = berthsOf (s.assignedTo r.1) ∧
    r.2.overFlag = (decide (0 < r.2.capacity) && decide (r.2.capacity < r.2.occupied))) ∧
  s.target.unassigned = (s.cabin.cabins.filter fun r => (s.effective r.2).isNone).length

/-- A live station is one of the stations listed. -/
theorem mem_stations {s : State} {k : Nat} {st : Station} (h : s.stationAt k = some st) :
    (k, st) ∈ s.stations := by
  simp only [State.stationAt, State.targetAt, Option.bind_eq_some_iff] at h
  obtain ⟨x, hx, hst⟩ := h
  simp only [State.stations, List.mem_filterMap]
  exact ⟨(k, x), Table.mem_of_get _ _ _ hx, by simp [hst]⟩

theorem targetInv_of_checked {s : State} (h : TargetsChecked s) : TargetInv s := by
  obtain ⟨assigned, venues, screens, letters, claims, tallies, unassigned⟩ := h
  refine ⟨Table.forall_get fun r m => ⟨(assigned r m).1, fun a e => (assigned r m).2 a (by simp [e])⟩,
    Table.forall_get fun r m => ?_, Table.forall_get fun r m => ?_, fun _ _ a b p q => ?_,
    Table.forall_get claims, fun _ _ p => tallies _ (mem_stations p), unassigned⟩
  · simpa [Option.any_eq_true] using venues r m
  · exact ⟨(screens r m).1, (screens r m).2.1, fun k e => (screens r m).2.2 k (by simp [e])⟩
  · exact letters _ (mem_stations p) _ (mem_stations q)

/-! ### Maps -/

/-- The rebuild queue, the build record and the map states agree, as checks over the maps listed. -/
abbrev MapsChecked (s : State) : Prop :=
  Table.wf s.route.maps = true ∧
  (∀ r ∈ s.route.maps, (s.targetAt (r.1 / 2)).isSome) ∧
  (∀ r ∈ s.target.targets, ∀ p ∈ allProfiles, (s.mapAt { target := r.1, profile := p }).isSome) ∧
  s.rebuildQueue.Nodup ∧
  (∀ r ∈ s.route.maps, mapOfSlot r.1 ∈ s.rebuildQueue ↔ (r.2.state = .stale ∨ r.2.state = .empty)) ∧
  (∀ m ∈ s.rebuildQueue, (s.mapAt m).isSome) ∧
  (s.route.build = none → s.rebuildQueue = []) ∧
  (∀ r ∈ s.route.maps,
    (r.2.state = .building ↔ s.route.build.any (fun b => decide (b.map = mapOfSlot r.1)) = true)) ∧
  (∀ b ∈ s.route.build.toList, (s.mapAt b.map).isSome ∧ b.gen = s.genOf b.map.profile) ∧
  ∀ r ∈ s.route.maps, r.2.state = .current → r.2.builtGen = some (s.genOf (mapOfSlot r.1).profile)

/-- A claim about every listed map holds of every live one. -/
theorem forall_mapAt {s : State} {P : MapName → RouteMap → Prop} (h : ∀ r ∈ s.route.maps, P (mapOfSlot r.1) r.2)
    (m : MapName) (r : RouteMap) (hm : s.mapAt m = some r) : P m r := by
  simpa [mapOfSlot_slot] using h _ (Table.mem_of_get _ _ _ hm)

theorem target_of_slot (m : MapName) : m.slot / 2 = m.target :=
  congrArg MapName.target (mapOfSlot_slot m)

theorem routeInv_of_checked {s : State} (h : MapsChecked s) : RouteInv s := by
  obtain ⟨sorted, targeted, paired, once, waiting, queued, idle, building, gens, built⟩ := h
  have owed := forall_mapAt (P := fun m r => m ∈ s.rebuildQueue ↔ (r.state = .stale ∨ r.state = .empty)) waiting
  have flying := forall_mapAt (P := fun m r => r.state = .building ↔
    s.route.build.any (fun b => decide (b.map = m)) = true) building
  refine ⟨sorted, fun m => ?_, once, fun m => ⟨fun e => ?_, ?_⟩, idle, fun m r e => ?_,
    fun b e => gens b (by simp [e]), forall_mapAt built⟩
  · rw [Bool.eq_iff_iff, Option.isSome_iff_exists, Option.isSome_iff_exists]
    refine ⟨fun ⟨r, e⟩ => ?_, fun ⟨x, e⟩ => ?_⟩
    · exact Option.isSome_iff_exists.mp (target_of_slot m ▸ targeted _ (Table.mem_of_get _ _ _ e))
    · exact Option.isSome_iff_exists.mp
        (paired _ (Table.mem_of_get _ _ _ e) m.profile (by cases m.profile <;> decide))
  · obtain ⟨r, e'⟩ := Option.isSome_iff_exists.mp (queued m e)
    exact ⟨r, e', (owed m r e').mp e⟩
  · rintro ⟨r, e, held⟩
    exact (owed m r e).mpr held
  · rw [flying m r e, Option.any_eq_true]
    simp only [decide_eq_true_eq]
    exact ⟨fun ⟨b, e, same⟩ => ⟨b.gen, by rw [e, ← same]⟩, fun ⟨g, e⟩ => ⟨_, e, rfl⟩⟩

/-- The entries of every CURRENT map listed are those of a build now. -/
abbrev ContentsChecked (s : State) : Prop :=
  ∀ r ∈ s.route.maps, r.2.state = .current → r.2.entries = s.buildResult (mapOfSlot r.1)

theorem contentInv_of_checked {s : State} (h : ContentsChecked s) : ContentInv s := forall_mapAt h

/-! ### Cabins and plates -/

/-- The service list and the listed cabins agree, and no two of them have one number or one plate address. -/
abbrev CabinsChecked (s : State) : Prop :=
  s.cabin.service.Nodup ∧
  (∀ c ∈ s.cabin.service, ((s.cabinAt c).any fun x => x.service) = true) ∧
  (∀ r ∈ s.cabin.cabins, r.2.service = true → r.1 ∈ s.cabin.service) ∧
  (∀ r ∈ s.cabin.cabins, (r.2.service = true → r.2.occupancy = .occupied) ∧
    r.2.number.deck ≤ 19 ∧ 1 ≤ r.2.number.number ∧ r.2.number.number ≤ 999) ∧
  ∀ r ∈ s.cabin.cabins, ∀ q ∈ s.cabin.cabins,
    r.2.number = q.2.number ∨ (r.2.plate.isSome ∧ r.2.plate = q.2.plate) → r.1 = q.1

theorem cabinInv_of_checked {s : State} (h : CabinsChecked s) : CabinInv s := by
  obtain ⟨once, listed, calling, fields, unique⟩ := h
  refine ⟨once, fun c => ⟨fun e => ?_, fun ⟨x, e, flag⟩ => ?_⟩, Table.forall_get fields, fun _ _ _ _ a b e => ?_⟩
  · simpa [Option.any_eq_true] using listed c e
  · exact calling _ (Table.mem_of_get _ _ _ e) flag
  · exact unique _ (Table.mem_of_get _ _ _ a) _ (Table.mem_of_get _ _ _ b) e

/-- A live cabin or none stands at every place of the plate queues. -/
theorem platePlaces_eq_zero {s : State} {c : Nat}
    (h : ∀ i ∈ allTrunks, c ∉ (s.trunk i).urgent ∧ c ∉ (s.trunk i).ordinary ∧ (s.trunk i).writing c = false) :
    s.platePlaces c = 0 := by
  simp only [State.platePlaces]
  rw [List.sum_eq_zero]
  intro x hx
  obtain ⟨i, hi, rfl⟩ := List.mem_map.mp hx
  simp [List.count_eq_zero.mpr (h i hi).1, List.count_eq_zero.mpr (h i hi).2.1, (h i hi).2.2]

/-- The cabins that stand somewhere in the plate queues or in a write in flight. -/
def Trunk.waiting (t : Trunk) : List Nat :=
  t.urgent ++ t.ordinary ++ match t.work with
    | some (.write (some c) _ _ _) => [c]
    | _ => []

/-- The plates listed wait where they are said to. -/
abbrev PlatesChecked (s : State) : Prop :=
  Table.wf s.cabin.cabins = true ∧
  (∀ r ∈ s.cabin.cabins, r.2.plate = none ↔ r.2.plateState = .noPlate) ∧
  (∀ r ∈ s.cabin.cabins, s.platePlaces r.1 = if r.2.plateState = .pending then 1 else 0) ∧
  (∀ i ∈ allTrunks, ∀ c ∈ (s.trunk i).waiting, (s.cabinAt c).isSome) ∧
  (∀ r ∈ s.cabin.cabins, ∀ p ∈ r.2.plate.toList, r.2.plateState = .pending →
    r.1 ∈ (s.trunk p.trunk).urgent ∨ r.1 ∈ (s.trunk p.trunk).ordinary ∨ (s.trunk p.trunk).writing r.1 = true)

/-- A cabin that does not wait on a trunk stands at no place of it. -/
theorem not_waiting {t : Trunk} {c : Nat} (h : c ∉ t.waiting) :
    c ∉ t.urgent ∧ c ∉ t.ordinary ∧ t.writing c = false := by
  simp only [Trunk.waiting, List.mem_append, not_or] at h
  refine ⟨h.1.1, h.1.2, ?_⟩
  have flown := h.2
  simp only [Trunk.writing]
  split <;> rename_i work
  all_goals first | rfl | skip
  simp only [work, List.mem_singleton] at flown
  exact decide_eq_false fun e => flown e.symm

theorem plateInv_of_checked {s : State} (h : PlatesChecked s) : PlateInv s := by
  obtain ⟨sorted, plates, places, live, owed⟩ := h
  refine ⟨sorted, Table.forall_get plates, fun c => ?_, fun c x p e hp pending => ?_⟩
  · cases e : s.cabinAt c with
    | none =>
      simp only [Option.any_none, Bool.false_eq_true, if_false]
      exact platePlaces_eq_zero fun i hi => not_waiting fun m => by simpa [e] using live i hi c m
    | some x => simpa using places _ (Table.mem_of_get _ _ _ e)
  · exact owed _ (Table.mem_of_get _ _ _ e) p (by simp [hp]) pending

/-! ### Entries -/

/-- The entries listed have ids of their own and states that fit the muster state and the clock. -/
abbrev EntriesChecked (s : State) : Prop :=
  Table.wf s.programme.entries = true ∧
  (∀ r ∈ s.programme.entries, ∀ q ∈ s.programme.entries, r.2.id = q.2.id → r.1 = q.1) ∧
  ∀ r ∈ s.programme.entries, 1 ≤ r.2.id ∧ r.2.id ≤ 65535 ∧ (r.2.state = .running → s.muster.state = .normal) ∧
    (r.2.state = .suspended → s.muster.state ≠ .normal) ∧
    (s.programme.clock = none → r.2.state = .scheduled ∨ r.2.state = .cancelled)

theorem entryInv_of_checked {s : State} (h : EntriesChecked s) : EntryInv s :=
  ⟨h.1, fun _ _ _ _ a b e => h.2.1 _ (Table.mem_of_get _ _ _ a) _ (Table.mem_of_get _ _ _ b) e,
    Table.forall_get h.2.2⟩

/-! ### Screens and links -/

/-- The links and the screens listed are in order. -/
abbrev ScreensChecked (s : State) : Prop :=
  (∀ l, ((s.link l).timer.isSome = (s.link l).enabled) ∧
    ((s.link l).enabled = false → (s.link l).exchange = none ∧ (s.link l).underWay = false) ∧
    ((s.link l).underWay = true → (s.link l).exchange.isSome = true) ∧
    ∀ e ∈ (s.link l).exchange.toList, e.detached = false →
      (s.screenAt e.screen).isSome = true ∧ linkOfScreen e.screen = l) ∧
  (∀ r ∈ s.screen.screens, (r.2.descValid = true → r.2.attach = .present ∧ r.2.descriptor.isSome = true) ∧
    ((s.link (linkOfScreen r.1)).enabled = false → r.2.attach = .absent) ∧ r.2.musterSlot.policy = .refreshed) ∧
  (∀ l, (s.link l).musterQueue.Nodup ∧ (s.link l).dirtyQueue.Nodup) ∧
  (∀ l, (∀ r ∈ (s.link l).musterQueue, r.kind = .muster) ∧ (∀ r ∈ (s.link l).dirtyQueue, r.kind ≠ .muster) ∧
    ∀ r ∈ (s.link l).musterQueue ++ (s.link l).dirtyQueue, linkOfScreen r.screen = l ∧
      (s.link l).sending r = false ∧
      ((s.screenAt r.screen).any fun x => decide (x.attach = .present) && x.descValid) = true) ∧
  ∀ r ∈ s.screen.screens, ∀ k ∈ slotOrder,
    (r.2.slot k).accepted ≠ some (r.2.slot k).gen → r.2.attach = .present → r.2.descValid = true →
    (s.link (linkOfScreen r.1)).queued { screen := r.1, kind := k } = true ∨
    (s.link (linkOfScreen r.1)).sending { screen := r.1, kind := k } = true

theorem mem_slotOrder (k : SlotKind) : k ∈ slotOrder := by cases k <;> decide

theorem screenInv_of_checked {s : State} (h : ScreensChecked s) : ScreenInv s := by
  obtain ⟨links, screens, once, queues, owed⟩ := h
  refine ⟨fun l => ?_, Table.forall_get screens, once, fun l r => ⟨(queues l).1 r, (queues l).2.1 r,
    fun e => ?_, fun x e _ ⟨dirty, present, valid⟩ =>
      owed _ (Table.mem_of_get _ _ _ e) _ (mem_slotOrder _) dirty present valid⟩⟩
  · obtain ⟨timer, off, flying, named⟩ := links l
    exact ⟨timer, off, flying, fun x e => named x (by simp [e])⟩
  · simp only [Link.queued, Bool.or_eq_true, decide_eq_true_eq] at e
    obtain ⟨on, still, ready⟩ := (queues l).2.2 r (List.mem_append.mpr e)
    exact ⟨on, still, by simpa [Option.any_eq_true] using ready⟩

/-- The degrees recorded bound the edge ends. -/
theorem degreeInv_of_check {s : State} (hw : Table.wf s.graph.edges = true) (h : GraphInv s)
    (hd : ∀ r ∈ s.graph.nodes, r.2.degree ≤ 8) :
    DegreeInv s := by
  intro n
  cases hn : s.node n with
  | some x =>
    have := (h.2.2.2.2.1 n x hn).1
    exact this ▸ hd _ (Table.mem_of_get _ _ _ hn)
  | none =>
    have : s.endsAt n = 0 := by
      simp only [State.endsAt, Table.count, List.length_eq_zero_iff, List.filter_eq_nil_iff]
      intro r hr hh
      have he := h.1 r.1 r.2 ((Table.get_iff_mem _ hw r.1 r.2).mpr hr)
      simp only [Edge.hasEnd, Bool.or_eq_true, decide_eq_true_eq] at hh
      rcases hh with e | e
      · simpa [e, hn] using he.2.1
      · simpa [e, hn] using he.2.2
    omega

/-- Every cabin that waits is live, as a check over the queues. -/
theorem queuedLive_of_check {s : State} {i : Fin 16}
    (h : ∀ c ∈ (s.trunk i).urgent ++ (s.trunk i).ordinary, (s.cabinAt c).isSome) : QueuedLive s i :=
  fun c hc => h c (List.mem_append.mpr hc)

/-! ### All of them -/

/-- Every record of every table is in order, as checks over the records listed. -/
abbrev RecordsChecked (s : State) : Prop := TablesChecked s ∧ GraphChecked s ∧ TargetsChecked s

/-- The invariants that the records meet. -/
theorem records_of_checked {s : State} (h : RecordsChecked s) : TablesWf s ∧ GraphInv s ∧ TargetInv s :=
  ⟨h.1, graphInv_of_checked h.2.1, targetInv_of_checked h.2.2⟩

end Machine
end Sys2Proof
end

