-- ==== Sys2Proof/Laws/State.lean ====
section
/-! SUPPORT. What each record update of `State` leaves alone, and what it writes: one lemma for each
field and update, so that no later proof unfolds an update. -/

set_option Elab.async false

namespace Sys2Proof.Machine

/-! ### `setTrunk` -/

@[simp] theorem setTrunk_graph (s : State) (i : Fin 16) (t : Trunk) : (s.setTrunk i t).graph = s.graph := rfl
@[simp] theorem setTrunk_route (s : State) (i : Fin 16) (t : Trunk) : (s.setTrunk i t).route = s.route := rfl
@[simp] theorem setTrunk_target (s : State) (i : Fin 16) (t : Trunk) : (s.setTrunk i t).target = s.target := rfl
@[simp] theorem setTrunk_cabin (s : State) (i : Fin 16) (t : Trunk) : (s.setTrunk i t).cabin = s.cabin := rfl
@[simp] theorem setTrunk_programme (s : State) (i : Fin 16) (t : Trunk) : (s.setTrunk i t).programme = s.programme := rfl
@[simp] theorem setTrunk_screen (s : State) (i : Fin 16) (t : Trunk) : (s.setTrunk i t).screen = s.screen := rfl
@[simp] theorem setTrunk_muster (s : State) (i : Fin 16) (t : Trunk) : (s.setTrunk i t).muster = s.muster := rfl
@[simp] theorem setTrunk_port (s : State) (i : Fin 16) (t : Trunk) : (s.setTrunk i t).port = s.port := rfl
@[simp] theorem setTrunk_fresh (s : State) (i : Fin 16) (t : Trunk) : (s.setTrunk i t).fresh = s.fresh := rfl
@[simp] theorem setTrunk_pending (s : State) (i : Fin 16) (t : Trunk) : (s.setTrunk i t).pending = s.pending := rfl

/-! ### `modTrunk` -/

@[simp] theorem modTrunk_graph (s : State) (i : Fin 16) (f : Trunk → Trunk) : (s.modTrunk i f).graph = s.graph := rfl
@[simp] theorem modTrunk_route (s : State) (i : Fin 16) (f : Trunk → Trunk) : (s.modTrunk i f).route = s.route := rfl
@[simp] theorem modTrunk_target (s : State) (i : Fin 16) (f : Trunk → Trunk) : (s.modTrunk i f).target = s.target := rfl
@[simp] theorem modTrunk_cabin (s : State) (i : Fin 16) (f : Trunk → Trunk) : (s.modTrunk i f).cabin = s.cabin := rfl
@[simp] theorem modTrunk_programme (s : State) (i : Fin 16) (f : Trunk → Trunk) : (s.modTrunk i f).programme = s.programme := rfl
@[simp] theorem modTrunk_screen (s : State) (i : Fin 16) (f : Trunk → Trunk) : (s.modTrunk i f).screen = s.screen := rfl
@[simp] theorem modTrunk_muster (s : State) (i : Fin 16) (f : Trunk → Trunk) : (s.modTrunk i f).muster = s.muster := rfl
@[simp] theorem modTrunk_port (s : State) (i : Fin 16) (f : Trunk → Trunk) : (s.modTrunk i f).port = s.port := rfl
@[simp] theorem modTrunk_fresh (s : State) (i : Fin 16) (f : Trunk → Trunk) : (s.modTrunk i f).fresh = s.fresh := rfl
@[simp] theorem modTrunk_pending (s : State) (i : Fin 16) (f : Trunk → Trunk) : (s.modTrunk i f).pending = s.pending := rfl

/-! ### `setLink` -/

@[simp] theorem setLink_graph (s : State) (l : Fin 4) (k : Link) : (s.setLink l k).graph = s.graph := rfl
@[simp] theorem setLink_route (s : State) (l : Fin 4) (k : Link) : (s.setLink l k).route = s.route := rfl
@[simp] theorem setLink_target (s : State) (l : Fin 4) (k : Link) : (s.setLink l k).target = s.target := rfl
@[simp] theorem setLink_cabin (s : State) (l : Fin 4) (k : Link) : (s.setLink l k).cabin = s.cabin := rfl
@[simp] theorem setLink_plate (s : State) (l : Fin 4) (k : Link) : (s.setLink l k).plate = s.plate := rfl
@[simp] theorem setLink_programme (s : State) (l : Fin 4) (k : Link) : (s.setLink l k).programme = s.programme := rfl
@[simp] theorem setLink_muster (s : State) (l : Fin 4) (k : Link) : (s.setLink l k).muster = s.muster := rfl
@[simp] theorem setLink_port (s : State) (l : Fin 4) (k : Link) : (s.setLink l k).port = s.port := rfl
@[simp] theorem setLink_fresh (s : State) (l : Fin 4) (k : Link) : (s.setLink l k).fresh = s.fresh := rfl
@[simp] theorem setLink_pending (s : State) (l : Fin 4) (k : Link) : (s.setLink l k).pending = s.pending := rfl

/-! ### `modLink` -/

@[simp] theorem modLink_graph (s : State) (l : Fin 4) (f : Link → Link) : (s.modLink l f).graph = s.graph := rfl
@[simp] theorem modLink_route (s : State) (l : Fin 4) (f : Link → Link) : (s.modLink l f).route = s.route := rfl
@[simp] theorem modLink_target (s : State) (l : Fin 4) (f : Link → Link) : (s.modLink l f).target = s.target := rfl
@[simp] theorem modLink_cabin (s : State) (l : Fin 4) (f : Link → Link) : (s.modLink l f).cabin = s.cabin := rfl
@[simp] theorem modLink_plate (s : State) (l : Fin 4) (f : Link → Link) : (s.modLink l f).plate = s.plate := rfl
@[simp] theorem modLink_programme (s : State) (l : Fin 4) (f : Link → Link) : (s.modLink l f).programme = s.programme := rfl
@[simp] theorem modLink_muster (s : State) (l : Fin 4) (f : Link → Link) : (s.modLink l f).muster = s.muster := rfl
@[simp] theorem modLink_port (s : State) (l : Fin 4) (f : Link → Link) : (s.modLink l f).port = s.port := rfl
@[simp] theorem modLink_fresh (s : State) (l : Fin 4) (f : Link → Link) : (s.modLink l f).fresh = s.fresh := rfl
@[simp] theorem modLink_pending (s : State) (l : Fin 4) (f : Link → Link) : (s.modLink l f).pending = s.pending := rfl

/-! ### `modNode` -/

@[simp] theorem modNode_route (s : State) (n : Nat) (f : Node → Node) : (s.modNode n f).route = s.route := rfl
@[simp] theorem modNode_target (s : State) (n : Nat) (f : Node → Node) : (s.modNode n f).target = s.target := rfl
@[simp] theorem modNode_cabin (s : State) (n : Nat) (f : Node → Node) : (s.modNode n f).cabin = s.cabin := rfl
@[simp] theorem modNode_plate (s : State) (n : Nat) (f : Node → Node) : (s.modNode n f).plate = s.plate := rfl
@[simp] theorem modNode_programme (s : State) (n : Nat) (f : Node → Node) : (s.modNode n f).programme = s.programme := rfl
@[simp] theorem modNode_screen (s : State) (n : Nat) (f : Node → Node) : (s.modNode n f).screen = s.screen := rfl
@[simp] theorem modNode_muster (s : State) (n : Nat) (f : Node → Node) : (s.modNode n f).muster = s.muster := rfl
@[simp] theorem modNode_port (s : State) (n : Nat) (f : Node → Node) : (s.modNode n f).port = s.port := rfl
@[simp] theorem modNode_fresh (s : State) (n : Nat) (f : Node → Node) : (s.modNode n f).fresh = s.fresh := rfl
@[simp] theorem modNode_pending (s : State) (n : Nat) (f : Node → Node) : (s.modNode n f).pending = s.pending := rfl

/-! ### `modTarget` -/

@[simp] theorem modTarget_graph (s : State) (t : Nat) (f : Target → Target) : (s.modTarget t f).graph = s.graph := rfl
@[simp] theorem modTarget_route (s : State) (t : Nat) (f : Target → Target) : (s.modTarget t f).route = s.route := rfl
@[simp] theorem modTarget_cabin (s : State) (t : Nat) (f : Target → Target) : (s.modTarget t f).cabin = s.cabin := rfl
@[simp] theorem modTarget_plate (s : State) (t : Nat) (f : Target → Target) : (s.modTarget t f).plate = s.plate := rfl
@[simp] theorem modTarget_programme (s : State) (t : Nat) (f : Target → Target) : (s.modTarget t f).programme = s.programme := rfl
@[simp] theorem modTarget_screen (s : State) (t : Nat) (f : Target → Target) : (s.modTarget t f).screen = s.screen := rfl
@[simp] theorem modTarget_muster (s : State) (t : Nat) (f : Target → Target) : (s.modTarget t f).muster = s.muster := rfl
@[simp] theorem modTarget_port (s : State) (t : Nat) (f : Target → Target) : (s.modTarget t f).port = s.port := rfl
@[simp] theorem modTarget_fresh (s : State) (t : Nat) (f : Target → Target) : (s.modTarget t f).fresh = s.fresh := rfl
@[simp] theorem modTarget_pending (s : State) (t : Nat) (f : Target → Target) : (s.modTarget t f).pending = s.pending := rfl

/-! ### `modStation` -/

@[simp] theorem modStation_graph (s : State) (t : Nat) (f : Station → Station) : (s.modStation t f).graph = s.graph := rfl
@[simp] theorem modStation_route (s : State) (t : Nat) (f : Station → Station) : (s.modStation t f).route = s.route := rfl
@[simp] theorem modStation_cabin (s : State) (t : Nat) (f : Station → Station) : (s.modStation t f).cabin = s.cabin := rfl
@[simp] theorem modStation_plate (s : State) (t : Nat) (f : Station → Station) : (s.modStation t f).plate = s.plate := rfl
@[simp] theorem modStation_programme (s : State) (t : Nat) (f : Station → Station) : (s.modStation t f).programme = s.programme := rfl
@[simp] theorem modStation_screen (s : State) (t : Nat) (f : Station → Station) : (s.modStation t f).screen = s.screen := rfl
@[simp] theorem modStation_muster (s : State) (t : Nat) (f : Station → Station) : (s.modStation t f).muster = s.muster := rfl
@[simp] theorem modStation_port (s : State) (t : Nat) (f : Station → Station) : (s.modStation t f).port = s.port := rfl
@[simp] theorem modStation_fresh (s : State) (t : Nat) (f : Station → Station) : (s.modStation t f).fresh = s.fresh := rfl
@[simp] theorem modStation_pending (s : State) (t : Nat) (f : Station → Station) : (s.modStation t f).pending = s.pending := rfl

/-! ### `modCabin` -/

@[simp] theorem modCabin_graph (s : State) (c : Nat) (f : Cabin → Cabin) : (s.modCabin c f).graph = s.graph := rfl
@[simp] theorem modCabin_route (s : State) (c : Nat) (f : Cabin → Cabin) : (s.modCabin c f).route = s.route := rfl
@[simp] theorem modCabin_target (s : State) (c : Nat) (f : Cabin → Cabin) : (s.modCabin c f).target = s.target := rfl
@[simp] theorem modCabin_plate (s : State) (c : Nat) (f : Cabin → Cabin) : (s.modCabin c f).plate = s.plate := rfl
@[simp] theorem modCabin_programme (s : State) (c : Nat) (f : Cabin → Cabin) : (s.modCabin c f).programme = s.programme := rfl
@[simp] theorem modCabin_screen (s : State) (c : Nat) (f : Cabin → Cabin) : (s.modCabin c f).screen = s.screen := rfl
@[simp] theorem modCabin_muster (s : State) (c : Nat) (f : Cabin → Cabin) : (s.modCabin c f).muster = s.muster := rfl
@[simp] theorem modCabin_port (s : State) (c : Nat) (f : Cabin → Cabin) : (s.modCabin c f).port = s.port := rfl
@[simp] theorem modCabin_fresh (s : State) (c : Nat) (f : Cabin → Cabin) : (s.modCabin c f).fresh = s.fresh := rfl
@[simp] theorem modCabin_pending (s : State) (c : Nat) (f : Cabin → Cabin) : (s.modCabin c f).pending = s.pending := rfl

/-! ### `modEntry` -/

@[simp] theorem modEntry_graph (s : State) (e : Nat) (f : Entry → Entry) : (s.modEntry e f).graph = s.graph := rfl
@[simp] theorem modEntry_route (s : State) (e : Nat) (f : Entry → Entry) : (s.modEntry e f).route = s.route := rfl
@[simp] theorem modEntry_target (s : State) (e : Nat) (f : Entry → Entry) : (s.modEntry e f).target = s.target := rfl
@[simp] theorem modEntry_cabin (s : State) (e : Nat) (f : Entry → Entry) : (s.modEntry e f).cabin = s.cabin := rfl
@[simp] theorem modEntry_plate (s : State) (e : Nat) (f : Entry → Entry) : (s.modEntry e f).plate = s.plate := rfl
@[simp] theorem modEntry_screen (s : State) (e : Nat) (f : Entry → Entry) : (s.modEntry e f).screen = s.screen := rfl
@[simp] theorem modEntry_muster (s : State) (e : Nat) (f : Entry → Entry) : (s.modEntry e f).muster = s.muster := rfl
@[simp] theorem modEntry_port (s : State) (e : Nat) (f : Entry → Entry) : (s.modEntry e f).port = s.port := rfl
@[simp] theorem modEntry_fresh (s : State) (e : Nat) (f : Entry → Entry) : (s.modEntry e f).fresh = s.fresh := rfl
@[simp] theorem modEntry_pending (s : State) (e : Nat) (f : Entry → Entry) : (s.modEntry e f).pending = s.pending := rfl

/-! ### `modScreen` -/

@[simp] theorem modScreen_graph (s : State) (n : Nat) (f : Screen → Screen) : (s.modScreen n f).graph = s.graph := rfl
@[simp] theorem modScreen_route (s : State) (n : Nat) (f : Screen → Screen) : (s.modScreen n f).route = s.route := rfl
@[simp] theorem modScreen_target (s : State) (n : Nat) (f : Screen → Screen) : (s.modScreen n f).target = s.target := rfl
@[simp] theorem modScreen_cabin (s : State) (n : Nat) (f : Screen → Screen) : (s.modScreen n f).cabin = s.cabin := rfl
@[simp] theorem modScreen_plate (s : State) (n : Nat) (f : Screen → Screen) : (s.modScreen n f).plate = s.plate := rfl
@[simp] theorem modScreen_programme (s : State) (n : Nat) (f : Screen → Screen) : (s.modScreen n f).programme = s.programme := rfl
@[simp] theorem modScreen_muster (s : State) (n : Nat) (f : Screen → Screen) : (s.modScreen n f).muster = s.muster := rfl
@[simp] theorem modScreen_port (s : State) (n : Nat) (f : Screen → Screen) : (s.modScreen n f).port = s.port := rfl
@[simp] theorem modScreen_fresh (s : State) (n : Nat) (f : Screen → Screen) : (s.modScreen n f).fresh = s.fresh := rfl
@[simp] theorem modScreen_pending (s : State) (n : Nat) (f : Screen → Screen) : (s.modScreen n f).pending = s.pending := rfl

/-! ### `claimNode` -/

@[simp] theorem claimNode_route (s : State) (n : Nat) : (s.claimNode n).route = s.route := rfl
@[simp] theorem claimNode_target (s : State) (n : Nat) : (s.claimNode n).target = s.target := rfl
@[simp] theorem claimNode_cabin (s : State) (n : Nat) : (s.claimNode n).cabin = s.cabin := rfl
@[simp] theorem claimNode_plate (s : State) (n : Nat) : (s.claimNode n).plate = s.plate := rfl
@[simp] theorem claimNode_programme (s : State) (n : Nat) : (s.claimNode n).programme = s.programme := rfl
@[simp] theorem claimNode_screen (s : State) (n : Nat) : (s.claimNode n).screen = s.screen := rfl
@[simp] theorem claimNode_muster (s : State) (n : Nat) : (s.claimNode n).muster = s.muster := rfl
@[simp] theorem claimNode_port (s : State) (n : Nat) : (s.claimNode n).port = s.port := rfl
@[simp] theorem claimNode_fresh (s : State) (n : Nat) : (s.claimNode n).fresh = s.fresh := rfl
@[simp] theorem claimNode_pending (s : State) (n : Nat) : (s.claimNode n).pending = s.pending := rfl

/-! ### `releaseNode` -/

@[simp] theorem releaseNode_route (s : State) (n : Nat) : (s.releaseNode n).route = s.route := rfl
@[simp] theorem releaseNode_target (s : State) (n : Nat) : (s.releaseNode n).target = s.target := rfl
@[simp] theorem releaseNode_cabin (s : State) (n : Nat) : (s.releaseNode n).cabin = s.cabin := rfl
@[simp] theorem releaseNode_plate (s : State) (n : Nat) : (s.releaseNode n).plate = s.plate := rfl
@[simp] theorem releaseNode_programme (s : State) (n : Nat) : (s.releaseNode n).programme = s.programme := rfl
@[simp] theorem releaseNode_screen (s : State) (n : Nat) : (s.releaseNode n).screen = s.screen := rfl
@[simp] theorem releaseNode_muster (s : State) (n : Nat) : (s.releaseNode n).muster = s.muster := rfl
@[simp] theorem releaseNode_port (s : State) (n : Nat) : (s.releaseNode n).port = s.port := rfl
@[simp] theorem releaseNode_fresh (s : State) (n : Nat) : (s.releaseNode n).fresh = s.fresh := rfl
@[simp] theorem releaseNode_pending (s : State) (n : Nat) : (s.releaseNode n).pending = s.pending := rfl

/-! ### `claimTarget` -/

@[simp] theorem claimTarget_graph (s : State) (t : Nat) : (s.claimTarget t).graph = s.graph := rfl
@[simp] theorem claimTarget_route (s : State) (t : Nat) : (s.claimTarget t).route = s.route := rfl
@[simp] theorem claimTarget_cabin (s : State) (t : Nat) : (s.claimTarget t).cabin = s.cabin := rfl
@[simp] theorem claimTarget_plate (s : State) (t : Nat) : (s.claimTarget t).plate = s.plate := rfl
@[simp] theorem claimTarget_programme (s : State) (t : Nat) : (s.claimTarget t).programme = s.programme := rfl
@[simp] theorem claimTarget_screen (s : State) (t : Nat) : (s.claimTarget t).screen = s.screen := rfl
@[simp] theorem claimTarget_muster (s : State) (t : Nat) : (s.claimTarget t).muster = s.muster := rfl
@[simp] theorem claimTarget_port (s : State) (t : Nat) : (s.claimTarget t).port = s.port := rfl
@[simp] theorem claimTarget_fresh (s : State) (t : Nat) : (s.claimTarget t).fresh = s.fresh := rfl
@[simp] theorem claimTarget_pending (s : State) (t : Nat) : (s.claimTarget t).pending = s.pending := rfl

/-! ### `releaseTarget` -/

@[simp] theorem releaseTarget_graph (s : State) (t : Nat) : (s.releaseTarget t).graph = s.graph := rfl
@[simp] theorem releaseTarget_route (s : State) (t : Nat) : (s.releaseTarget t).route = s.route := rfl
@[simp] theorem releaseTarget_cabin (s : State) (t : Nat) : (s.releaseTarget t).cabin = s.cabin := rfl
@[simp] theorem releaseTarget_plate (s : State) (t : Nat) : (s.releaseTarget t).plate = s.plate := rfl
@[simp] theorem releaseTarget_programme (s : State) (t : Nat) : (s.releaseTarget t).programme = s.programme := rfl
@[simp] theorem releaseTarget_screen (s : State) (t : Nat) : (s.releaseTarget t).screen = s.screen := rfl
@[simp] theorem releaseTarget_muster (s : State) (t : Nat) : (s.releaseTarget t).muster = s.muster := rfl
@[simp] theorem releaseTarget_port (s : State) (t : Nat) : (s.releaseTarget t).port = s.port := rfl
@[simp] theorem releaseTarget_fresh (s : State) (t : Nat) : (s.releaseTarget t).fresh = s.fresh := rfl
@[simp] theorem releaseTarget_pending (s : State) (t : Nat) : (s.releaseTarget t).pending = s.pending := rfl

/-! ### `raiseNotice` -/

@[simp] theorem raiseNotice_graph (s : State) (n : Notice) : (s.raiseNotice n).graph = s.graph := rfl
@[simp] theorem raiseNotice_route (s : State) (n : Notice) : (s.raiseNotice n).route = s.route := rfl
@[simp] theorem raiseNotice_target (s : State) (n : Notice) : (s.raiseNotice n).target = s.target := rfl
@[simp] theorem raiseNotice_cabin (s : State) (n : Notice) : (s.raiseNotice n).cabin = s.cabin := rfl
@[simp] theorem raiseNotice_plate (s : State) (n : Notice) : (s.raiseNotice n).plate = s.plate := rfl
@[simp] theorem raiseNotice_programme (s : State) (n : Notice) : (s.raiseNotice n).programme = s.programme := rfl
@[simp] theorem raiseNotice_screen (s : State) (n : Notice) : (s.raiseNotice n).screen = s.screen := rfl
@[simp] theorem raiseNotice_muster (s : State) (n : Notice) : (s.raiseNotice n).muster = s.muster := rfl
@[simp] theorem raiseNotice_fresh (s : State) (n : Notice) : (s.raiseNotice n).fresh = s.fresh := rfl
@[simp] theorem raiseNotice_pending (s : State) (n : Notice) : (s.raiseNotice n).pending = s.pending := rfl

/-! ### `raiseGens` -/

@[simp] theorem raiseGens_route (s : State) (b : Bool) : (s.raiseGens b).route = s.route := rfl
@[simp] theorem raiseGens_target (s : State) (b : Bool) : (s.raiseGens b).target = s.target := rfl
@[simp] theorem raiseGens_cabin (s : State) (b : Bool) : (s.raiseGens b).cabin = s.cabin := rfl
@[simp] theorem raiseGens_plate (s : State) (b : Bool) : (s.raiseGens b).plate = s.plate := rfl
@[simp] theorem raiseGens_programme (s : State) (b : Bool) : (s.raiseGens b).programme = s.programme := rfl
@[simp] theorem raiseGens_screen (s : State) (b : Bool) : (s.raiseGens b).screen = s.screen := rfl
@[simp] theorem raiseGens_muster (s : State) (b : Bool) : (s.raiseGens b).muster = s.muster := rfl
@[simp] theorem raiseGens_port (s : State) (b : Bool) : (s.raiseGens b).port = s.port := rfl
@[simp] theorem raiseGens_fresh (s : State) (b : Bool) : (s.raiseGens b).fresh = s.fresh := rfl
@[simp] theorem raiseGens_pending (s : State) (b : Bool) : (s.raiseGens b).pending = s.pending := rfl

/-! ### `modMap` -/

@[simp] theorem modMap_graph (s : State) (m : MapName) (f : RouteMap → RouteMap) : (s.modMap m f).graph = s.graph := rfl
@[simp] theorem modMap_target (s : State) (m : MapName) (f : RouteMap → RouteMap) : (s.modMap m f).target = s.target := rfl
@[simp] theorem modMap_cabin (s : State) (m : MapName) (f : RouteMap → RouteMap) : (s.modMap m f).cabin = s.cabin := rfl
@[simp] theorem modMap_plate (s : State) (m : MapName) (f : RouteMap → RouteMap) : (s.modMap m f).plate = s.plate := rfl
@[simp] theorem modMap_programme (s : State) (m : MapName) (f : RouteMap → RouteMap) : (s.modMap m f).programme = s.programme := rfl
@[simp] theorem modMap_screen (s : State) (m : MapName) (f : RouteMap → RouteMap) : (s.modMap m f).screen = s.screen := rfl
@[simp] theorem modMap_muster (s : State) (m : MapName) (f : RouteMap → RouteMap) : (s.modMap m f).muster = s.muster := rfl
@[simp] theorem modMap_port (s : State) (m : MapName) (f : RouteMap → RouteMap) : (s.modMap m f).port = s.port := rfl
@[simp] theorem modMap_fresh (s : State) (m : MapName) (f : RouteMap → RouteMap) : (s.modMap m f).fresh = s.fresh := rfl
@[simp] theorem modMap_pending (s : State) (m : MapName) (f : RouteMap → RouteMap) : (s.modMap m f).pending = s.pending := rfl

/-! ### `setUnassigned` -/

@[simp] theorem setUnassigned_graph (s : State) (n : Nat) : (s.setUnassigned n).graph = s.graph := rfl
@[simp] theorem setUnassigned_route (s : State) (n : Nat) : (s.setUnassigned n).route = s.route := rfl
@[simp] theorem setUnassigned_cabin (s : State) (n : Nat) : (s.setUnassigned n).cabin = s.cabin := rfl
@[simp] theorem setUnassigned_plate (s : State) (n : Nat) : (s.setUnassigned n).plate = s.plate := rfl
@[simp] theorem setUnassigned_programme (s : State) (n : Nat) : (s.setUnassigned n).programme = s.programme := rfl
@[simp] theorem setUnassigned_screen (s : State) (n : Nat) : (s.setUnassigned n).screen = s.screen := rfl
@[simp] theorem setUnassigned_muster (s : State) (n : Nat) : (s.setUnassigned n).muster = s.muster := rfl
@[simp] theorem setUnassigned_port (s : State) (n : Nat) : (s.setUnassigned n).port = s.port := rfl
@[simp] theorem setUnassigned_fresh (s : State) (n : Nat) : (s.setUnassigned n).fresh = s.fresh := rfl
@[simp] theorem setUnassigned_pending (s : State) (n : Nat) : (s.setUnassigned n).pending = s.pending := rfl

/-! ### `setClock` -/

@[simp] theorem setClock_graph (s : State) (c : ClockTime) : (s.setClock c).graph = s.graph := rfl
@[simp] theorem setClock_route (s : State) (c : ClockTime) : (s.setClock c).route = s.route := rfl
@[simp] theorem setClock_target (s : State) (c : ClockTime) : (s.setClock c).target = s.target := rfl
@[simp] theorem setClock_cabin (s : State) (c : ClockTime) : (s.setClock c).cabin = s.cabin := rfl
@[simp] theorem setClock_plate (s : State) (c : ClockTime) : (s.setClock c).plate = s.plate := rfl
@[simp] theorem setClock_screen (s : State) (c : ClockTime) : (s.setClock c).screen = s.screen := rfl
@[simp] theorem setClock_muster (s : State) (c : ClockTime) : (s.setClock c).muster = s.muster := rfl
@[simp] theorem setClock_port (s : State) (c : ClockTime) : (s.setClock c).port = s.port := rfl
@[simp] theorem setClock_fresh (s : State) (c : ClockTime) : (s.setClock c).fresh = s.fresh := rfl
@[simp] theorem setClock_pending (s : State) (c : ClockTime) : (s.setClock c).pending = s.pending := rfl

/-! ### `raiseSlot` -/

@[simp] theorem raiseSlot_graph (s : State) (r : SlotRef) : (s.raiseSlot r).graph = s.graph := rfl
@[simp] theorem raiseSlot_route (s : State) (r : SlotRef) : (s.raiseSlot r).route = s.route := rfl
@[simp] theorem raiseSlot_target (s : State) (r : SlotRef) : (s.raiseSlot r).target = s.target := rfl
@[simp] theorem raiseSlot_cabin (s : State) (r : SlotRef) : (s.raiseSlot r).cabin = s.cabin := rfl
@[simp] theorem raiseSlot_plate (s : State) (r : SlotRef) : (s.raiseSlot r).plate = s.plate := rfl
@[simp] theorem raiseSlot_programme (s : State) (r : SlotRef) : (s.raiseSlot r).programme = s.programme := rfl
@[simp] theorem raiseSlot_muster (s : State) (r : SlotRef) : (s.raiseSlot r).muster = s.muster := rfl
@[simp] theorem raiseSlot_port (s : State) (r : SlotRef) : (s.raiseSlot r).port = s.port := rfl
@[simp] theorem raiseSlot_fresh (s : State) (r : SlotRef) : (s.raiseSlot r).fresh = s.fresh := rfl
@[simp] theorem raiseSlot_pending (s : State) (r : SlotRef) : (s.raiseSlot r).pending = s.pending := rfl

/-! ### `modScreensOn` -/

@[simp] theorem modScreensOn_graph (s : State) (l : Fin 4) (f : Screen → Screen) : (s.modScreensOn l f).graph = s.graph := rfl
@[simp] theorem modScreensOn_route (s : State) (l : Fin 4) (f : Screen → Screen) : (s.modScreensOn l f).route = s.route := rfl
@[simp] theorem modScreensOn_target (s : State) (l : Fin 4) (f : Screen → Screen) : (s.modScreensOn l f).target = s.target := rfl
@[simp] theorem modScreensOn_cabin (s : State) (l : Fin 4) (f : Screen → Screen) : (s.modScreensOn l f).cabin = s.cabin := rfl
@[simp] theorem modScreensOn_plate (s : State) (l : Fin 4) (f : Screen → Screen) : (s.modScreensOn l f).plate = s.plate := rfl
@[simp] theorem modScreensOn_programme (s : State) (l : Fin 4) (f : Screen → Screen) : (s.modScreensOn l f).programme = s.programme := rfl
@[simp] theorem modScreensOn_muster (s : State) (l : Fin 4) (f : Screen → Screen) : (s.modScreensOn l f).muster = s.muster := rfl
@[simp] theorem modScreensOn_port (s : State) (l : Fin 4) (f : Screen → Screen) : (s.modScreensOn l f).port = s.port := rfl
@[simp] theorem modScreensOn_fresh (s : State) (l : Fin 4) (f : Screen → Screen) : (s.modScreensOn l f).fresh = s.fresh := rfl
@[simp] theorem modScreensOn_pending (s : State) (l : Fin 4) (f : Screen → Screen) : (s.modScreensOn l f).pending = s.pending := rfl

/-! ### `leaveService` -/

@[simp] theorem leaveService_graph (s : State) (c : Nat) : (s.leaveService c).graph = s.graph := rfl
@[simp] theorem leaveService_route (s : State) (c : Nat) : (s.leaveService c).route = s.route := rfl
@[simp] theorem leaveService_target (s : State) (c : Nat) : (s.leaveService c).target = s.target := rfl
@[simp] theorem leaveService_plate (s : State) (c : Nat) : (s.leaveService c).plate = s.plate := rfl
@[simp] theorem leaveService_programme (s : State) (c : Nat) : (s.leaveService c).programme = s.programme := rfl
@[simp] theorem leaveService_screen (s : State) (c : Nat) : (s.leaveService c).screen = s.screen := rfl
@[simp] theorem leaveService_muster (s : State) (c : Nat) : (s.leaveService c).muster = s.muster := rfl
@[simp] theorem leaveService_port (s : State) (c : Nat) : (s.leaveService c).port = s.port := rfl
@[simp] theorem leaveService_fresh (s : State) (c : Nat) : (s.leaveService c).fresh = s.fresh := rfl
@[simp] theorem leaveService_pending (s : State) (c : Nat) : (s.leaveService c).pending = s.pending := rfl

/-! ### `joinService` -/

@[simp] theorem joinService_graph (s : State) (c : Nat) : (s.joinService c).graph = s.graph := rfl
@[simp] theorem joinService_route (s : State) (c : Nat) : (s.joinService c).route = s.route := rfl
@[simp] theorem joinService_target (s : State) (c : Nat) : (s.joinService c).target = s.target := rfl
@[simp] theorem joinService_plate (s : State) (c : Nat) : (s.joinService c).plate = s.plate := rfl
@[simp] theorem joinService_programme (s : State) (c : Nat) : (s.joinService c).programme = s.programme := rfl
@[simp] theorem joinService_screen (s : State) (c : Nat) : (s.joinService c).screen = s.screen := rfl
@[simp] theorem joinService_muster (s : State) (c : Nat) : (s.joinService c).muster = s.muster := rfl
@[simp] theorem joinService_port (s : State) (c : Nat) : (s.joinService c).port = s.port := rfl
@[simp] theorem joinService_fresh (s : State) (c : Nat) : (s.joinService c).fresh = s.fresh := rfl
@[simp] theorem joinService_pending (s : State) (c : Nat) : (s.joinService c).pending = s.pending := rfl

/-! ### `raiseContent` -/

@[simp] theorem raiseContent_graph (s : State) (c : Nat) : (s.raiseContent c).graph = s.graph := rfl
@[simp] theorem raiseContent_route (s : State) (c : Nat) : (s.raiseContent c).route = s.route := rfl
@[simp] theorem raiseContent_target (s : State) (c : Nat) : (s.raiseContent c).target = s.target := rfl
@[simp] theorem raiseContent_plate (s : State) (c : Nat) : (s.raiseContent c).plate = s.plate := rfl
@[simp] theorem raiseContent_programme (s : State) (c : Nat) : (s.raiseContent c).programme = s.programme := rfl
@[simp] theorem raiseContent_screen (s : State) (c : Nat) : (s.raiseContent c).screen = s.screen := rfl
@[simp] theorem raiseContent_muster (s : State) (c : Nat) : (s.raiseContent c).muster = s.muster := rfl
@[simp] theorem raiseContent_port (s : State) (c : Nat) : (s.raiseContent c).port = s.port := rfl
@[simp] theorem raiseContent_fresh (s : State) (c : Nat) : (s.raiseContent c).fresh = s.fresh := rfl
@[simp] theorem raiseContent_pending (s : State) (c : Nat) : (s.raiseContent c).pending = s.pending := rfl

/-! ### `drive` -/

@[simp] theorem drive_graph (s : State) (out : List Byte) : (s.drive out).graph = s.graph := rfl
@[simp] theorem drive_route (s : State) (out : List Byte) : (s.drive out).route = s.route := rfl
@[simp] theorem drive_target (s : State) (out : List Byte) : (s.drive out).target = s.target := rfl
@[simp] theorem drive_cabin (s : State) (out : List Byte) : (s.drive out).cabin = s.cabin := rfl
@[simp] theorem drive_plate (s : State) (out : List Byte) : (s.drive out).plate = s.plate := rfl
@[simp] theorem drive_programme (s : State) (out : List Byte) : (s.drive out).programme = s.programme := rfl
@[simp] theorem drive_screen (s : State) (out : List Byte) : (s.drive out).screen = s.screen := rfl
@[simp] theorem drive_muster (s : State) (out : List Byte) : (s.drive out).muster = s.muster := rfl
@[simp] theorem drive_fresh (s : State) (out : List Byte) : (s.drive out).fresh = s.fresh := rfl
@[simp] theorem drive_pending (s : State) (out : List Byte) : (s.drive out).pending = s.pending := rfl

/-! ### `clearNotices` -/

@[simp] theorem clearNotices_graph (s : State) (set : Word16) : (s.clearNotices set).graph = s.graph := rfl
@[simp] theorem clearNotices_route (s : State) (set : Word16) : (s.clearNotices set).route = s.route := rfl
@[simp] theorem clearNotices_target (s : State) (set : Word16) : (s.clearNotices set).target = s.target := rfl
@[simp] theorem clearNotices_cabin (s : State) (set : Word16) : (s.clearNotices set).cabin = s.cabin := rfl
@[simp] theorem clearNotices_plate (s : State) (set : Word16) : (s.clearNotices set).plate = s.plate := rfl
@[simp] theorem clearNotices_programme (s : State) (set : Word16) : (s.clearNotices set).programme = s.programme := rfl
@[simp] theorem clearNotices_screen (s : State) (set : Word16) : (s.clearNotices set).screen = s.screen := rfl
@[simp] theorem clearNotices_muster (s : State) (set : Word16) : (s.clearNotices set).muster = s.muster := rfl
@[simp] theorem clearNotices_fresh (s : State) (set : Word16) : (s.clearNotices set).fresh = s.fresh := rfl
@[simp] theorem clearNotices_pending (s : State) (set : Word16) : (s.clearNotices set).pending = s.pending := rfl

/-! ### `setCursor` -/

@[simp] theorem setCursor_graph (s : State) (t : TableName) (k : Nat) : (s.setCursor t k).graph = s.graph := rfl
@[simp] theorem setCursor_route (s : State) (t : TableName) (k : Nat) : (s.setCursor t k).route = s.route := rfl
@[simp] theorem setCursor_target (s : State) (t : TableName) (k : Nat) : (s.setCursor t k).target = s.target := rfl
@[simp] theorem setCursor_cabin (s : State) (t : TableName) (k : Nat) : (s.setCursor t k).cabin = s.cabin := rfl
@[simp] theorem setCursor_plate (s : State) (t : TableName) (k : Nat) : (s.setCursor t k).plate = s.plate := rfl
@[simp] theorem setCursor_programme (s : State) (t : TableName) (k : Nat) : (s.setCursor t k).programme = s.programme := rfl
@[simp] theorem setCursor_screen (s : State) (t : TableName) (k : Nat) : (s.setCursor t k).screen = s.screen := rfl
@[simp] theorem setCursor_muster (s : State) (t : TableName) (k : Nat) : (s.setCursor t k).muster = s.muster := rfl
@[simp] theorem setCursor_fresh (s : State) (t : TableName) (k : Nat) : (s.setCursor t k).fresh = s.fresh := rfl
@[simp] theorem setCursor_pending (s : State) (t : TableName) (k : Nat) : (s.setCursor t k).pending = s.pending := rfl

/-! ### `beginRequest` -/

@[simp] theorem beginRequest_graph (s : State) : (s.beginRequest).graph = s.graph := rfl
@[simp] theorem beginRequest_route (s : State) : (s.beginRequest).route = s.route := rfl
@[simp] theorem beginRequest_target (s : State) : (s.beginRequest).target = s.target := rfl
@[simp] theorem beginRequest_cabin (s : State) : (s.beginRequest).cabin = s.cabin := rfl
@[simp] theorem beginRequest_plate (s : State) : (s.beginRequest).plate = s.plate := rfl
@[simp] theorem beginRequest_programme (s : State) : (s.beginRequest).programme = s.programme := rfl
@[simp] theorem beginRequest_screen (s : State) : (s.beginRequest).screen = s.screen := rfl
@[simp] theorem beginRequest_muster (s : State) : (s.beginRequest).muster = s.muster := rfl
@[simp] theorem beginRequest_fresh (s : State) : (s.beginRequest).fresh = s.fresh := rfl
@[simp] theorem beginRequest_pending (s : State) : (s.beginRequest).pending = s.pending := rfl

/-! ### `withPending` -/

@[simp] theorem withPending_graph (s : State) (cs : List Instr) : (s.withPending cs).graph = s.graph := rfl
@[simp] theorem withPending_route (s : State) (cs : List Instr) : (s.withPending cs).route = s.route := rfl
@[simp] theorem withPending_target (s : State) (cs : List Instr) : (s.withPending cs).target = s.target := rfl
@[simp] theorem withPending_cabin (s : State) (cs : List Instr) : (s.withPending cs).cabin = s.cabin := rfl
@[simp] theorem withPending_plate (s : State) (cs : List Instr) : (s.withPending cs).plate = s.plate := rfl
@[simp] theorem withPending_programme (s : State) (cs : List Instr) : (s.withPending cs).programme = s.programme := rfl
@[simp] theorem withPending_screen (s : State) (cs : List Instr) : (s.withPending cs).screen = s.screen := rfl
@[simp] theorem withPending_muster (s : State) (cs : List Instr) : (s.withPending cs).muster = s.muster := rfl
@[simp] theorem withPending_port (s : State) (cs : List Instr) : (s.withPending cs).port = s.port := rfl
@[simp] theorem withPending_fresh (s : State) (cs : List Instr) : (s.withPending cs).fresh = s.fresh := rfl

/-! ### `placeAnswer` -/

@[simp] theorem placeAnswer_graph (s : State) (tag : Byte) (r : Reply) : (s.placeAnswer tag r).graph = s.graph := rfl
@[simp] theorem placeAnswer_route (s : State) (tag : Byte) (r : Reply) : (s.placeAnswer tag r).route = s.route := rfl
@[simp] theorem placeAnswer_target (s : State) (tag : Byte) (r : Reply) : (s.placeAnswer tag r).target = s.target := rfl
@[simp] theorem placeAnswer_cabin (s : State) (tag : Byte) (r : Reply) : (s.placeAnswer tag r).cabin = s.cabin := rfl
@[simp] theorem placeAnswer_plate (s : State) (tag : Byte) (r : Reply) : (s.placeAnswer tag r).plate = s.plate := rfl
@[simp] theorem placeAnswer_programme (s : State) (tag : Byte) (r : Reply) : (s.placeAnswer tag r).programme = s.programme := rfl
@[simp] theorem placeAnswer_screen (s : State) (tag : Byte) (r : Reply) : (s.placeAnswer tag r).screen = s.screen := rfl
@[simp] theorem placeAnswer_muster (s : State) (tag : Byte) (r : Reply) : (s.placeAnswer tag r).muster = s.muster := rfl
@[simp] theorem placeAnswer_pending (s : State) (tag : Byte) (r : Reply) : (s.placeAnswer tag r).pending = s.pending := rfl

/-! ### What the updates write -/

@[simp] theorem withPending_pending (s : State) (cs : List Instr) : (s.withPending cs).pending = cs := rfl

@[simp] theorem raiseNotice_events (s : State) (n : Notice) :
    (s.raiseNotice n).port.events = s.port.events ||| n.flag := rfl

@[simp] theorem drive_out (s : State) (out : List Byte) : (s.drive out).port.out = out := rfl

@[simp] theorem setCursor_cursor (s : State) (t : TableName) (k : Nat) :
    (s.setCursor t k).port.cursor = { table := t, index := k } := rfl

@[simp] theorem placeAnswer_answer (s : State) (tag : Byte) (r : Reply) :
    (s.placeAnswer tag r).port.answer = some { tag, result := r.result, body := r.body } := rfl

@[simp] theorem placeAnswer_processing (s : State) (tag : Byte) (r : Reply) :
    (s.placeAnswer tag r).port.processing = false := rfl

@[simp] theorem setClock_clock (s : State) (c : ClockTime) : (s.setClock c).programme.clock = some c := rfl

/-! ### Trunks and links -/

@[simp] theorem trunk_setTrunk_same (s : State) (i : Fin 16) (t : Trunk) : (s.setTrunk i t).trunk i = t := by
  simp [State.trunk, State.setTrunk]

theorem trunk_setTrunk_other (s : State) (i j : Fin 16) (t : Trunk) (h : j ≠ i) :
    (s.setTrunk i t).trunk j = s.trunk j := by
  simp only [State.trunk, State.setTrunk]
  exact Vector.getElem_set_ne _ _ (fun e => h (Fin.ext e.symm))

@[simp] theorem trunk_modTrunk_same (s : State) (i : Fin 16) (f : Trunk → Trunk) :
    (s.modTrunk i f).trunk i = f (s.trunk i) := trunk_setTrunk_same s i _

theorem trunk_modTrunk_other (s : State) (i j : Fin 16) (f : Trunk → Trunk) (h : j ≠ i) :
    (s.modTrunk i f).trunk j = s.trunk j := trunk_setTrunk_other s i j _ h

@[simp] theorem link_setLink_same (s : State) (l : Fin 4) (k : Link) : (s.setLink l k).link l = k := by
  simp [State.link, State.setLink]

theorem link_setLink_other (s : State) (l m : Fin 4) (k : Link) (h : m ≠ l) :
    (s.setLink l k).link m = s.link m := by
  simp only [State.link, State.setLink]
  exact Vector.getElem_set_ne _ _ (fun e => h (Fin.ext e.symm))

@[simp] theorem link_modLink_same (s : State) (l : Fin 4) (f : Link → Link) :
    (s.modLink l f).link l = f (s.link l) := link_setLink_same s l _

theorem link_modLink_other (s : State) (l m : Fin 4) (f : Link → Link) (h : m ≠ l) :
    (s.modLink l f).link m = s.link m := link_setLink_other s l m _ h

@[simp] theorem modTrunk_inbound (s : State) (i : Fin 16) (f : Trunk → Trunk) :
    (s.modTrunk i f).plate.inbound = s.plate.inbound := rfl

@[simp] theorem modTrunk_surveyPeriod (s : State) (i : Fin 16) (f : Trunk → Trunk) :
    (s.modTrunk i f).plate.surveyPeriod = s.plate.surveyPeriod := rfl

@[simp] theorem modTrunk_holdLimit (s : State) (i : Fin 16) (f : Trunk → Trunk) :
    (s.modTrunk i f).plate.holdLimit = s.plate.holdLimit := rfl

@[simp] theorem modLink_screens (s : State) (l : Fin 4) (f : Link → Link) :
    (s.modLink l f).screen.screens = s.screen.screens := rfl

@[simp] theorem modScreen_links (s : State) (n : Nat) (f : Screen → Screen) :
    (s.modScreen n f).screen.links = s.screen.links := rfl

@[simp] theorem modCabin_service (s : State) (c : Nat) (f : Cabin → Cabin) :
    (s.modCabin c f).cabin.service = s.cabin.service := rfl

end Sys2Proof.Machine
end

