-- ==== Sys2Proof/Laws/Frames.lean ====
section
/-! SUPPORT. Which parts of the state each shared operation leaves alone. `simp` uses these instead of
unfolding the operations. -/

set_option Elab.async false

namespace Sys2Proof.Machine

/-- What every step of a fold keeps, the fold keeps. -/
theorem foldl_keeps {α β γ : Type} (f : β → γ) (g : β → α → β) (h : ∀ s a, f (g s a) = f s) (l : List α)
    (s : β) : f (l.foldl g s) = f s := by
  induction l generalizing s with
  | nil => rfl
  | cons a l ih => rw [List.foldl_cons, ih, h]

/-! ### Graph Store (R5, R14, R16) -/

@[simp] theorem addEnd_keeps (s : State) (n : Nat) :
    (s.addEnd n).route = s.route ∧ (s.addEnd n).target = s.target ∧ (s.addEnd n).cabin = s.cabin ∧
    (s.addEnd n).plate = s.plate ∧ (s.addEnd n).programme = s.programme ∧
    (s.addEnd n).screen = s.screen ∧ (s.addEnd n).muster = s.muster ∧ (s.addEnd n).port = s.port ∧
    (s.addEnd n).fresh = s.fresh ∧ (s.addEnd n).pending = s.pending := by
  and_intros <;> rfl

@[simp] theorem dropEnd_keeps (s : State) (n : Nat) :
    (s.dropEnd n).route = s.route ∧ (s.dropEnd n).target = s.target ∧ (s.dropEnd n).cabin = s.cabin ∧
    (s.dropEnd n).plate = s.plate ∧ (s.dropEnd n).programme = s.programme ∧
    (s.dropEnd n).screen = s.screen ∧ (s.dropEnd n).muster = s.muster ∧ (s.dropEnd n).port = s.port ∧
    (s.dropEnd n).fresh = s.fresh ∧ (s.dropEnd n).pending = s.pending := by
  and_intros <;> rfl

@[simp] theorem moveEnds_keeps (s : State) (old new : Edge) :
    (s.moveEnds old new).route = s.route ∧ (s.moveEnds old new).target = s.target ∧
    (s.moveEnds old new).cabin = s.cabin ∧ (s.moveEnds old new).plate = s.plate ∧
    (s.moveEnds old new).programme = s.programme ∧ (s.moveEnds old new).screen = s.screen ∧
    (s.moveEnds old new).muster = s.muster ∧ (s.moveEnds old new).port = s.port ∧
    (s.moveEnds old new).fresh = s.fresh ∧ (s.moveEnds old new).pending = s.pending := by
  simp only [State.moveEnds]
  repeat' split
  all_goals simp

@[simp] theorem liftRises_keeps (s : State) (c : Bool) :
    (s.liftRises c).route = s.route ∧ (s.liftRises c).target = s.target ∧
    (s.liftRises c).cabin = s.cabin ∧ (s.liftRises c).plate = s.plate ∧
    (s.liftRises c).programme = s.programme ∧ (s.liftRises c).screen = s.screen ∧
    (s.liftRises c).muster = s.muster ∧ (s.liftRises c).port = s.port ∧
    (s.liftRises c).fresh = s.fresh ∧ (s.liftRises c).pending = s.pending := by
  simp only [State.liftRises]
  repeat' split
  all_goals simp

@[simp] theorem liftFalls_keeps (s : State) (c : Bool) :
    (s.liftFalls c).route = s.route ∧ (s.liftFalls c).target = s.target ∧
    (s.liftFalls c).cabin = s.cabin ∧ (s.liftFalls c).plate = s.plate ∧
    (s.liftFalls c).programme = s.programme ∧ (s.liftFalls c).screen = s.screen ∧
    (s.liftFalls c).muster = s.muster ∧ (s.liftFalls c).port = s.port ∧
    (s.liftFalls c).fresh = s.fresh ∧ (s.liftFalls c).pending = s.pending := by
  simp only [State.liftFalls]
  repeat' split
  all_goals simp

/-! ### Route Engine (R25 to R36) -/

@[simp] theorem joinTail_keeps (s : State) (m : MapName) :
    (s.joinTail m).graph = s.graph ∧ (s.joinTail m).target = s.target ∧
    (s.joinTail m).cabin = s.cabin ∧ (s.joinTail m).plate = s.plate ∧
    (s.joinTail m).programme = s.programme ∧ (s.joinTail m).screen = s.screen ∧
    (s.joinTail m).muster = s.muster ∧ (s.joinTail m).port = s.port ∧ (s.joinTail m).fresh = s.fresh ∧
    (s.joinTail m).pending = s.pending := by
  simp only [State.joinTail]
  repeat' split
  all_goals simp

@[simp] theorem joinHead_keeps (s : State) (m : MapName) :
    (s.joinHead m).graph = s.graph ∧ (s.joinHead m).target = s.target ∧
    (s.joinHead m).cabin = s.cabin ∧ (s.joinHead m).plate = s.plate ∧
    (s.joinHead m).programme = s.programme ∧ (s.joinHead m).screen = s.screen ∧
    (s.joinHead m).muster = s.muster ∧ (s.joinHead m).port = s.port ∧ (s.joinHead m).fresh = s.fresh ∧
    (s.joinHead m).pending = s.pending := by
  simp only [State.joinHead]
  repeat' split
  all_goals simp

@[simp] theorem leaveQueue_keeps (s : State) (m : MapName) :
    (s.leaveQueue m).graph = s.graph ∧ (s.leaveQueue m).target = s.target ∧
    (s.leaveQueue m).cabin = s.cabin ∧ (s.leaveQueue m).plate = s.plate ∧
    (s.leaveQueue m).programme = s.programme ∧ (s.leaveQueue m).screen = s.screen ∧
    (s.leaveQueue m).muster = s.muster ∧ (s.leaveQueue m).port = s.port ∧
    (s.leaveQueue m).fresh = s.fresh ∧ (s.leaveQueue m).pending = s.pending := by
  and_intros <;> rfl

@[simp] theorem abandon_keeps (s : State) (m : MapName) :
    (s.abandon m).graph = s.graph ∧ (s.abandon m).target = s.target ∧ (s.abandon m).cabin = s.cabin ∧
    (s.abandon m).plate = s.plate ∧ (s.abandon m).programme = s.programme ∧
    (s.abandon m).screen = s.screen ∧ (s.abandon m).muster = s.muster ∧ (s.abandon m).port = s.port ∧
    (s.abandon m).fresh = s.fresh ∧ (s.abandon m).pending = s.pending := by
  simp [State.abandon]

@[simp] theorem outdate_keeps (s : State) (m : MapName) :
    (s.outdate m).graph = s.graph ∧ (s.outdate m).target = s.target ∧ (s.outdate m).cabin = s.cabin ∧
    (s.outdate m).plate = s.plate ∧ (s.outdate m).programme = s.programme ∧
    (s.outdate m).screen = s.screen ∧ (s.outdate m).muster = s.muster ∧ (s.outdate m).port = s.port ∧
    (s.outdate m).fresh = s.fresh ∧ (s.outdate m).pending = s.pending := by
  simp only [State.outdate]
  repeat' split
  all_goals simp

@[simp] theorem takeRaise_keeps (s : State) (b : Bool) :
    (s.takeRaise b).graph = s.graph ∧ (s.takeRaise b).target = s.target ∧
    (s.takeRaise b).cabin = s.cabin ∧ (s.takeRaise b).plate = s.plate ∧
    (s.takeRaise b).programme = s.programme ∧ (s.takeRaise b).screen = s.screen ∧
    (s.takeRaise b).muster = s.muster ∧ (s.takeRaise b).port = s.port ∧
    (s.takeRaise b).fresh = s.fresh ∧ (s.takeRaise b).pending = s.pending := by
  and_intros <;> refine foldl_keeps _ _ (fun s a => ?_) _ _
  all_goals simp

@[simp] theorem graphRaise_keeps (s : State) (b : Bool) :
    (s.graphRaise b).target = s.target ∧ (s.graphRaise b).cabin = s.cabin ∧
    (s.graphRaise b).plate = s.plate ∧ (s.graphRaise b).programme = s.programme ∧
    (s.graphRaise b).screen = s.screen ∧ (s.graphRaise b).muster = s.muster ∧
    (s.graphRaise b).port = s.port ∧ (s.graphRaise b).fresh = s.fresh ∧
    (s.graphRaise b).pending = s.pending := by
  simp [State.graphRaise]

@[simp] theorem startBuild_keeps (s : State) :
    (s.startBuild).graph = s.graph ∧ (s.startBuild).target = s.target ∧
    (s.startBuild).cabin = s.cabin ∧ (s.startBuild).plate = s.plate ∧
    (s.startBuild).programme = s.programme ∧ (s.startBuild).screen = s.screen ∧
    (s.startBuild).muster = s.muster ∧ (s.startBuild).port = s.port ∧ (s.startBuild).fresh = s.fresh ∧
    (s.startBuild).pending = s.pending := by
  simp only [State.startBuild]
  repeat' split
  all_goals simp

@[simp] theorem hurryStations_keeps (s : State) :
    (s.hurryStations).graph = s.graph ∧ (s.hurryStations).target = s.target ∧
    (s.hurryStations).cabin = s.cabin ∧ (s.hurryStations).plate = s.plate ∧
    (s.hurryStations).programme = s.programme ∧ (s.hurryStations).screen = s.screen ∧
    (s.hurryStations).muster = s.muster ∧ (s.hurryStations).port = s.port ∧
    (s.hurryStations).fresh = s.fresh ∧ (s.hurryStations).pending = s.pending := by
  and_intros <;> rfl

@[simp] theorem graphTakesTransition_keeps (s : State) (old : MusterState) :
    (s.graphTakesTransition old).target = s.target ∧ (s.graphTakesTransition old).cabin = s.cabin ∧
    (s.graphTakesTransition old).plate = s.plate ∧
    (s.graphTakesTransition old).programme = s.programme ∧
    (s.graphTakesTransition old).screen = s.screen ∧ (s.graphTakesTransition old).muster = s.muster ∧
    (s.graphTakesTransition old).port = s.port ∧ (s.graphTakesTransition old).fresh = s.fresh ∧
    (s.graphTakesTransition old).pending = s.pending := by
  simp only [State.graphTakesTransition]
  repeat' split
  all_goals simp

@[simp] theorem createMaps_keeps (s : State) (t : Nat) :
    (s.createMaps t).graph = s.graph ∧ (s.createMaps t).target = s.target ∧
    (s.createMaps t).cabin = s.cabin ∧ (s.createMaps t).plate = s.plate ∧
    (s.createMaps t).programme = s.programme ∧ (s.createMaps t).screen = s.screen ∧
    (s.createMaps t).muster = s.muster ∧ (s.createMaps t).port = s.port ∧
    (s.createMaps t).fresh = s.fresh ∧ (s.createMaps t).pending = s.pending := by
  simp [State.createMaps, mapsOf, allProfiles]

@[simp] theorem hurryTarget_keeps (s : State) (t : Nat) :
    (s.hurryTarget t).graph = s.graph ∧ (s.hurryTarget t).target = s.target ∧
    (s.hurryTarget t).cabin = s.cabin ∧ (s.hurryTarget t).plate = s.plate ∧
    (s.hurryTarget t).programme = s.programme ∧ (s.hurryTarget t).screen = s.screen ∧
    (s.hurryTarget t).muster = s.muster ∧ (s.hurryTarget t).port = s.port ∧
    (s.hurryTarget t).fresh = s.fresh ∧ (s.hurryTarget t).pending = s.pending := by
  and_intros <;> refine foldl_keeps _ _ (fun s a => ?_) _ _
  all_goals simp
  all_goals split <;> simp

@[simp] theorem anchorMoved_keeps (s : State) (t : Nat) :
    (s.anchorMoved t).graph = s.graph ∧ (s.anchorMoved t).target = s.target ∧
    (s.anchorMoved t).cabin = s.cabin ∧ (s.anchorMoved t).plate = s.plate ∧
    (s.anchorMoved t).programme = s.programme ∧ (s.anchorMoved t).screen = s.screen ∧
    (s.anchorMoved t).muster = s.muster ∧ (s.anchorMoved t).port = s.port ∧
    (s.anchorMoved t).fresh = s.fresh ∧ (s.anchorMoved t).pending = s.pending := by
  and_intros <;> refine foldl_keeps _ _ (fun s a => ?_) _ _
  all_goals simp

@[simp] theorem freeMap_keeps (s : State) (m : MapName) :
    (s.freeMap m).graph = s.graph ∧ (s.freeMap m).target = s.target ∧ (s.freeMap m).cabin = s.cabin ∧
    (s.freeMap m).plate = s.plate ∧ (s.freeMap m).programme = s.programme ∧
    (s.freeMap m).screen = s.screen ∧ (s.freeMap m).muster = s.muster ∧ (s.freeMap m).port = s.port ∧
    (s.freeMap m).fresh = s.fresh ∧ (s.freeMap m).pending = s.pending := by
  and_intros <;> rfl

@[simp] theorem freeMaps_keeps (s : State) (t : Nat) :
    (s.freeMaps t).graph = s.graph ∧ (s.freeMaps t).target = s.target ∧
    (s.freeMaps t).cabin = s.cabin ∧ (s.freeMaps t).plate = s.plate ∧
    (s.freeMaps t).programme = s.programme ∧ (s.freeMaps t).screen = s.screen ∧
    (s.freeMaps t).muster = s.muster ∧ (s.freeMaps t).fresh = s.fresh ∧
    (s.freeMaps t).pending = s.pending := by
  simp only [State.freeMaps]
  and_intros <;> split <;> simp [mapsOf, allProfiles]

/-! ### Target Table (R50 to R53) -/

@[simp] theorem claimTargets_keeps (s : State) (ts : List Nat) :
    (s.claimTargets ts).graph = s.graph ∧ (s.claimTargets ts).route = s.route ∧
    (s.claimTargets ts).cabin = s.cabin ∧ (s.claimTargets ts).plate = s.plate ∧
    (s.claimTargets ts).programme = s.programme ∧ (s.claimTargets ts).screen = s.screen ∧
    (s.claimTargets ts).muster = s.muster ∧ (s.claimTargets ts).port = s.port ∧
    (s.claimTargets ts).fresh = s.fresh ∧ (s.claimTargets ts).pending = s.pending := by
  and_intros <;> refine foldl_keeps _ _ (fun s a => ?_) _ _
  all_goals simp

@[simp] theorem releaseTargets_keeps (s : State) (ts : List Nat) :
    (s.releaseTargets ts).graph = s.graph ∧ (s.releaseTargets ts).route = s.route ∧
    (s.releaseTargets ts).cabin = s.cabin ∧ (s.releaseTargets ts).plate = s.plate ∧
    (s.releaseTargets ts).programme = s.programme ∧ (s.releaseTargets ts).screen = s.screen ∧
    (s.releaseTargets ts).muster = s.muster ∧ (s.releaseTargets ts).port = s.port ∧
    (s.releaseTargets ts).fresh = s.fresh ∧ (s.releaseTargets ts).pending = s.pending := by
  and_intros <;> refine foldl_keeps _ _ (fun s a => ?_) _ _
  all_goals simp

@[simp] theorem contribute_keeps (s : State) (c : Cabin) :
    (s.contribute c).graph = s.graph ∧ (s.contribute c).route = s.route ∧
    (s.contribute c).cabin = s.cabin ∧ (s.contribute c).plate = s.plate ∧
    (s.contribute c).programme = s.programme ∧ (s.contribute c).screen = s.screen ∧
    (s.contribute c).muster = s.muster ∧ (s.contribute c).port = s.port ∧
    (s.contribute c).fresh = s.fresh ∧ (s.contribute c).pending = s.pending := by
  simp only [State.contribute]
  repeat' split
  all_goals simp

@[simp] theorem withdraw_keeps (s : State) (c : Cabin) :
    (s.withdraw c).graph = s.graph ∧ (s.withdraw c).route = s.route ∧ (s.withdraw c).cabin = s.cabin ∧
    (s.withdraw c).plate = s.plate ∧ (s.withdraw c).programme = s.programme ∧
    (s.withdraw c).screen = s.screen ∧ (s.withdraw c).muster = s.muster ∧
    (s.withdraw c).port = s.port ∧ (s.withdraw c).fresh = s.fresh ∧
    (s.withdraw c).pending = s.pending := by
  simp only [State.withdraw]
  repeat' split
  all_goals simp

@[simp] theorem withdrawAll_keeps (s : State) (cs : List Cabin) :
    (s.withdrawAll cs).graph = s.graph ∧ (s.withdrawAll cs).route = s.route ∧
    (s.withdrawAll cs).cabin = s.cabin ∧ (s.withdrawAll cs).plate = s.plate ∧
    (s.withdrawAll cs).programme = s.programme ∧ (s.withdrawAll cs).screen = s.screen ∧
    (s.withdrawAll cs).muster = s.muster ∧ (s.withdrawAll cs).port = s.port ∧
    (s.withdrawAll cs).fresh = s.fresh ∧ (s.withdrawAll cs).pending = s.pending := by
  and_intros <;> refine foldl_keeps _ _ (fun s a => ?_) _ _
  all_goals simp

@[simp] theorem contributeAll_keeps (s : State) (cs : List Cabin) :
    (s.contributeAll cs).graph = s.graph ∧ (s.contributeAll cs).route = s.route ∧
    (s.contributeAll cs).cabin = s.cabin ∧ (s.contributeAll cs).plate = s.plate ∧
    (s.contributeAll cs).programme = s.programme ∧ (s.contributeAll cs).screen = s.screen ∧
    (s.contributeAll cs).muster = s.muster ∧ (s.contributeAll cs).port = s.port ∧
    (s.contributeAll cs).fresh = s.fresh ∧ (s.contributeAll cs).pending = s.pending := by
  and_intros <;> refine foldl_keeps _ _ (fun s a => ?_) _ _
  all_goals simp

@[simp] theorem judgeOver_keeps (s : State) (before : State) :
    (s.judgeOver before).graph = s.graph ∧ (s.judgeOver before).route = s.route ∧
    (s.judgeOver before).cabin = s.cabin ∧ (s.judgeOver before).plate = s.plate ∧
    (s.judgeOver before).programme = s.programme ∧ (s.judgeOver before).screen = s.screen ∧
    (s.judgeOver before).muster = s.muster ∧ (s.judgeOver before).fresh = s.fresh ∧
    (s.judgeOver before).pending = s.pending := by
  simp only [State.judgeOver]
  and_intros <;> split
  all_goals try simp only [raiseNotice_graph, raiseNotice_route, raiseNotice_cabin, raiseNotice_plate, raiseNotice_programme, raiseNotice_screen, raiseNotice_muster, raiseNotice_fresh, raiseNotice_pending]
  all_goals refine foldl_keeps _ _ (fun s a => ?_) _ _
  all_goals rfl

@[simp] theorem rejudgeAll_keeps (s : State) :
    (s.rejudgeAll).graph = s.graph ∧ (s.rejudgeAll).route = s.route ∧ (s.rejudgeAll).cabin = s.cabin ∧
    (s.rejudgeAll).plate = s.plate ∧ (s.rejudgeAll).programme = s.programme ∧
    (s.rejudgeAll).screen = s.screen ∧ (s.rejudgeAll).muster = s.muster ∧
    (s.rejudgeAll).port = s.port ∧ (s.rejudgeAll).fresh = s.fresh ∧
    (s.rejudgeAll).pending = s.pending := by
  and_intros <;> rfl

@[simp] theorem moveContribution_keeps (s : State) (old new : Cabin) :
    (s.moveContribution old new).graph = s.graph ∧ (s.moveContribution old new).route = s.route ∧
    (s.moveContribution old new).cabin = s.cabin ∧ (s.moveContribution old new).plate = s.plate ∧
    (s.moveContribution old new).programme = s.programme ∧
    (s.moveContribution old new).screen = s.screen ∧ (s.moveContribution old new).muster = s.muster ∧
    (s.moveContribution old new).port = s.port ∧ (s.moveContribution old new).fresh = s.fresh ∧
    (s.moveContribution old new).pending = s.pending := by
  simp only [State.moveContribution]
  repeat' split
  all_goals simp

/-! ### Cabin Table (R64 to R78) -/

@[simp] theorem joinPlateQueue_keeps (s : State) (c : Nat) :
    (s.joinPlateQueue c).graph = s.graph ∧ (s.joinPlateQueue c).route = s.route ∧
    (s.joinPlateQueue c).target = s.target ∧ (s.joinPlateQueue c).cabin = s.cabin ∧
    (s.joinPlateQueue c).programme = s.programme ∧ (s.joinPlateQueue c).screen = s.screen ∧
    (s.joinPlateQueue c).muster = s.muster ∧ (s.joinPlateQueue c).port = s.port ∧
    (s.joinPlateQueue c).fresh = s.fresh ∧ (s.joinPlateQueue c).pending = s.pending := by
  simp only [State.joinPlateQueue]
  repeat' split
  all_goals simp

@[simp] theorem leavePlate_keeps (s : State) (c : Nat) :
    (s.leavePlate c).graph = s.graph ∧ (s.leavePlate c).route = s.route ∧
    (s.leavePlate c).target = s.target ∧ (s.leavePlate c).cabin = s.cabin ∧
    (s.leavePlate c).programme = s.programme ∧ (s.leavePlate c).screen = s.screen ∧
    (s.leavePlate c).muster = s.muster ∧ (s.leavePlate c).port = s.port ∧
    (s.leavePlate c).fresh = s.fresh ∧ (s.leavePlate c).pending = s.pending := by
  simp only [State.leavePlate]
  repeat' split
  all_goals simp

@[simp] theorem owePlate_keeps (s : State) (c : Nat) :
    (s.owePlate c).graph = s.graph ∧ (s.owePlate c).route = s.route ∧
    (s.owePlate c).target = s.target ∧ (s.owePlate c).programme = s.programme ∧
    (s.owePlate c).screen = s.screen ∧ (s.owePlate c).muster = s.muster ∧
    (s.owePlate c).port = s.port ∧ (s.owePlate c).fresh = s.fresh ∧
    (s.owePlate c).pending = s.pending := by
  simp [State.owePlate]

@[simp] theorem placePlate_keeps (s : State) (c : Nat) :
    (s.placePlate c).graph = s.graph ∧ (s.placePlate c).route = s.route ∧
    (s.placePlate c).target = s.target ∧ (s.placePlate c).programme = s.programme ∧
    (s.placePlate c).screen = s.screen ∧ (s.placePlate c).muster = s.muster ∧
    (s.placePlate c).port = s.port ∧ (s.placePlate c).fresh = s.fresh ∧
    (s.placePlate c).pending = s.pending := by
  simp only [State.placePlate]
  repeat' split
  all_goals simp

@[simp] theorem faceChanged_keeps (s : State) (c : Nat) :
    (s.faceChanged c).graph = s.graph ∧ (s.faceChanged c).route = s.route ∧
    (s.faceChanged c).target = s.target ∧ (s.faceChanged c).programme = s.programme ∧
    (s.faceChanged c).screen = s.screen ∧ (s.faceChanged c).muster = s.muster ∧
    (s.faceChanged c).port = s.port ∧ (s.faceChanged c).fresh = s.fresh ∧
    (s.faceChanged c).pending = s.pending := by
  simp [State.faceChanged]

@[simp] theorem facesChanged_keeps (s : State) (cs : List (Nat × Cabin)) :
    (s.facesChanged cs).graph = s.graph ∧ (s.facesChanged cs).route = s.route ∧
    (s.facesChanged cs).target = s.target ∧ (s.facesChanged cs).programme = s.programme ∧
    (s.facesChanged cs).screen = s.screen ∧ (s.facesChanged cs).muster = s.muster ∧
    (s.facesChanged cs).port = s.port ∧ (s.facesChanged cs).fresh = s.fresh ∧
    (s.facesChanged cs).pending = s.pending := by
  and_intros <;> refine foldl_keeps _ _ (fun s a => ?_) _ _
  all_goals simp

@[simp] theorem revive_keeps (s : State) (c : Nat) :
    (s.revive c).graph = s.graph ∧ (s.revive c).route = s.route ∧ (s.revive c).target = s.target ∧
    (s.revive c).programme = s.programme ∧ (s.revive c).screen = s.screen ∧
    (s.revive c).muster = s.muster ∧ (s.revive c).port = s.port ∧ (s.revive c).fresh = s.fresh ∧
    (s.revive c).pending = s.pending := by
  simp only [State.revive]
  repeat' split
  all_goals simp

@[simp] theorem clearSweeps_keeps (s : State) :
    (s.clearSweeps).graph = s.graph ∧ (s.clearSweeps).route = s.route ∧
    (s.clearSweeps).plate = s.plate ∧ (s.clearSweeps).programme = s.programme ∧
    (s.clearSweeps).screen = s.screen ∧ (s.clearSweeps).muster = s.muster ∧
    (s.clearSweeps).port = s.port ∧ (s.clearSweeps).fresh = s.fresh ∧
    (s.clearSweeps).pending = s.pending := by
  and_intros <;> rfl

@[simp] theorem cabinsTakeTransition_keeps (s : State) (old : MusterState) :
    (s.cabinsTakeTransition old).graph = s.graph ∧ (s.cabinsTakeTransition old).route = s.route ∧
    (s.cabinsTakeTransition old).plate = s.plate ∧
    (s.cabinsTakeTransition old).programme = s.programme ∧
    (s.cabinsTakeTransition old).screen = s.screen ∧ (s.cabinsTakeTransition old).muster = s.muster ∧
    (s.cabinsTakeTransition old).port = s.port ∧ (s.cabinsTakeTransition old).fresh = s.fresh ∧
    (s.cabinsTakeTransition old).pending = s.pending := by
  simp only [State.cabinsTakeTransition]
  repeat' split
  all_goals simp

@[simp] theorem setBlocked_keeps (s : State) (t : Nat) (b : Bool) :
    (s.setBlocked t b).graph = s.graph ∧ (s.setBlocked t b).route = s.route ∧
    (s.setBlocked t b).programme = s.programme ∧ (s.setBlocked t b).screen = s.screen ∧
    (s.setBlocked t b).muster = s.muster ∧ (s.setBlocked t b).fresh = s.fresh ∧
    (s.setBlocked t b).pending = s.pending := by
  simp [State.setBlocked]

@[simp] theorem amendPlate_keeps (s : State) (c : Nat) (old new : Option PlateAddress) (b : Bool) :
    (s.amendPlate c old new b).graph = s.graph ∧ (s.amendPlate c old new b).route = s.route ∧
    (s.amendPlate c old new b).target = s.target ∧ (s.amendPlate c old new b).programme = s.programme ∧
    (s.amendPlate c old new b).screen = s.screen ∧ (s.amendPlate c old new b).muster = s.muster ∧
    (s.amendPlate c old new b).port = s.port ∧ (s.amendPlate c old new b).fresh = s.fresh ∧
    (s.amendPlate c old new b).pending = s.pending := by
  simp only [State.amendPlate]
  repeat' split
  all_goals simp

/-! ### Plate Bus Controller (R84 to R105) -/

@[simp] theorem startWrite_keeps (s : State) (i : Fin 16) (c : Nat) (k : QueueClass) :
    (s.startWrite i c k).graph = s.graph ∧ (s.startWrite i c k).route = s.route ∧
    (s.startWrite i c k).target = s.target ∧ (s.startWrite i c k).cabin = s.cabin ∧
    (s.startWrite i c k).programme = s.programme ∧ (s.startWrite i c k).screen = s.screen ∧
    (s.startWrite i c k).muster = s.muster ∧ (s.startWrite i c k).port = s.port ∧
    (s.startWrite i c k).fresh = s.fresh ∧ (s.startWrite i c k).pending = s.pending := by
  simp only [State.startWrite]
  repeat' split
  all_goals simp

@[simp] theorem pickOrdinary_keeps (s : State) (i : Fin 16) :
    (s.pickOrdinary i).graph = s.graph ∧ (s.pickOrdinary i).route = s.route ∧
    (s.pickOrdinary i).target = s.target ∧ (s.pickOrdinary i).cabin = s.cabin ∧
    (s.pickOrdinary i).programme = s.programme ∧ (s.pickOrdinary i).screen = s.screen ∧
    (s.pickOrdinary i).muster = s.muster ∧ (s.pickOrdinary i).port = s.port ∧
    (s.pickOrdinary i).fresh = s.fresh ∧ (s.pickOrdinary i).pending = s.pending := by
  simp only [State.pickOrdinary]
  repeat' split
  all_goals simp

@[simp] theorem pickSurvey_keeps (s : State) (i : Fin 16) :
    (s.pickSurvey i).graph = s.graph ∧ (s.pickSurvey i).route = s.route ∧
    (s.pickSurvey i).target = s.target ∧ (s.pickSurvey i).cabin = s.cabin ∧
    (s.pickSurvey i).programme = s.programme ∧ (s.pickSurvey i).screen = s.screen ∧
    (s.pickSurvey i).muster = s.muster ∧ (s.pickSurvey i).port = s.port ∧
    (s.pickSurvey i).fresh = s.fresh ∧ (s.pickSurvey i).pending = s.pending := by
  simp only [State.pickSurvey]
  repeat' split
  all_goals simp

@[simp] theorem pick_keeps (s : State) (i : Fin 16) :
    (s.pick i).graph = s.graph ∧ (s.pick i).route = s.route ∧ (s.pick i).target = s.target ∧
    (s.pick i).cabin = s.cabin ∧ (s.pick i).programme = s.programme ∧ (s.pick i).screen = s.screen ∧
    (s.pick i).muster = s.muster ∧ (s.pick i).port = s.port ∧ (s.pick i).fresh = s.fresh ∧
    (s.pick i).pending = s.pending := by
  simp only [State.pick]
  repeat' split
  all_goals simp

@[simp] theorem pickAll_keeps (s : State) :
    (s.pickAll).graph = s.graph ∧ (s.pickAll).route = s.route ∧ (s.pickAll).target = s.target ∧
    (s.pickAll).cabin = s.cabin ∧ (s.pickAll).programme = s.programme ∧ (s.pickAll).screen = s.screen ∧
    (s.pickAll).muster = s.muster ∧ (s.pickAll).port = s.port ∧ (s.pickAll).fresh = s.fresh ∧
    (s.pickAll).pending = s.pending := by
  and_intros <;> refine foldl_keeps _ _ (fun s a => ?_) _ _
  all_goals simp

@[simp] theorem writeDone_keeps (s : State) (c : Nat) (g : Gen) :
    (s.writeDone c g).graph = s.graph ∧ (s.writeDone c g).route = s.route ∧
    (s.writeDone c g).target = s.target ∧ (s.writeDone c g).programme = s.programme ∧
    (s.writeDone c g).screen = s.screen ∧ (s.writeDone c g).muster = s.muster ∧
    (s.writeDone c g).port = s.port ∧ (s.writeDone c g).fresh = s.fresh ∧
    (s.writeDone c g).pending = s.pending := by
  simp only [State.writeDone]
  repeat' split
  all_goals simp

@[simp] theorem writeFailed_keeps (s : State) (c : Nat) :
    (s.writeFailed c).graph = s.graph ∧ (s.writeFailed c).route = s.route ∧
    (s.writeFailed c).target = s.target ∧ (s.writeFailed c).programme = s.programme ∧
    (s.writeFailed c).screen = s.screen ∧ (s.writeFailed c).muster = s.muster ∧
    (s.writeFailed c).fresh = s.fresh ∧ (s.writeFailed c).pending = s.pending := by
  simp only [State.writeFailed]
  repeat' split
  all_goals simp

@[simp] theorem surveyRevives_keeps (s : State) (i : Fin 16) (a : Nat) :
    (s.surveyRevives i a).graph = s.graph ∧ (s.surveyRevives i a).route = s.route ∧
    (s.surveyRevives i a).target = s.target ∧ (s.surveyRevives i a).programme = s.programme ∧
    (s.surveyRevives i a).screen = s.screen ∧ (s.surveyRevives i a).muster = s.muster ∧
    (s.surveyRevives i a).port = s.port ∧ (s.surveyRevives i a).fresh = s.fresh ∧
    (s.surveyRevives i a).pending = s.pending := by
  simp only [State.surveyRevives]
  repeat' split
  all_goals simp

@[simp] theorem addReport_keeps (s : State) (i : Fin 16) (a : Nat) (ps : List ReportPart) :
    (s.addReport i a ps).graph = s.graph ∧ (s.addReport i a ps).route = s.route ∧
    (s.addReport i a ps).target = s.target ∧ (s.addReport i a ps).cabin = s.cabin ∧
    (s.addReport i a ps).programme = s.programme ∧ (s.addReport i a ps).screen = s.screen ∧
    (s.addReport i a ps).muster = s.muster ∧ (s.addReport i a ps).port = s.port ∧
    (s.addReport i a ps).fresh = s.fresh ∧ (s.addReport i a ps).pending = s.pending := by
  and_intros <;> rfl

@[simp] theorem endSurveyStep_keeps (s : State) (i : Fin 16) (a : Nat) (b : Bool) (how : SurveyEnd) :
    (s.endSurveyStep i a b how).graph = s.graph ∧ (s.endSurveyStep i a b how).route = s.route ∧
    (s.endSurveyStep i a b how).target = s.target ∧
    (s.endSurveyStep i a b how).programme = s.programme ∧
    (s.endSurveyStep i a b how).screen = s.screen ∧ (s.endSurveyStep i a b how).muster = s.muster ∧
    (s.endSurveyStep i a b how).port = s.port ∧ (s.endSurveyStep i a b how).fresh = s.fresh ∧
    (s.endSurveyStep i a b how).pending = s.pending := by
  simp only [State.endSurveyStep]
  repeat' split
  all_goals simp

@[simp] theorem holdExpires_keeps (s : State) (i : Fin 16) :
    (s.holdExpires i).graph = s.graph ∧ (s.holdExpires i).route = s.route ∧
    (s.holdExpires i).target = s.target ∧ (s.holdExpires i).programme = s.programme ∧
    (s.holdExpires i).screen = s.screen ∧ (s.holdExpires i).muster = s.muster ∧
    (s.holdExpires i).fresh = s.fresh ∧ (s.holdExpires i).pending = s.pending := by
  simp only [State.holdExpires]
  repeat' split
  all_goals simp

@[simp] theorem loses_keeps (s : State) (i : Fin 16) (b : Bool) :
    (s.loses i b).graph = s.graph ∧ (s.loses i b).route = s.route ∧ (s.loses i b).target = s.target ∧
    (s.loses i b).programme = s.programme ∧ (s.loses i b).screen = s.screen ∧
    (s.loses i b).muster = s.muster ∧ (s.loses i b).port = s.port ∧ (s.loses i b).fresh = s.fresh ∧
    (s.loses i b).pending = s.pending := by
  simp only [State.loses]
  repeat' split
  all_goals simp

/-- A disabled trunk owns nothing and no timer of it runs. -/
@[simp] theorem disable_ends (t : Trunk) :
    t.disable.state = .disabled ∧ t.disable.enabled = false ∧ t.disable.work = none ∧ t.disable.surveyDue = false ∧
    t.disable.surveyTimer = none ∧ t.disable.guardTimer = none ∧ t.disable.holdTimer = none ∧
    t.disable.stuckTimer = none := by
  and_intros <;> rfl

/-- A disabled trunk keeps its cursor, its believed mode and its record of ACCEPTed news. -/
@[simp] theorem disable_keeps (t : Trunk) : t.disable.cursor = t.cursor ∧ t.disable.believed = t.believed ∧
    t.disable.newsAccepts = t.newsAccepts := by
  simp only [Trunk.disable, Trunk.stopTimers, Trunk.letGo, Trunk.returnWrite, Trunk.wires]
  repeat' split
  all_goals simp [Trunk.joinHead]
  all_goals split <;> simp

@[simp] theorem disableTrunk_keeps (s : State) (i : Fin 16) :
    (s.disableTrunk i).graph = s.graph ∧ (s.disableTrunk i).route = s.route ∧
    (s.disableTrunk i).target = s.target ∧ (s.disableTrunk i).programme = s.programme ∧
    (s.disableTrunk i).screen = s.screen ∧ (s.disableTrunk i).muster = s.muster ∧
    (s.disableTrunk i).port = s.port ∧ (s.disableTrunk i).fresh = s.fresh ∧
    (s.disableTrunk i).pending = s.pending := by
  simp only [State.disableTrunk]
  repeat' split
  all_goals simp

@[simp] theorem setSurveyPeriod_keeps (s : State) (n : Nat) :
    (s.setSurveyPeriod n).graph = s.graph ∧ (s.setSurveyPeriod n).route = s.route ∧
    (s.setSurveyPeriod n).target = s.target ∧ (s.setSurveyPeriod n).cabin = s.cabin ∧
    (s.setSurveyPeriod n).programme = s.programme ∧ (s.setSurveyPeriod n).screen = s.screen ∧
    (s.setSurveyPeriod n).muster = s.muster ∧ (s.setSurveyPeriod n).port = s.port ∧
    (s.setSurveyPeriod n).fresh = s.fresh ∧ (s.setSurveyPeriod n).pending = s.pending := by
  and_intros <;> rfl

@[simp] theorem setHoldLimit_keeps (s : State) (n : Nat) :
    (s.setHoldLimit n).graph = s.graph ∧ (s.setHoldLimit n).route = s.route ∧
    (s.setHoldLimit n).target = s.target ∧ (s.setHoldLimit n).cabin = s.cabin ∧
    (s.setHoldLimit n).programme = s.programme ∧ (s.setHoldLimit n).screen = s.screen ∧
    (s.setHoldLimit n).muster = s.muster ∧ (s.setHoldLimit n).port = s.port ∧
    (s.setHoldLimit n).fresh = s.fresh ∧ (s.setHoldLimit n).pending = s.pending := by
  and_intros <;> rfl

@[simp] theorem settle_keeps (s : State) :
    (s.settle).graph = s.graph ∧ (s.settle).target = s.target ∧ (s.settle).cabin = s.cabin ∧
    (s.settle).programme = s.programme ∧ (s.settle).screen = s.screen ∧ (s.settle).muster = s.muster ∧
    (s.settle).port = s.port ∧ (s.settle).fresh = s.fresh ∧ (s.settle).pending = s.pending := by
  simp [State.settle]

/-! ### Programme Table (R110 to R127) -/

@[simp] theorem retireEntry_keeps (s : State) (c v : Nat) :
    (s.retireEntry c v).graph = s.graph ∧ (s.retireEntry c v).route = s.route ∧
    (s.retireEntry c v).cabin = s.cabin ∧ (s.retireEntry c v).plate = s.plate ∧
    (s.retireEntry c v).screen = s.screen ∧ (s.retireEntry c v).muster = s.muster ∧
    (s.retireEntry c v).port = s.port ∧ (s.retireEntry c v).fresh = s.fresh ∧
    (s.retireEntry c v).pending = s.pending := by
  and_intros <;> rfl

@[simp] theorem applyJudgement_keeps (s : State) (c v : Nat) (j : Option EntryState) :
    (s.applyJudgement c v j).graph = s.graph ∧ (s.applyJudgement c v j).route = s.route ∧
    (s.applyJudgement c v j).cabin = s.cabin ∧ (s.applyJudgement c v j).plate = s.plate ∧
    (s.applyJudgement c v j).screen = s.screen ∧ (s.applyJudgement c v j).muster = s.muster ∧
    (s.applyJudgement c v j).port = s.port ∧ (s.applyJudgement c v j).fresh = s.fresh ∧
    (s.applyJudgement c v j).pending = s.pending := by
  simp only [State.applyJudgement]
  repeat' split
  all_goals simp

/-! ### Screen Link Controller (R131 to R152) -/

@[simp] theorem queueIfOwed_keeps (s : State) (r : SlotRef) :
    (s.queueIfOwed r).graph = s.graph ∧ (s.queueIfOwed r).route = s.route ∧
    (s.queueIfOwed r).target = s.target ∧ (s.queueIfOwed r).cabin = s.cabin ∧
    (s.queueIfOwed r).plate = s.plate ∧ (s.queueIfOwed r).programme = s.programme ∧
    (s.queueIfOwed r).muster = s.muster ∧ (s.queueIfOwed r).port = s.port ∧
    (s.queueIfOwed r).fresh = s.fresh ∧ (s.queueIfOwed r).pending = s.pending := by
  simp only [State.queueIfOwed]
  repeat' split
  all_goals simp

@[simp] theorem touchSlot_keeps (s : State) (r : SlotRef) (b : Bool) :
    (s.touchSlot r b).graph = s.graph ∧ (s.touchSlot r b).route = s.route ∧
    (s.touchSlot r b).target = s.target ∧ (s.touchSlot r b).cabin = s.cabin ∧
    (s.touchSlot r b).plate = s.plate ∧ (s.touchSlot r b).programme = s.programme ∧
    (s.touchSlot r b).muster = s.muster ∧ (s.touchSlot r b).port = s.port ∧
    (s.touchSlot r b).fresh = s.fresh ∧ (s.touchSlot r b).pending = s.pending := by
  simp only [State.touchSlot]
  repeat' split
  all_goals simp

@[simp] theorem markSlot_keeps (s : State) (r : SlotRef) :
    (s.markSlot r).graph = s.graph ∧ (s.markSlot r).route = s.route ∧
    (s.markSlot r).target = s.target ∧ (s.markSlot r).cabin = s.cabin ∧
    (s.markSlot r).plate = s.plate ∧ (s.markSlot r).programme = s.programme ∧
    (s.markSlot r).muster = s.muster ∧ (s.markSlot r).port = s.port ∧ (s.markSlot r).fresh = s.fresh ∧
    (s.markSlot r).pending = s.pending := by
  simp only [State.markSlot]
  repeat' split
  all_goals simp

@[simp] theorem mark_keeps (s : State) (p : Causes) :
    (s.mark p).graph = s.graph ∧ (s.mark p).route = s.route ∧ (s.mark p).target = s.target ∧
    (s.mark p).cabin = s.cabin ∧ (s.mark p).plate = s.plate ∧ (s.mark p).programme = s.programme ∧
    (s.mark p).muster = s.muster ∧ (s.mark p).port = s.port ∧ (s.mark p).fresh = s.fresh ∧
    (s.mark p).pending = s.pending := by
  and_intros <;> refine foldl_keeps _ _ (fun s a => ?_) _ _
  all_goals simp

@[simp] theorem sendPacket_keeps (s : State) (l : Fin 4) (n : Nat) (p : Packet) :
    (s.sendPacket l n p).graph = s.graph ∧ (s.sendPacket l n p).route = s.route ∧
    (s.sendPacket l n p).target = s.target ∧ (s.sendPacket l n p).cabin = s.cabin ∧
    (s.sendPacket l n p).plate = s.plate ∧ (s.sendPacket l n p).programme = s.programme ∧
    (s.sendPacket l n p).muster = s.muster ∧ (s.sendPacket l n p).port = s.port ∧
    (s.sendPacket l n p).fresh = s.fresh ∧ (s.sendPacket l n p).pending = s.pending := by
  and_intros <;> rfl

@[simp] theorem sendSlot_keeps (s : State) (l : Fin 4) (r : SlotRef) :
    (s.sendSlot l r).graph = s.graph ∧ (s.sendSlot l r).route = s.route ∧
    (s.sendSlot l r).target = s.target ∧ (s.sendSlot l r).cabin = s.cabin ∧
    (s.sendSlot l r).plate = s.plate ∧ (s.sendSlot l r).programme = s.programme ∧
    (s.sendSlot l r).muster = s.muster ∧ (s.sendSlot l r).port = s.port ∧
    (s.sendSlot l r).fresh = s.fresh ∧ (s.sendSlot l r).pending = s.pending := by
  simp only [State.sendSlot]
  repeat' split
  all_goals simp

@[simp] theorem sendNext_keeps (s : State) (l : Fin 4) :
    (s.sendNext l).graph = s.graph ∧ (s.sendNext l).route = s.route ∧
    (s.sendNext l).target = s.target ∧ (s.sendNext l).cabin = s.cabin ∧
    (s.sendNext l).plate = s.plate ∧ (s.sendNext l).programme = s.programme ∧
    (s.sendNext l).muster = s.muster ∧ (s.sendNext l).port = s.port ∧ (s.sendNext l).fresh = s.fresh ∧
    (s.sendNext l).pending = s.pending := by
  simp only [State.sendNext]
  repeat' split
  all_goals simp

@[simp] theorem runLink_keeps (s : State) (l : Fin 4) :
    (s.runLink l).graph = s.graph ∧ (s.runLink l).route = s.route ∧ (s.runLink l).target = s.target ∧
    (s.runLink l).cabin = s.cabin ∧ (s.runLink l).plate = s.plate ∧
    (s.runLink l).programme = s.programme ∧ (s.runLink l).muster = s.muster ∧
    (s.runLink l).port = s.port ∧ (s.runLink l).fresh = s.fresh ∧
    (s.runLink l).pending = s.pending := by
  simp only [State.runLink]
  repeat' split
  all_goals simp

@[simp] theorem beginPeriod_keeps (s : State) (l : Fin 4) :
    (s.beginPeriod l).graph = s.graph ∧ (s.beginPeriod l).route = s.route ∧
    (s.beginPeriod l).target = s.target ∧ (s.beginPeriod l).cabin = s.cabin ∧
    (s.beginPeriod l).plate = s.plate ∧ (s.beginPeriod l).programme = s.programme ∧
    (s.beginPeriod l).muster = s.muster ∧ (s.beginPeriod l).port = s.port ∧
    (s.beginPeriod l).fresh = s.fresh ∧ (s.beginPeriod l).pending = s.pending := by
  simp [State.beginPeriod]

@[simp] theorem nextPeriod_keeps (s : State) (l : Fin 4) :
    (s.nextPeriod l).graph = s.graph ∧ (s.nextPeriod l).route = s.route ∧
    (s.nextPeriod l).target = s.target ∧ (s.nextPeriod l).cabin = s.cabin ∧
    (s.nextPeriod l).plate = s.plate ∧ (s.nextPeriod l).programme = s.programme ∧
    (s.nextPeriod l).muster = s.muster ∧ (s.nextPeriod l).port = s.port ∧
    (s.nextPeriod l).fresh = s.fresh ∧ (s.nextPeriod l).pending = s.pending := by
  simp [State.nextPeriod]

@[simp] theorem enableLink_keeps (s : State) (l : Fin 4) :
    (s.enableLink l).graph = s.graph ∧ (s.enableLink l).route = s.route ∧
    (s.enableLink l).target = s.target ∧ (s.enableLink l).cabin = s.cabin ∧
    (s.enableLink l).plate = s.plate ∧ (s.enableLink l).programme = s.programme ∧
    (s.enableLink l).muster = s.muster ∧ (s.enableLink l).port = s.port ∧
    (s.enableLink l).fresh = s.fresh ∧ (s.enableLink l).pending = s.pending := by
  simp [State.enableLink]

@[simp] theorem disableLink_keeps (s : State) (l : Fin 4) :
    (s.disableLink l).graph = s.graph ∧ (s.disableLink l).route = s.route ∧
    (s.disableLink l).target = s.target ∧ (s.disableLink l).cabin = s.cabin ∧
    (s.disableLink l).plate = s.plate ∧ (s.disableLink l).programme = s.programme ∧
    (s.disableLink l).muster = s.muster ∧ (s.disableLink l).port = s.port ∧
    (s.disableLink l).fresh = s.fresh ∧ (s.disableLink l).pending = s.pending := by
  and_intros <;> rfl

@[simp] theorem rejoin_keeps (s : State) (n : Nat) (p : Packet) :
    (s.rejoin n p).graph = s.graph ∧ (s.rejoin n p).route = s.route ∧
    (s.rejoin n p).target = s.target ∧ (s.rejoin n p).cabin = s.cabin ∧
    (s.rejoin n p).plate = s.plate ∧ (s.rejoin n p).programme = s.programme ∧
    (s.rejoin n p).muster = s.muster ∧ (s.rejoin n p).port = s.port ∧ (s.rejoin n p).fresh = s.fresh ∧
    (s.rejoin n p).pending = s.pending := by
  simp only [State.rejoin]
  repeat' split
  all_goals simp

@[simp] theorem takeAccept_keeps (s : State) (n : Nat) (p : Packet) :
    (s.takeAccept n p).graph = s.graph ∧ (s.takeAccept n p).route = s.route ∧
    (s.takeAccept n p).target = s.target ∧ (s.takeAccept n p).cabin = s.cabin ∧
    (s.takeAccept n p).plate = s.plate ∧ (s.takeAccept n p).programme = s.programme ∧
    (s.takeAccept n p).muster = s.muster ∧ (s.takeAccept n p).port = s.port ∧
    (s.takeAccept n p).fresh = s.fresh ∧ (s.takeAccept n p).pending = s.pending := by
  simp only [State.takeAccept]
  repeat' split
  all_goals simp

@[simp] theorem answered_keeps (s : State) (n : Nat) :
    (s.answered n).graph = s.graph ∧ (s.answered n).route = s.route ∧
    (s.answered n).target = s.target ∧ (s.answered n).cabin = s.cabin ∧
    (s.answered n).plate = s.plate ∧ (s.answered n).programme = s.programme ∧
    (s.answered n).muster = s.muster ∧ (s.answered n).port = s.port ∧ (s.answered n).fresh = s.fresh ∧
    (s.answered n).pending = s.pending := by
  and_intros <;> rfl

@[simp] theorem descriptorFlag_keeps (s : State) (n : Nat) (b : Byte) :
    (s.descriptorFlag n b).graph = s.graph ∧ (s.descriptorFlag n b).route = s.route ∧
    (s.descriptorFlag n b).target = s.target ∧ (s.descriptorFlag n b).cabin = s.cabin ∧
    (s.descriptorFlag n b).plate = s.plate ∧ (s.descriptorFlag n b).programme = s.programme ∧
    (s.descriptorFlag n b).muster = s.muster ∧ (s.descriptorFlag n b).port = s.port ∧
    (s.descriptorFlag n b).fresh = s.fresh ∧ (s.descriptorFlag n b).pending = s.pending := by
  simp only [State.descriptorFlag]
  repeat' split
  all_goals simp

@[simp] theorem loseScreen_keeps (s : State) (n : Nat) :
    (s.loseScreen n).graph = s.graph ∧ (s.loseScreen n).route = s.route ∧
    (s.loseScreen n).target = s.target ∧ (s.loseScreen n).cabin = s.cabin ∧
    (s.loseScreen n).plate = s.plate ∧ (s.loseScreen n).programme = s.programme ∧
    (s.loseScreen n).muster = s.muster ∧ (s.loseScreen n).fresh = s.fresh ∧
    (s.loseScreen n).pending = s.pending := by
  simp [State.loseScreen]

@[simp] theorem takeMiss_keeps (s : State) (n : Nat) (p : Packet) :
    (s.takeMiss n p).graph = s.graph ∧ (s.takeMiss n p).route = s.route ∧
    (s.takeMiss n p).target = s.target ∧ (s.takeMiss n p).cabin = s.cabin ∧
    (s.takeMiss n p).plate = s.plate ∧ (s.takeMiss n p).programme = s.programme ∧
    (s.takeMiss n p).muster = s.muster ∧ (s.takeMiss n p).fresh = s.fresh ∧
    (s.takeMiss n p).pending = s.pending := by
  simp only [State.takeMiss]
  repeat' split
  all_goals simp

@[simp] theorem takeDescriptor_keeps (s : State) (n : Nat) (d : Descriptor) :
    (s.takeDescriptor n d).graph = s.graph ∧ (s.takeDescriptor n d).route = s.route ∧
    (s.takeDescriptor n d).target = s.target ∧ (s.takeDescriptor n d).cabin = s.cabin ∧
    (s.takeDescriptor n d).plate = s.plate ∧ (s.takeDescriptor n d).programme = s.programme ∧
    (s.takeDescriptor n d).muster = s.muster ∧ (s.takeDescriptor n d).fresh = s.fresh ∧
    (s.takeDescriptor n d).pending = s.pending := by
  simp [State.takeDescriptor, slotOrder]

@[simp] theorem touchAmended_keeps (s : State) (n : Nat) (old new : Screen) :
    (s.touchAmended n old new).graph = s.graph ∧ (s.touchAmended n old new).route = s.route ∧
    (s.touchAmended n old new).target = s.target ∧ (s.touchAmended n old new).cabin = s.cabin ∧
    (s.touchAmended n old new).plate = s.plate ∧ (s.touchAmended n old new).programme = s.programme ∧
    (s.touchAmended n old new).muster = s.muster ∧ (s.touchAmended n old new).port = s.port ∧
    (s.touchAmended n old new).fresh = s.fresh ∧ (s.touchAmended n old new).pending = s.pending := by
  and_intros <;> refine foldl_keeps _ _ (fun s a => ?_) _ _
  all_goals simp

/-! ### Muster Controller (R165, R166) -/

@[simp] theorem judgeStandDown_keeps (s : State) :
    (s.judgeStandDown).graph = s.graph ∧ (s.judgeStandDown).route = s.route ∧
    (s.judgeStandDown).target = s.target ∧ (s.judgeStandDown).cabin = s.cabin ∧
    (s.judgeStandDown).plate = s.plate ∧ (s.judgeStandDown).programme = s.programme ∧
    (s.judgeStandDown).screen = s.screen ∧ (s.judgeStandDown).port = s.port ∧
    (s.judgeStandDown).fresh = s.fresh ∧ (s.judgeStandDown).pending = s.pending := by
  simp only [State.judgeStandDown]
  repeat' split
  all_goals simp

end Sys2Proof.Machine
end

