-- ==== Sys2Proof/Laws/Marks.lean ====
section
/-! SUPPORT. What marking does: `mark_marks` says once everything a mark of several slots can do to the
screens and the links, the order of the queues among it (R131, R132). -/

set_option Elab.async false

namespace Sys2Proof.Machine

/-! ### Joining the queues of a link -/

/-- Slots join their queues one after another. -/
def Link.joinAll (k : Link) (rs : List SlotRef) : Link := rs.foldl Link.join k

theorem Link.joinAll_eq (k : Link) (rs : List SlotRef) :
    k.joinAll rs = { k with
      musterQueue := k.musterQueue ++ rs.filter fun r => decide (r.kind = .muster)
      dirtyQueue := k.dirtyQueue ++ rs.filter fun r => decide (r.kind ≠ .muster) } := by
  induction rs generalizing k with
  | nil => simp [Link.joinAll]
  | cons r rs ih =>
    have step : k.joinAll (r :: rs) = (k.join r).joinAll rs := rfl
    rw [step, ih]
    cases r with
    | mk n kind => cases kind <;> simp [Link.join]

theorem Link.queued_iff (k : Link) (q : SlotRef) :
    k.queued q = true ↔ q ∈ k.musterQueue ∨ q ∈ k.dirtyQueue := by simp [Link.queued]

theorem Link.queued_join (k : Link) (r q : SlotRef) (h : q ≠ r) : (k.join r).queued q = k.queued q := by
  rw [Bool.eq_iff_iff, Link.queued_iff, Link.queued_iff]
  cases r with
  | mk n kind => cases kind <;> simp [Link.join, h]

theorem Link.sending_join (k : Link) (r q : SlotRef) : (k.join r).sending q = k.sending q := by
  cases r with
  | mk n kind => cases kind <;> rfl

@[simp] theorem queueIfOwed_screens (s : State) (r : SlotRef) :
    (s.queueIfOwed r).screen.screens = s.screen.screens := by
  simp only [State.queueIfOwed]
  repeat' split
  all_goals simp

@[simp] theorem queueIfOwed_screenAt (s : State) (r : SlotRef) (n : Nat) :
    (s.queueIfOwed r).screenAt n = s.screenAt n := by simp [State.screenAt]

theorem modScreen_screenAt (s : State) (n m : Nat) (f : Screen → Screen) :
    (s.modScreen n f).screenAt m = if m = n then (s.screenAt m).map f else s.screenAt m :=
  Table.get_modify _ _ _ _

/-! ### One slot -/

/-- A slot that would be owed once it is marked, stands in no queue and is not being sent. -/
def State.joins (s : State) (r : SlotRef) : Bool :=
  (s.screenAt r.screen).any fun x => ((x.slot r.kind).marked true).dirty && x.ready &&
    !(s.link (linkOfScreen r.screen)).queued r && !(s.link (linkOfScreen r.screen)).sending r

theorem markSlot_screenAt (s : State) (r : SlotRef) (n : Nat) :
    (s.markSlot r).screenAt n =
      if n = r.screen then (s.screenAt n).map fun x => x.modSlot r.kind (Slot.marked true)
      else s.screenAt n := by
  simp only [State.markSlot]
  split
  · rename_i h
    by_cases e : n = r.screen
    · subst e; simp [h]
    · simp [e]
  · rename_i x h
    simp only [State.touchSlot, queueIfOwed_screenAt]
    by_cases e : n = r.screen
    · subst e
      by_cases hp : (x.slot r.kind).policy = .off
      · simp only [hp, ne_eq, not_true_eq_false, decide_false, Bool.false_eq_true, if_false, if_true, h,
          Option.map_some, Option.some.injEq]
        cases hk : r.kind <;> simp [hk, Screen.slot] at hp <;>
          simp [Screen.modSlot, Slot.marked, hp]
      · simp only [hp, ne_eq, not_false_eq_true, decide_true, if_true, State.raiseSlot, modScreen_screenAt,
          h, Option.map_some, Option.some.injEq]
        cases hk : r.kind <;> simp [hk, Screen.slot] at hp <;>
          simp [Screen.modSlot, Slot.marked, hp, raise]
    · simp only [e, if_false]
      split
      · simp [State.raiseSlot, modScreen_screenAt, e]
      · rfl

@[simp] theorem Screen.slot_modSlot_same (x : Screen) (k : SlotKind) (f : Slot → Slot) :
    (x.modSlot k f).slot k = f (x.slot k) := by cases k <;> rfl

theorem Screen.slot_modSlot_other (x : Screen) (k j : SlotKind) (f : Slot → Slot) (h : j ≠ k) :
    (x.modSlot k f).slot j = x.slot j := by
  cases k <;> cases j <;> first | rfl | exact absurd rfl h

@[simp] theorem Screen.ready_modSlot (x : Screen) (k : SlotKind) (f : Slot → Slot) :
    (x.modSlot k f).ready = x.ready := by cases k <;> rfl

/-- A slot before it is queued: marked, and nothing beside changed. -/
theorem markSlot_eq (s : State) (r : SlotRef) :
    ∃ u : State, s.markSlot r = u.queueIfOwed r ∧ u.screen.links = s.screen.links ∧
      u.screenAt r.screen = (s.screenAt r.screen).map fun x => x.modSlot r.kind (Slot.marked true) := by
  have after := markSlot_screenAt s r r.screen
  rw [if_pos rfl] at after
  cases e : s.screenAt r.screen with
  | none => exact ⟨s, by simp [State.markSlot, State.queueIfOwed, e], rfl, by simp [e]⟩
  | some x =>
    refine ⟨if decide ((x.slot r.kind).policy ≠ .off) then s.raiseSlot r else s,
      by simp only [State.markSlot, e, State.touchSlot], by split <;> rfl, ?_⟩
    rw [← e, ← after]
    simp only [State.markSlot, e, State.touchSlot, queueIfOwed_screenAt]

/-- A marked slot joins its queue if it is owed, and no other link changes. -/
theorem markSlot_link (s : State) (r : SlotRef) (l : Fin 4) :
    (s.markSlot r).link l =
      if linkOfScreen r.screen = l ∧ s.joins r = true then (s.link l).join r else s.link l := by
  obtain ⟨u, h, links, screen⟩ := markSlot_eq s r
  have same (m : Fin 4) : u.link m = s.link m := by simp [State.link, links]
  rw [h, State.queueIfOwed, screen]
  cases e : s.screenAt r.screen with
  | none => simp [State.joins, e, same]
  | some x =>
    simp only [Option.map_some, Screen.slot_modSlot_same, Screen.ready_modSlot, same, State.joins, e,
      Option.any_some]
    by_cases owed : (((x.slot r.kind).marked true).dirty && x.ready &&
        !(s.link (linkOfScreen r.screen)).queued r && !(s.link (linkOfScreen r.screen)).sending r) = true
    · rw [if_pos owed]
      by_cases m : l = linkOfScreen r.screen
      · subst m
        rw [link_modLink_same, same, if_pos ⟨rfl, owed⟩]
      · rw [link_modLink_other _ _ _ _ m, same, if_neg (fun h => m h.1.symm)]
    · rw [if_neg owed, if_neg (fun h => owed h.2), same]

/-- What joins is settled before the event: marking one slot changes it for no other. -/
theorem joins_markSlot (s : State) (r q : SlotRef) (h : q ≠ r) : (s.markSlot r).joins q = s.joins q := by
  have screen : ((s.markSlot r).screenAt q.screen).map (fun x => (x.slot q.kind, x.ready)) =
      (s.screenAt q.screen).map fun x => (x.slot q.kind, x.ready) := by
    rw [markSlot_screenAt]
    split
    · rename_i e
      have kind : q.kind ≠ r.kind := fun k => h (by cases q; cases r; simp_all)
      rw [Option.map_map]
      congr 1
      funext x
      simp [Function.comp, Screen.slot_modSlot_other _ _ _ _ kind]
    · rfl
  have link : ∀ l, ((s.markSlot r).link l).queued q = (s.link l).queued q ∧
      ((s.markSlot r).link l).sending q = (s.link l).sending q := by
    intro l
    rw [markSlot_link]
    split
    · exact ⟨Link.queued_join _ _ _ h, Link.sending_join _ _ _⟩
    · exact ⟨rfl, rfl⟩
  simp only [State.joins, (link _).1, (link _).2]
  cases e : s.screenAt q.screen with
  | none =>
    rw [e] at screen
    cases e' : (s.markSlot r).screenAt q.screen with
    | none => rfl
    | some y => rw [e'] at screen; simp at screen
  | some x =>
    rw [e] at screen
    cases e' : (s.markSlot r).screenAt q.screen with
    | none => rw [e'] at screen; simp at screen
    | some y =>
      rw [e'] at screen
      simp only [Option.map_some, Option.some.injEq, Prod.mk.injEq] at screen
      simp [screen.1, screen.2]

/-! ### Many slots -/

/-- The slots of a list that join a link. -/
def State.joining (s : State) (rs : List SlotRef) (l : Fin 4) : List SlotRef :=
  rs.filter fun r => decide (linkOfScreen r.screen = l) && s.joins r

theorem foldl_markSlot_link (rs : List SlotRef) (s : State) (h : rs.Nodup) (l : Fin 4) :
    (rs.foldl State.markSlot s).link l = (s.link l).joinAll (s.joining rs l) := by
  induction rs generalizing s with
  | nil => rfl
  | cons r rs ih =>
    obtain ⟨out, rest⟩ := List.nodup_cons.mp h
    have later : (s.markSlot r).joining rs l = s.joining rs l := by
      refine List.filter_congr fun q hq => ?_
      rw [joins_markSlot s r q (fun e => out (e ▸ hq))]
    rw [List.foldl_cons, ih _ rest, later, markSlot_link]
    by_cases j : linkOfScreen r.screen = l ∧ s.joins r = true
    · rw [if_pos j]
      simp [State.joining, j.1, j.2, Link.joinAll]
    · rw [if_neg j]
      have : (decide (linkOfScreen r.screen = l) && s.joins r) = false := by
        rw [Bool.eq_false_iff]
        simpa using j
      simp [State.joining, this]

/-- The slots of a list that belong to one screen are marked in their order. -/
def Screen.markedIn (x : Screen) (ks : List SlotKind) : Screen :=
  ks.foldl (fun x k => x.modSlot k (Slot.marked true)) x

theorem foldl_markSlot_screenAt (l : List SlotRef) (s : State) (n : Nat) :
    (l.foldl State.markSlot s).screenAt n =
      (s.screenAt n).map fun x => x.markedIn ((l.filter fun r => decide (r.screen = n)).map (·.kind)) := by
  induction l generalizing s with
  | nil => simp [Screen.markedIn]
  | cons r l ih =>
    rw [List.foldl_cons, ih, markSlot_screenAt]
    by_cases e : n = r.screen
    · subst e
      simp only [if_true, Option.map_map]
      congr 1
      funext x
      simp [Screen.markedIn, Function.comp]
    · have e' : ¬r.screen = n := fun h => e h.symm
      simp [e, e']

theorem markedIn_filter (x : Screen) (q : SlotKind → Bool) :
    x.markedIn (slotOrder.filter q) = x.marked q := by
  cases h1 : q .route <;> cases h2 : q .programme <;> cases h3 : q .notice <;> cases h4 : q .muster <;>
    simp [slotOrder, h1, h2, h3, h4, Screen.markedIn, Screen.marked, Screen.modSlot] <;>
    simp [Slot.marked]

theorem kinds_reached (t : Table Screen) (h : Table.wf t = true) (p : Causes) (n : Nat) (x : Screen)
    (hx : Table.get t n = some x) :
    ((t.flatMap fun r => (slotOrder.filter (p r.1 r.2)).map fun k => ({ screen := r.1, kind := k } : SlotRef)).filter
      fun r => decide (r.screen = n)).map (·.kind) = slotOrder.filter (p n x) := by
  rw [Table.wf_iff] at h
  induction t with
  | nil => simp at hx
  | cons r t ih =>
    obtain ⟨j, y⟩ := r
    have other : ∀ u : Table Screen, n ∉ u.map (·.1) →
        ((u.flatMap fun r =>
          (slotOrder.filter (p r.1 r.2)).map fun k => ({ screen := r.1, kind := k } : SlotRef)).filter
            fun r => decide (r.screen = n)) = [] := by
      intro u hu
      rw [List.filter_eq_nil_iff]
      intro a ha
      obtain ⟨b, hb, hab⟩ := List.mem_flatMap.mp ha
      obtain ⟨k, _, rfl⟩ := List.mem_map.mp hab
      simp only [decide_eq_true_eq]
      rintro rfl
      exact hu (List.mem_map_of_mem (f := (·.1)) hb)
    rw [List.flatMap_cons, List.filter_append, List.map_append]
    by_cases e : j = n
    · subst e
      simp only [Table.get_cons, if_true, Option.some.injEq] at hx
      subst hx
      have hn : j ∉ t.map (·.1) := fun hm => Nat.lt_irrefl j (List.rel_of_pairwise_cons h hm)
      rw [other t hn]
      simp [List.filter_map, Function.comp_def]
    · simp only [Table.get_cons, e, if_false] at hx
      rw [ih (List.Pairwise.of_cons h) hx]
      simp [List.filter_map, Function.comp_def, e]

/-! ### The slots that the causes of an event reach -/

theorem slotBefore.ne {a b : SlotRef} (h : slotBefore a b) : a ≠ b := by
  rintro rfl
  rcases h with h | ⟨_, h⟩ <;> exact Nat.lt_irrefl _ h

theorem slotsReached_pairwise (s : State) (p : Causes) (h : Table.wf s.screen.screens = true) :
    (s.slotsReached p).Pairwise slotBefore := by
  rw [Table.wf_iff] at h
  rw [State.slotsReached, List.pairwise_flatMap]
  have order : slotOrder.Pairwise fun a b => a.code < b.code := by decide
  refine ⟨fun r _ => ?_, ?_⟩
  · rw [List.pairwise_map]
    exact (order.filter _).imp fun h => Or.inr ⟨rfl, h⟩
  · refine (List.pairwise_map.mp h).imp fun lt a ha b hb => ?_
    obtain ⟨_, _, rfl⟩ := List.mem_map.mp ha
    obtain ⟨_, _, rfl⟩ := List.mem_map.mp hb
    exact Or.inl lt

theorem mem_slotsReached (s : State) (p : Causes) (h : Table.wf s.screen.screens = true) (r : SlotRef) :
    r ∈ s.slotsReached p ↔ p.reach s r := by
  simp only [State.slotsReached, List.mem_flatMap, List.mem_map, List.mem_filter, Causes.reach]
  constructor
  · rintro ⟨⟨n, x⟩, mem, k, ⟨_, reached⟩, rfl⟩
    exact ⟨x, (Table.get_iff_mem _ h n x).mpr mem, reached⟩
  · rintro ⟨x, e, reached⟩
    refine ⟨(r.screen, x), Table.mem_of_get _ _ _ e, r.kind, ⟨?_, reached⟩, rfl⟩
    cases r.kind <;> decide

theorem Screen.marked_slot (x : Screen) (reached : SlotKind → Bool) (k : SlotKind) :
    (x.marked reached).slot k = (x.slot k).marked (reached k) := by cases k <;> rfl

/-- Which reached slots join: those that, marked, are owed, stand in no queue and are not being sent. -/
theorem joins_iff (s t : State) (p : Causes) (r : SlotRef) (reached : p.reach s r)
    (marked : ∀ n, t.screenAt n = (s.screenAt n).map fun x => x.marked (p n x)) :
    s.joins r = true ↔ (s.link (linkOfScreen r.screen)).queued r = false ∧
      (s.link (linkOfScreen r.screen)).sending r = false ∧
      ∃ x, t.screenAt r.screen = some x ∧ x.owes r.kind := by
  obtain ⟨x, e, yes⟩ := reached
  have after : t.screenAt r.screen = some (x.marked (p r.screen x)) := by rw [marked, e]; rfl
  simp only [State.joins, e, Option.any_some, after, Option.some.injEq, exists_eq_left', Screen.owes,
    Screen.marked_slot, yes, Slot.dirty, Screen.ready, Bool.and_eq_true, decide_eq_true_eq,
    Bool.not_eq_true']
  constructor
  · rintro ⟨⟨⟨dirty, present, valid⟩, queued⟩, sending⟩
    exact ⟨queued, sending, dirty, present, valid⟩
  · rintro ⟨queued, sending, dirty, present, valid⟩
    exact ⟨⟨⟨dirty, present, valid⟩, queued⟩, sending⟩

/-- Marking, once and for all (R131): every reached slot whose policy is not OFF has its generation raised
by one, the owed ones join the tail of their queues in the order of the slots, and nothing else changes. -/
theorem mark_marks (s : State) (p : Causes) (h : Table.wf s.screen.screens = true) :
    MarkedBy s (s.mark p) p := by
  have marked : ∀ n, (s.mark p).screenAt n = (s.screenAt n).map fun x => x.marked (p n x) := by
    intro n
    rw [State.mark, foldl_markSlot_screenAt]
    cases hx : s.screenAt n with
    | none => rfl
    | some x =>
      simp only [Option.map_some, Option.some.injEq]
      rw [← markedIn_filter]
      congr 1
      exact kinds_reached _ h p n x hx
  refine ⟨marked, fun l => ⟨s.joining (s.slotsReached p) l, ?_, fun r => ?_, ?_⟩⟩
  · exact (slotsReached_pairwise s p h).filter _
  · rw [State.joining, List.mem_filter, mem_slotsReached s p h, Bool.and_eq_true, decide_eq_true_eq]
    constructor
    · rintro ⟨reached, rfl, joins⟩
      exact ⟨rfl, reached, (joins_iff s _ p r reached marked).mp joins⟩
    · rintro ⟨rfl, reached, rest⟩
      exact ⟨reached, rfl, (joins_iff s _ p r reached marked).mpr rest⟩
  · have nodup : (s.slotsReached p).Nodup := (slotsReached_pairwise s p h).imp fun b => b.ne
    rw [State.mark, foldl_markSlot_link _ s nodup l, Link.joinAll_eq]
    exact ⟨⟨rfl, rfl⟩, rfl⟩

end Sys2Proof.Machine
end

