-- ==== Sys2Proof/Laws/PerInstr.lean ====
section
/-! SUPPORT. A claim about every command, proved command by command: the code of a request names that request
and no other (R188; 10 section 10.2). A command that is no request has no code. -/

set_option Elab.async false

namespace Sys2Proof.Laws.Codes

/-- Whatever code, tag and body a command has, they are read back as that command. -/
def Statement (i : Instr) : Prop :=
  ∀ (code tag : Byte) (body : List Byte), requestParts i = some (code, tag, body) →
    requestOf code tag body = some i

theorem identify (tag : Byte) (body : List Byte) : Statement (.identify tag body) := by
  rintro _ _ _ ⟨⟩; rfl

theorem portStatus (tag : Byte) (body : List Byte) : Statement (.portStatus tag body) := by
  rintro _ _ _ ⟨⟩; rfl

theorem configGet (tag : Byte) (body : List Byte) : Statement (.configGet tag body) := by
  rintro _ _ _ ⟨⟩; rfl

theorem configSet (tag : Byte) (body : List Byte) : Statement (.configSet tag body) := by
  rintro _ _ _ ⟨⟩; rfl

theorem noticeClear (tag : Byte) (body : List Byte) : Statement (.noticeClear tag body) := by
  rintro _ _ _ ⟨⟩; rfl

theorem restart (tag : Byte) (body : List Byte) : Statement (.restart tag body) := by
  rintro _ _ _ ⟨⟩; rfl

theorem cursorSet (tag : Byte) (body : List Byte) : Statement (.cursorSet tag body) := by
  rintro _ _ _ ⟨⟩; rfl

theorem readNext (tag : Byte) (body : List Byte) : Statement (.readNext tag body) := by
  rintro _ _ _ ⟨⟩; rfl

theorem loadBegin (tag : Byte) (body : List Byte) : Statement (.loadBegin tag body) := by
  rintro _ _ _ ⟨⟩; rfl

theorem loadRecord (tag : Byte) (body : List Byte) : Statement (.loadRecord tag body) := by
  rintro _ _ _ ⟨⟩; rfl

theorem loadAbort (tag : Byte) (body : List Byte) : Statement (.loadAbort tag body) := by
  rintro _ _ _ ⟨⟩; rfl

theorem nodePut (tag : Byte) (body : List Byte) : Statement (.nodePut tag body) := by
  rintro _ _ _ ⟨⟩; rfl

theorem nodeRetire (tag : Byte) (body : List Byte) : Statement (.nodeRetire tag body) := by
  rintro _ _ _ ⟨⟩; rfl

theorem nodeGet (tag : Byte) (body : List Byte) : Statement (.nodeGet tag body) := by
  rintro _ _ _ ⟨⟩; rfl

theorem edgePut (tag : Byte) (body : List Byte) : Statement (.edgePut tag body) := by
  rintro _ _ _ ⟨⟩; rfl

theorem edgeSetPass (tag : Byte) (body : List Byte) : Statement (.edgeSetPass tag body) := by
  rintro _ _ _ ⟨⟩; rfl

theorem edgeRetire (tag : Byte) (body : List Byte) : Statement (.edgeRetire tag body) := by
  rintro _ _ _ ⟨⟩; rfl

theorem edgeGet (tag : Byte) (body : List Byte) : Statement (.edgeGet tag body) := by
  rintro _ _ _ ⟨⟩; rfl

theorem routeAsk (tag : Byte) (body : List Byte) : Statement (.routeAsk tag body) := by
  rintro _ _ _ ⟨⟩; rfl

theorem targetPut (tag : Byte) (body : List Byte) : Statement (.targetPut tag body) := by
  rintro _ _ _ ⟨⟩; rfl

theorem targetRetire (tag : Byte) (body : List Byte) : Statement (.targetRetire tag body) := by
  rintro _ _ _ ⟨⟩; rfl

theorem targetGet (tag : Byte) (body : List Byte) : Statement (.targetGet tag body) := by
  rintro _ _ _ ⟨⟩; rfl

theorem stationBlock (tag : Byte) (body : List Byte) : Statement (.stationBlock tag body) := by
  rintro _ _ _ ⟨⟩; rfl

theorem stationUnblock (tag : Byte) (body : List Byte) : Statement (.stationUnblock tag body) := by
  rintro _ _ _ ⟨⟩; rfl

theorem cabinPut (tag : Byte) (body : List Byte) : Statement (.cabinPut tag body) := by
  rintro _ _ _ ⟨⟩; rfl

theorem cabinAmend (tag : Byte) (body : List Byte) : Statement (.cabinAmend tag body) := by
  rintro _ _ _ ⟨⟩; rfl

theorem cabinRetire (tag : Byte) (body : List Byte) : Statement (.cabinRetire tag body) := by
  rintro _ _ _ ⟨⟩; rfl

theorem cabinGet (tag : Byte) (body : List Byte) : Statement (.cabinGet tag body) := by
  rintro _ _ _ ⟨⟩; rfl

theorem plateRetry (tag : Byte) (body : List Byte) : Statement (.plateRetry tag body) := by
  rintro _ _ _ ⟨⟩; rfl

theorem serviceTake (tag : Byte) (body : List Byte) : Statement (.serviceTake tag body) := by
  rintro _ _ _ ⟨⟩; rfl

theorem trunkGet (tag : Byte) (body : List Byte) : Statement (.trunkGet tag body) := by
  rintro _ _ _ ⟨⟩; rfl

theorem eventPut (tag : Byte) (body : List Byte) : Statement (.eventPut tag body) := by
  rintro _ _ _ ⟨⟩; rfl

theorem eventAmend (tag : Byte) (body : List Byte) : Statement (.eventAmend tag body) := by
  rintro _ _ _ ⟨⟩; rfl

theorem eventCancel (tag : Byte) (body : List Byte) : Statement (.eventCancel tag body) := by
  rintro _ _ _ ⟨⟩; rfl

theorem eventRetire (tag : Byte) (body : List Byte) : Statement (.eventRetire tag body) := by
  rintro _ _ _ ⟨⟩; rfl

theorem eventGet (tag : Byte) (body : List Byte) : Statement (.eventGet tag body) := by
  rintro _ _ _ ⟨⟩; rfl

theorem clockSet (tag : Byte) (body : List Byte) : Statement (.clockSet tag body) := by
  rintro _ _ _ ⟨⟩; rfl

theorem clockGet (tag : Byte) (body : List Byte) : Statement (.clockGet tag body) := by
  rintro _ _ _ ⟨⟩; rfl

theorem screenPut (tag : Byte) (body : List Byte) : Statement (.screenPut tag body) := by
  rintro _ _ _ ⟨⟩; rfl

theorem screenAmend (tag : Byte) (body : List Byte) : Statement (.screenAmend tag body) := by
  rintro _ _ _ ⟨⟩; rfl

theorem screenRetire (tag : Byte) (body : List Byte) : Statement (.screenRetire tag body) := by
  rintro _ _ _ ⟨⟩; rfl

theorem screenGet (tag : Byte) (body : List Byte) : Statement (.screenGet tag body) := by
  rintro _ _ _ ⟨⟩; rfl

theorem noticeSet (tag : Byte) (body : List Byte) : Statement (.noticeSet tag body) := by
  rintro _ _ _ ⟨⟩; rfl

theorem musterStart (tag : Byte) (body : List Byte) : Statement (.musterStart tag body) := by
  rintro _ _ _ ⟨⟩; rfl

theorem musterEnd (tag : Byte) (body : List Byte) : Statement (.musterEnd tag body) := by
  rintro _ _ _ ⟨⟩; rfl

theorem musterStatus (tag : Byte) (body : List Byte) : Statement (.musterStatus tag body) := by
  rintro _ _ _ ⟨⟩; rfl

theorem readAnswer (x : Transaction) : Statement (.readAnswer x) := by
  intro _ _ _ h; exact absurd h (by simp [requestParts])

theorem portOverrun : Statement .portOverrun := by
  intro _ _ _ h; exact absurd h (by simp [requestParts])

theorem badFrame (bytes : List Byte) : Statement (.badFrame bytes) := by
  intro _ _ _ h; exact absurd h (by simp [requestParts])

theorem unknownRequest (tag code : Byte) : Statement (.unknownRequest tag code) := by
  intro _ _ _ h; exact absurd h (by simp [requestParts])

theorem powerOnReset : Statement .powerOnReset := by
  intro _ _ _ h; exact absurd h (by simp [requestParts])

theorem pinReset : Statement .pinReset := by
  intro _ _ _ h; exact absurd h (by simp [requestParts])

theorem alarmInChange (low : Bool) : Statement (.alarmInChange low) := by
  intro _ _ _ h; exact absurd h (by simp [requestParts])

theorem alarmInFilterExpiry : Statement .alarmInFilterExpiry := by
  intro _ _ _ h; exact absurd h (by simp [requestParts])

theorem drillTimerExpiry : Statement .drillTimerExpiry := by
  intro _ _ _ h; exact absurd h (by simp [requestParts])

theorem entryCountTimerExpiry : Statement .entryCountTimerExpiry := by
  intro _ _ _ h; exact absurd h (by simp [requestParts])

theorem secondTimerExpiry : Statement .secondTimerExpiry := by
  intro _ _ _ h; exact absurd h (by simp [requestParts])

theorem standDownCompletion : Statement .standDownCompletion := by
  intro _ _ _ h; exact absurd h (by simp [requestParts])

theorem buildCompletion : Statement .buildCompletion := by
  intro _ _ _ h; exact absurd h (by simp [requestParts])

theorem surveyTimerExpiry (trunk : Fin 16) : Statement (.surveyTimerExpiry trunk) := by
  intro _ _ _ h; exact absurd h (by simp [requestParts])

theorem holdTimerExpiry (trunk : Fin 16) : Statement (.holdTimerExpiry trunk) := by
  intro _ _ _ h; exact absurd h (by simp [requestParts])

theorem idleGuardExpiry (trunk : Fin 16) : Statement (.idleGuardExpiry trunk) := by
  intro _ _ _ h; exact absurd h (by simp [requestParts])

theorem stuckTimerExpiry (trunk : Fin 16) : Statement (.stuckTimerExpiry trunk) := by
  intro _ _ _ h; exact absurd h (by simp [requestParts])

theorem otherTalkerOpen (trunk : Fin 16) : Statement (.otherTalkerOpen trunk) := by
  intro _ _ _ h; exact absurd h (by simp [requestParts])

theorem otherTalkerClose (trunk : Fin 16) : Statement (.otherTalkerClose trunk) := by
  intro _ _ _ h; exact absurd h (by simp [requestParts])

theorem hold (trunk : Fin 16) (addressAccepted : Bool) : Statement (.hold trunk addressAccepted) := by
  intro _ _ _ h; exact absurd h (by simp [requestParts])

theorem holdRelease (trunk : Fin 16) : Statement (.holdRelease trunk) := by
  intro _ _ _ h; exact absurd h (by simp [requestParts])

theorem arbitrationLoss (trunk : Fin 16) (addressAccepted : Bool) : Statement (.arbitrationLoss trunk addressAccepted) := by
  intro _ _ _ h; exact absurd h (by simp [requestParts])

theorem recoveringWiresHigh (trunk : Fin 16) : Statement (.recoveringWiresHigh trunk) := by
  intro _ _ _ h; exact absurd h (by simp [requestParts])

theorem faultWiresHigh (trunk : Fin 16) : Statement (.faultWiresHigh trunk) := by
  intro _ _ _ h; exact absurd h (by simp [requestParts])

theorem writeCompletion (trunk : Fin 16) : Statement (.writeCompletion trunk) := by
  intro _ _ _ h; exact absurd h (by simp [requestParts])

theorem writeRefused (trunk : Fin 16) : Statement (.writeRefused trunk) := by
  intro _ _ _ h; exact absurd h (by simp [requestParts])

theorem broadcastCompletion (trunk : Fin 16) : Statement (.broadcastCompletion trunk) := by
  intro _ _ _ h; exact absurd h (by simp [requestParts])

theorem surveyStepEnd (trunk : Fin 16) (how : SurveyEnd) : Statement (.surveyStepEnd trunk how) := by
  intro _ _ _ h; exact absurd h (by simp [requestParts])

theorem privacy : Statement .privacy := by
  intro _ _ _ h; exact absurd h (by simp [requestParts])

theorem serviceCall : Statement .serviceCall := by
  intro _ _ _ h; exact absurd h (by simp [requestParts])

theorem sweepClear : Statement .sweepClear := by
  intro _ _ _ h; exact absurd h (by simp [requestParts])

theorem toolWrite : Statement .toolWrite := by
  intro _ _ _ h; exact absurd h (by simp [requestParts])

theorem periodTimerExpiry (link : Fin 4) : Statement (.periodTimerExpiry link) := by
  intro _ _ _ h; exact absurd h (by simp [requestParts])

theorem accept (link : Fin 4) (address flags slot : Byte) (gen : Word16) : Statement (.accept link address flags slot gen) := by
  intro _ _ _ h; exact absurd h (by simp [requestParts])

theorem reject (link : Fin 4) (address flags slot : Byte) (gen : Word16) : Statement (.reject link address flags slot gen) := by
  intro _ _ _ h; exact absurd h (by simp [requestParts])

theorem descriptor (link : Fin 4) (address flags lines : Byte) (languages : Word16) (panelClass : Byte) : Statement (.descriptor link address flags lines languages panelClass) := by
  intro _ _ _ h; exact absurd h (by simp [requestParts])

theorem corruptAnswer (link : Fin 4) : Statement (.corruptAnswer link) := by
  intro _ _ _ h; exact absurd h (by simp [requestParts])

theorem answerWindowExpiry (link : Fin 4) : Statement (.answerWindowExpiry link) := by
  intro _ _ _ h; exact absurd h (by simp [requestParts])

theorem answerLimitExpiry (link : Fin 4) : Statement (.answerLimitExpiry link) := by
  intro _ _ _ h; exact absurd h (by simp [requestParts])

theorem trunkWireChange (trunk : Fin 16) (clockHigh dataHigh : Bool) : Statement (.trunkWireChange trunk clockHigh dataHigh) := by
  intro _ _ _ h; exact absurd h (by simp [requestParts])

theorem screenAnswerBegin (link : Fin 4) : Statement (.screenAnswerBegin link) := by
  intro _ _ _ h; exact absurd h (by simp [requestParts])

end Sys2Proof.Laws.Codes
end

