-- ==== Sys2Proof/Laws/Serve.lean ====
section
/-! SUPPORT. What taking a request can do, said once: a body that does not fit, a changing request during a load,
a request that its owner refuses or only reads for, and one that changes the state. A meaning of a request is
`serve` of its parser and its owner, so these are all its cases. -/

set_option Elab.async false

namespace Sys2Proof.Machine

theorem answering_eq (s t : State) (tag : Byte) (r : Reply) (h : t.port.out = [s.statusByte])
    (hf : t.fresh = s.fresh) : t.placeAnswer tag r = s.answering t tag r.result r.body := by
  simp only [State.placeAnswer, State.answering, hf]
  congr 1
  rw [← h]

@[simp] theorem loading_beginRequest (s : State) : s.beginRequest.loading = s.loading := rfl

theorem answering_beginRequest (s : State) (tag : Byte) (r : Result) (body : List Byte) :
    s.answering s.beginRequest tag r body = s.answering s tag r body := rfl

/-- A body of a wrong length is answered BAD_FIELD with LENGTH. -/
theorem serve_misfit {α : Type} (tag : Byte) (changing : Bool) (op : Owner α) (s : State) :
    serve tag none changing op s = s.answering s tag .badField [0#8] := rfl

/-- A changing request during a load is answered BUSY. -/
theorem serve_busy {α : Type} (tag : Byte) (b : α) (op : Owner α) (s : State) (h : s.loading = true) :
    serve tag (some b) true op s = s.answering s tag .busy [] := by
  simp only [serve, judgeRequest, handOver, loading_beginRequest, h, Bool.and_self, if_true]
  rfl

/-- A request that reaches its owner. -/
theorem serve_owner {α : Type} (tag : Byte) (b : α) (changing : Bool) (op : Owner α) (s : State)
    (h : (changing && s.loading) = false) :
    serve tag (some b) changing op s =
      (op b s.beginRequest).1.placeAnswer tag (op b s.beginRequest).2 := by
  simp only [serve, judgeRequest, handOver, loading_beginRequest, h, Bool.false_eq_true, if_false]

/-- A request whose owner changes nothing. -/
theorem serve_same {α : Type} (tag : Byte) (b : α) (changing : Bool) (op : Owner α) (s : State) (r : Reply)
    (h : (changing && s.loading) = false) (ho : op b s.beginRequest = (s.beginRequest, r)) :
    serve tag (some b) changing op s = s.answering s tag r.result r.body := by
  rw [serve_owner tag b changing op s h, ho]
  rfl

/-- A request that only reads. -/
theorem serve_reading {α : Type} (tag : Byte) (b : α) (f : α → State → Reply) (s : State) :
    serve tag (some b) false (reading f) s =
      s.answering s tag (f b s.beginRequest).result (f b s.beginRequest).body := rfl

/-- A request whose owner leaves the bytes driven and the model's counter alone. -/
theorem serve_changed {α : Type} (tag : Byte) (b : α) (changing : Bool) (op : Owner α) (s : State)
    (h : (changing && s.loading) = false) (ho : (op b s.beginRequest).1.port.out = [s.statusByte])
    (hf : (op b s.beginRequest).1.fresh = s.fresh) :
    serve tag (some b) changing op s =
      s.answering (op b s.beginRequest).1 tag (op b s.beginRequest).2.result (op b s.beginRequest).2.body := by
  rw [serve_owner tag b changing op s h, answering_eq s _ tag _ ho hf]

/-- Raising a notice drives no byte. -/
@[simp] theorem raiseNotice_out (s : State) (n : Notice) : (s.raiseNotice n).port.out = s.port.out := rfl

end Sys2Proof.Machine
end

