-- ==== Sys2Proof/Tests/Slice0.lean ====
section
/-! SUPPORT. Tests of the model: ill-formed commands that the checks refuse, frames and sums written out from the
spec, and, for each statement with hypotheses, a state and operands that meet them. The states are made by running
commands from reset. -/

namespace Sys2Proof.Tests

open Sys2Proof.Machine

set_option Elab.async false

/-- The state after a command. -/
def after (s : State) (i : Instr) : State := match exec i s with
  | .next t => t
  | .fault _ => s
  | .refused _ => s

/-- The state after a list of commands. -/
def run (s : State) (is : List Instr) : State := is.foldl after s

/-! ### Well-formedness (smoke tests) -/

theorem test_wf_refuses_long_body : (Instr.identify 0#8 (List.replicate 513 0#8)).wf = false := by decide +kernel

theorem test_wf_takes_longest_body : (Instr.identify 0#8 (List.replicate 512 0#8)).wf = true := by decide +kernel

theorem test_wf_refuses_good_frame_as_bad :
    (Instr.badFrame [7#8, 0x12#8, 0#8, 2#8, 0#8, 40#8, 0x4D#8, 0x82#8]).wf = false := by decide +kernel

theorem test_wf_refuses_known_code_as_unknown :
    (Instr.unknownRequest 0#8 0x10#8).wf = false ∧ (Instr.unknownRequest 0#8 0x07#8).wf = true := by
  decide +kernel

theorem test_wf_refuses_tag_without_sweep :
    (Instr.surveyStepEnd 0 (.news 0x40#8 [0#8])).wf = false ∧ (Instr.surveyStepEnd 0 (.news 0x40#8 [])).wf = true := by
  decide +kernel

theorem test_wf_refuses_long_tag :
    (Instr.surveyStepEnd 0 (.news 0x60#8 [0#8, 7#8, 0#8])).wf = false ∧
    (Instr.surveyStepEnd 0 (.news 0x60#8 [0#8, 7#8])).wf = true ∧
    (Instr.surveyStepEnd 0 (.news 0x7C#8 [0#8])).wf = true := by decide +kernel

theorem test_wf_refuses_request_as_read_answer : (Instr.readAnswer ⟨0xA5#8, 9⟩).wf = false ∧
    (Instr.readAnswer ⟨0x5A#8, 9⟩).wf = true ∧ (Instr.readAnswer ⟨0#8, 0⟩).wf = true := by decide +kernel

/-! ### Words written out from the spec -/

theorem test_crc_of_the_digits : crc16
    [0x31#8, 0x32#8, 0x33#8, 0x34#8, 0x35#8, 0x36#8, 0x37#8, 0x38#8, 0x39#8] = 0x29B1#16 := by decide +kernel

theorem test_frame_of_node_get :
    decodeFrame [7#8, 0x12#8, 0#8, 2#8, 0#8, 40#8, 0x4D#8, 0x82#8] = .nodeGet 7#8 [0#8, 40#8] := by decide +kernel

theorem test_frame_of_muster_start :
    decodeFrame [9#8, 0x60#8, 0#8, 1#8, 2#8, 0xF3#8, 0xD1#8] = .musterStart 9#8 [2#8] := by decide +kernel

theorem test_words_spell_no_command : decodeTableWord 16 0x1234 = none := by decide

/-! ### A small ship -/

/-- Four nodes and three edges. -/
def deckPlan : List Instr := [
  .nodePut 1#8 (u16 0 ++ [3#8, 1#8]), .nodePut 1#8 (u16 1 ++ [3#8, 1#8]), .nodePut 1#8 (u16 2 ++ [4#8, 2#8]),
  .nodePut 1#8 (u16 1023 ++ [19#8, 12#8]),
  .edgePut 1#8 (u16 0 ++ u16 0 ++ u16 1 ++ u16 12 ++ [0#8, 0#8, 4#8, 0#8]),
  .edgePut 1#8 (u16 1 ++ u16 1 ++ u16 2 ++ u16 3 ++ [2#8, 8#8, 9#8, 0#8]),
  .edgePut 1#8 (u16 3071 ++ u16 0 ++ u16 2 ++ u16 500 ++ [1#8, 8#8, 9#8, 0#8])]

/-- Two stations and two venues. -/
def targets : List Instr := [
  .targetPut 1#8 ([0#8, 1#8] ++ u16 2 ++ u16 77 ++ [0#8] ++ u16 3),
  .targetPut 1#8 ([1#8, 0#8] ++ u16 0 ++ u16 78 ++ [0#8] ++ u16 0),
  .targetPut 1#8 ([2#8, 1#8] ++ u16 1 ++ u16 79 ++ [1#8] ++ u16 0),
  .targetPut 1#8 ([63#8, 0#8] ++ u16 1 ++ u16 80 ++ [0#8] ++ u16 0)]

/-- The body of a CABIN_PUT on deck 5, at node 0. -/
def cabinBody (number : Nat) (plate : List Byte) (occupancy primary alternate : Nat) (label : List Nat) : List Byte :=
  [5#8] ++ u16 number ++ u16 0 ++ plate ++ [2#8] ++ u8 occupancy ++ [0#8, 0#8] ++ u16 0 ++ u8 primary ++
    u8 alternate ++ u8 label.length ++ label.flatMap u16

/-- Three cabins, two of them with plates. -/
def cabins : List Instr := [
  .cabinPut 1#8 (cabinBody 1 [0#8, 1#8] 1 0 255 [65]),
  .cabinPut 1#8 (cabinBody 2 [255#8, 0#8] 0 0 2 []),
  .cabinPut 1#8 (cabinBody 999 [1#8, 250#8] 1 2 255 [66])]

/-- The clock, three entries, two screens, and trunks 0 and 1 and link 0 enabled. -/
def services : List Instr := [
  .clockSet 1#8 (u24 100 ++ [0#8]),
  .eventPut 1#8 (u16 1 ++ u24 50 ++ u24 200 ++ [1#8] ++ u16 7 ++ [0#8, 0#8]),
  .eventPut 1#8 (u16 2 ++ u24 150 ++ u24 300 ++ [1#8] ++ u16 8 ++ [1#8, 1#8]),
  .eventPut 1#8 (u16 3 ++ u24 10 ++ u24 95 ++ [1#8] ++ u16 9 ++ [2#8, 2#8]),
  .screenPut 1#8 ([0#8, 1#8] ++ u16 1 ++ [0#8, 0#8, 1#8, 255#8] ++ u16 0 ++ [0x3F#8, 1#8, 0#8, 2#8, 0#8, 1#8]),
  .screenPut 1#8 ([3#8, 128#8] ++ u16 2 ++ [6#8, 1#8, 2#8, 0#8] ++ u16 4 ++ [0x25#8, 2#8, 0#8, 15#8, 0#8]),
  .configSet 1#8 (u16 0x21 ++ [1#8] ++ u16 3)]

/-- A loaded part, in NORMAL; the first map is being built. -/
def ship : State := run State.reset (deckPlan ++ targets ++ cabins ++ services)

/-- The same part with every map built. -/
def built : State := run ship (List.replicate 8 .buildCompletion)

/-- The same part with its first screen found, which is sent its MUSTER slot. -/
def shown : State := run built [.screenAnswerBegin 0, .descriptor 0 1#8 0#8 4#8 0xFFFF#16 1#8]

/-- Trunk 0 broadcasts its mode. -/
def talking : State := after built (.idleGuardExpiry 0)

/-- Trunk 0 writes the face of its cabin. -/
def writing : State := after talking (.broadcastCompletion 0)

/-- Trunk 0 reads the news of its plate. -/
def surveying : State := run writing [.writeCompletion 0, .surveyTimerExpiry 0]

/-- Trunk 0 in each state. -/
def idle : State := after writing (.writeCompletion 0)
def held : State := after surveying (.hold 0 true)
def heldWrite : State := after writing (.hold 0 false)
def heldBroadcast : State := after talking (.hold 0 false)
def recovering : State := after held (.holdTimerExpiry 0)
def faulty : State := after recovering (.stuckTimerExpiry 0)
def listening : State := after ship (.otherTalkerOpen 0)

/-- A plate that has refused three times is FAILED. -/
def failed : State := run writing (List.replicate 3 (.writeRefused 0))

/-- A load of one edge is under way. -/
def loading : State := after ship (.loadBegin 1#8 [1#8, 0#8, 1#8])

/-- A drill with a limit, and an alarm. -/
def drill : State := run built [.configSet 1#8 (u16 0x400 ++ [1#8]), .musterStart 1#8 [1#8]]
def alarm : State := after built (.musterStart 1#8 [2#8])

/-- A stand-down, from a part whose trunks and links are disabled: it holds at once. -/
def standDown : State :=
  run built [.configSet 1#8 (u16 0x21 ++ [0#8] ++ u16 0), .musterStart 1#8 [1#8], .musterEnd 1#8 []]

/-! ### The states are in order

Each state's records, maps, plates, trunks and links are checked over what it lists; the invariants follow. -/

theorem test_ship_records : RecordsChecked ship := by decide +kernel
theorem test_ship_maps : MapsChecked ship := by decide +kernel
theorem test_ship_plates : PlatesChecked ship := by decide +kernel
theorem test_built_records : RecordsChecked built := by decide +kernel
theorem test_built_maps : MapsChecked built := by decide +kernel
theorem test_shown_records : RecordsChecked shown := by decide +kernel
theorem test_drill_records : RecordsChecked drill := by decide +kernel
theorem test_drill_maps : MapsChecked drill := by decide +kernel
theorem test_alarm_records : RecordsChecked alarm := by decide +kernel
theorem test_alarm_maps : MapsChecked alarm := by decide +kernel
theorem test_standDown_records : RecordsChecked standDown := by decide +kernel
theorem test_standDown_maps : MapsChecked standDown := by decide +kernel

theorem test_ship_contents : ContentsChecked ship := by decide +kernel
theorem test_ship_cabins : CabinsChecked ship := by decide +kernel
theorem test_ship_entries : EntriesChecked ship := by decide +kernel
theorem test_built_contents : ContentsChecked built := by decide +kernel

theorem test_ship_records_hold : TablesWf ship ∧ GraphInv ship ∧
    TargetInv ship := records_of_checked test_ship_records

theorem test_ship_tables : TablesWf ship := test_ship_records_hold.1

theorem test_ship_targets : TargetInv ship := test_ship_records_hold.2.2

theorem test_ship_degrees : DegreeInv ship :=
  degreeInv_of_check test_ship_tables.2.1.1 test_ship_records_hold.2.1 (by decide +kernel)

theorem test_ship_routes : RouteInv ship := routeInv_of_checked test_ship_maps

theorem test_ship_programme : EntryInv ship := entryInv_of_checked test_ship_entries

theorem test_ship_trunks : TrunkInv ship := by unfold TrunkInv TrunkOk; decide +kernel

theorem test_drill_trunks : TrunkInv drill := by unfold TrunkInv TrunkOk; decide +kernel

theorem test_ship_muster : MusterInv ship := by unfold MusterInv; decide +kernel

theorem test_drill_muster : MusterInv drill := by unfold MusterInv; decide +kernel

theorem test_shown_checked : ScreensChecked shown := by decide +kernel

theorem test_shown_screens : ScreenInv shown := screenInv_of_checked test_shown_checked

theorem test_built_invariants : TablesWf built ∧ GraphInv built ∧ TargetInv built ∧ RouteInv built :=
  have ⟨w, g, t⟩ := records_of_checked test_built_records
  ⟨w, g, t, routeInv_of_checked test_built_maps⟩

theorem test_shown_invariants : TablesWf shown ∧ TargetInv shown :=
  have ⟨w, _, t⟩ := records_of_checked test_shown_records
  ⟨w, t⟩

theorem test_muster_invariants : (TablesWf drill ∧ RouteInv drill) ∧ (TablesWf alarm ∧ RouteInv alarm) ∧
    (TablesWf standDown ∧ RouteInv standDown) :=
  ⟨⟨(records_of_checked test_drill_records).1, routeInv_of_checked test_drill_maps⟩,
    ⟨(records_of_checked test_alarm_records).1, routeInv_of_checked test_alarm_maps⟩,
    (records_of_checked test_standDown_records).1, routeInv_of_checked test_standDown_maps⟩

/-! ### What the statements assume is met

For each statement with hypotheses, `test_hyp_<its name>`: the states and operands that meet them together, at the
ends of their ranges. The invariants that a statement assumes are those of its state above. -/

/-- Node 1022 is free, node 1023 is live and free of claims, and node 0 is claimed. -/
theorem test_hyp_NodesArePutAndRetired : ship.loading = false ∧ Table.wf ship.screen.screens = true ∧
    rd16 4#8 0#8 = 1024 ∧ rd16 3#8 254#8 = 1022 ∧ ship.node 1022 = none ∧ rd16 3#8 255#8 = 1023 ∧
    ship.node 1023 = some { deck := 19, zone := 12, degree := 0, refs := 0 } ∧
    (ship.node 0).any (fun x => decide (0 < x.refs)) = true := by decide +kernel

/-- A node with 8 edge ends. -/
def crowded : State := run State.reset ((List.range 10).map (fun n => .nodePut 1#8 (u16 n ++ [3#8, 1#8])) ++
  (List.range 8).map fun n => .edgePut 1#8 (u16 n ++ u16 0 ++ u16 (n + 1) ++ u16 5 ++ [0#8, 0#8, 4#8, 0#8]))

/-- An edge put as new, as an amendment of a lift, and out of range; and at a crowded node. -/
theorem test_hyp_EdgePutChecksThenMovesCountsAndGenerations : (GraphInv ship ∧ RouteInv ship) ∧
    (let b : EdgeBody := { id := 3070, endA := 0, endB := 1023, length := 500, kind := 1, leaveA := 8, leaveB := 9,
                           flags := 3 }
     let e : Edge := { endA := 0, endB := 1023, length := 500, kind := .stair, leaveA := .up, leaveB := .down,
                       pass := .closed, crewOnly := true }
     ship.loading = false ∧
     parseEdge (u16 3070 ++ u16 0 ++ u16 1023 ++ u16 500 ++ [1#8, 8#8, 9#8, 3#8]) = some b ∧ b.InRange ∧
     b.Gives e ∧ b.endA ≠ b.endB ∧ (ship.node b.endA).isSome ∧ (ship.node b.endB).isSome ∧
     ship.endsOfOthers b.id b.endA < 8 ∧ ship.endsOfOthers b.id b.endB < 8 ∧ ship.edge b.id = none ∧
     ¬{ b with length := 501 }.InRange ∧ ({ b with id := 1 } : EdgeBody).InRange ∧
     (ship.edge 1).any Edge.openLift = true ∧ ship.endsOfOthers 1 0 < 8 ∧ ship.endsOfOthers 1 1023 < 8) ∧
    crowded.loading = false ∧ (crowded.node 9).isSome ∧ 8 ≤ crowded.endsOfOthers 8 0 ∧
    crowded.endsOfOthers 8 9 < 8 :=
  ⟨⟨test_ship_records_hold.2.1, test_ship_routes⟩, by unfold EdgeBody.InRange EdgeBody.Gives; decide +kernel⟩

/-- An open edge, a closed one and a free id, and their ends of range. -/
theorem test_hyp_EdgesAreOpenedClosedAndRetired : (GraphInv ship ∧ RouteInv ship) ∧ ship.loading = false ∧
    rd16 11#8 255#8 = 3071 ∧
    (ship.edge 3071).map (·.pass) = some .opened ∧ rd16 11#8 254#8 = 3070 ∧ ship.edge 3070 = none ∧
    rd16 12#8 0#8 = 3072 ∧ (ship.edge 1).map (·.kind) = some .lift :=
  ⟨⟨test_ship_records_hold.2.1, test_ship_routes⟩, by decide +kernel⟩

theorem test_hyp_BuildsFindLeastPaths : ship.anchorOf 0 = some 2 ∧ ship.anchorOf 63 = some 1 ∧
    Table.wf ship.graph.edges = true ∧ Table.get (ship.buildResult ⟨0, .general⟩) 0 = some ⟨some 0, 15⟩ ∧
    Table.get (ship.buildResult ⟨0, .general⟩) 1023 = none := by decide +kernel

/-- A screen that shows target 1 and every venue by step-free ways. -/
def screenAtNode1 : Screen :=
  { node := 1, facing := .fore, stepFree := true, shown := [1], scope := .all, override := none, languages := [0],
    notice := 0, mode := .normal, attach := .absent, descValid := false, descriptor := none, misses := 0,
    lastAddressed := none, routeSlot := ⟨.refreshed, 0#16, some 0#16, none⟩,
    programmeSlot := ⟨.refreshed, 0#16, some 0#16, none⟩, noticeSlot := ⟨.off, 0#16, some 0#16, none⟩,
    musterSlot := ⟨.refreshed, 0#16, some 0#16, none⟩ }

/-- The same part with one map left to be built, and none waiting. -/
def lastBuild : State := run ship (List.replicate 7 .buildCompletion)

theorem test_lastBuild_maps : MapsChecked lastBuild := by decide +kernel

theorem test_hyp_BuildCompletionMakesTheMapCurrent : RouteInv ship ∧ RouteInv lastBuild ∧
    Table.wf ship.screen.screens = true ∧
    ship.route.build = some { map := ⟨0, .general⟩, gen := 3#16 } ∧ ship.rebuildQueue.head? = some ⟨0, .stepFree⟩ ∧
    Table.wf lastBuild.screen.screens = true ∧
    lastBuild.route.build = some { map := ⟨63, .stepFree⟩, gen := 2#16 } ∧ lastBuild.rebuildQueue = [] ∧
    ship.mapCauses ⟨1, .stepFree⟩ 0 screenAtNode1 .programme = true ∧
    ship.mapCauses ⟨2, .stepFree⟩ 0 screenAtNode1 .muster = true :=
  ⟨test_ship_routes, routeInv_of_checked test_lastBuild_maps, by decide +kernel⟩

/-- Built maps of a part whose walk to the first stretch has been closed. -/
def closed : State := after built (.edgeSetPass 1#8 (u16 0 ++ [1#8]))

/-- A walk of 65 edges to the anchor of a target, and one of 64. -/
def farAway : State := run State.reset ((List.range 66).map (fun n => .nodePut 1#8 (u16 n ++ [3#8, 1#8])) ++
  (List.range 65).map (fun n => .edgePut 1#8 (u16 n ++ u16 n ++ u16 (n + 1) ++ u16 5 ++ [0#8, 0#8, 4#8, 0#8])) ++
  [.targetPut 1#8 ([0#8, 0#8] ++ u16 0 ++ u16 78 ++ [0#8] ++ u16 0), .buildCompletion, .buildCompletion])

theorem test_farAway_records : TablesChecked farAway := by decide +kernel
theorem test_farAway_maps : MapsChecked farAway := by decide +kernel
theorem test_farAway_contents : ContentsChecked farAway := by decide +kernel

/-- A lookup in a CURRENT map at, towards and away from the anchor; in a STALE and a BUILDING one with and without
a usable edge; and in an EMPTY one. A trace that is cut short at 64 edges, and two that reach the anchor. -/
theorem test_hyp_LookupsAndTraces : (TablesWf farAway ∧ RouteInv farAway ∧ ContentInv farAway) ∧
    (TablesWf built ∧ RouteInv built ∧ ContentInv built) ∧
    (built.mapAt ⟨0, .general⟩).map (·.state) = some .current ∧ built.anchorOf 0 = some 2 ∧
    (built.lookup ⟨0, .general⟩ 0).kind = .route ∧ (built.lookup ⟨0, .general⟩ 1023).kind = .noRoute ∧
    (closed.mapAt ⟨0, .general⟩).map (·.state) = some .building ∧
    (closed.mapAt ⟨2, .general⟩).map (·.state) = some .stale ∧
    (closed.lookup ⟨2, .general⟩ 2).kind = .provisional ∧ (closed.lookup ⟨2, .general⟩ 0).kind = .hold ∧
    (closed.lookup ⟨2, .general⟩ 1).kind = .here ∧
    (ship.mapAt ⟨2, .general⟩).map (·.state) = some .empty ∧
    (built.traceOf ⟨0, .general⟩ 0 true).2 = false ∧ (built.lookup ⟨0, .general⟩ 0).dist = 15 ∧
    (farAway.lookup ⟨0, .general⟩ 65).kind = .route ∧ (farAway.traceOf ⟨0, .general⟩ 65 true).1.length = 64 ∧
    (farAway.traceOf ⟨0, .general⟩ 65 true).2 = true ∧ (farAway.traceOf ⟨0, .general⟩ 64 true).2 = false :=
  ⟨⟨test_farAway_records, routeInv_of_checked test_farAway_maps, contentInv_of_checked test_farAway_contents⟩,
    ⟨test_built_invariants.1, test_built_invariants.2.2.2, contentInv_of_checked test_built_contents⟩,
    by decide +kernel⟩

/-- A live target and node, a free one of each, a map with a built generation and one without; and a map being built,
one at the head and one behind it in each class, and one that does not wait. -/
theorem test_hyp_RouteAskAnswersTheLookup : (ship.targetAt 63).isSome ∧ ship.targetAt 62 = none ∧
    rd16 3#8 255#8 = 1023 ∧ (ship.node 1023).isSome ∧ ship.node 1022 = none ∧
    (ship.mapAt ⟨63, .stepFree⟩).bind (·.builtGen) = none ∧ (built.mapAt ⟨63, .stepFree⟩).bind (·.builtGen) =
      some 2#16 ∧
    ship.route.build.map (·.map) = some ⟨0, .general⟩ ∧ drill.route.build.map (·.map) = some ⟨0, .general⟩ ∧
    ship.route.urgent = [] ∧ ship.route.ordinary.take 2 = [⟨0, .stepFree⟩, ⟨1, .general⟩] ∧
    drill.route.urgent = [⟨0, .stepFree⟩, ⟨2, .general⟩, ⟨2, .stepFree⟩] ∧ built.route.build = none ∧
    built.rebuildQueue = [] ∧
    (ship.lookup ⟨0, .general⟩ 0).kind = .hold ∧ (built.lookup ⟨0, .general⟩ 0).kind = .route ∧
    (built.lookup ⟨0, .general⟩ 2).kind = .here := by decide +kernel

theorem test_hyp_AnEmptyQueueLetsAMillisecondPass : built.pending = [] ∧ shown.pending = [] := by decide +kernel

/-- A second, a link period, an idle guard and the ALARM_IN filter that fall due in one millisecond. -/
def aboutToFallDue : State :=
  let r := State.reset
  (({ r with
      programme := { r.programme with secondTimer := some 999 }
      muster := { r.muster with filterTimer := some 49, entryTimer := some 0 } }.setLink 1
    { r.link 1 with timer := some 1999 }).setTrunk 15 { r.trunk 15 with guardTimer := some 4 })

/-- They join in the order of log 1, each once; the entry count, which is not due, does not. -/
theorem test_expiries_of_one_millisecond_in_order : aboutToFallDue.tick.pending =
    [.secondTimerExpiry, .periodTimerExpiry 1, .idleGuardExpiry 15, .alarmInFilterExpiry] := by decide +kernel

/-- The bodies whose fields the statement lays out are read from bytes; labels and lists at their longest. -/
theorem test_bodies_are_read : (parseEdge (List.replicate 12 1#8)).isSome ∧
    (parseTarget (List.replicate 9 1#8)).isSome ∧ (parseEntry (List.replicate 13 1#8)).isSome ∧
    (parseCabin (List.replicate 15 1#8 ++ [0#8])).isSome ∧ (parseScreen (List.replicate 11 1#8 ++ [0#8, 0#8])).isSome ∧
    (parseCabinAmend (List.replicate 3 1#8 ++ [0#8, 0#8])).isSome ∧ (parseEntryAmend [1#8, 1#8, 0#8, 0#8]).isSome ∧
    (parseScreenAmend [1#8, 1#8, 0#8, 0#8]).isSome ∧ (List.replicate 255 0x41#16).length < 256 ∧
    (parseConfig (u16 0xFFF ++ List.replicate 21 1#8)).isSome ∧ crc16 [] = 0xFFFF#16 := by decide +kernel

/-- Requests with the shortest and the longest body. -/
theorem test_hyp_RequestFramesReadBack :
    requestParts (.identify 255#8 []) = some (0x01#8, 255#8, []) ∧ (Instr.identify 255#8 []).wf = true ∧
    requestParts (.loadRecord 0#8 (List.replicate 512 1#8)) = some (0x0B#8, 0#8, List.replicate 512 1#8) ∧
    (Instr.loadRecord 0#8 (List.replicate 512 1#8)).wf = true := by decide +kernel

/-- A frame cut short, one with a wrong CRC, and a right one with an unknown code. -/
theorem test_hyp_BadFramesAreAnsweredInOrder :
    ¬(rd16 2#8 1#8 ≤ 512) ∧ rd16 2#8 0#8 = 512 ∧
    (let rest := u16 (crc16 [1#8, 7#8, 0#8, 0#8]).toNat
     0 + 2 ≤ rest.length ∧ rest.take 2 = u16 (crc16 [1#8, 7#8, 0#8, 0#8]).toNat ∧
     [0#8, 0#8] ≠ u16 (crc16 [1#8, 7#8, 0#8, 0#8]).toNat) ∧ requestOf 7#8 1#8 [] = none := by decide +kernel

theorem test_hyp_StatusByteOverrunsAndReadAnswer : ship.port.events &&& 0xFF00#16 = 0#16 ∧
    ship.port.answer.isSome = true ∧ (0#8 : Byte) ≠ 0x5A#8 ∧ (0#8 : Byte) ≠ 0xA5#8 ∧
    (after ship (.readAnswer ⟨0xFF#8, 2⟩)).port.out = [ship.statusByte, 0xFF#8, 0xFF#8] ∧
    (after ship (.badFrame [])).port.answer = ship.port.answer := by decide +kernel

/-- A changing request whose body fits, and one whose body does not, while a load is under way. -/
theorem test_hyp_ChangingRequestsAreBusyWhileLoading : loading.port.load.isSome ∧
    changingRequest (.nodeRetire 1#8 [0#8, 0#8]) = some (1#8, true) ∧
    changingRequest (.nodeRetire 1#8 [0#8]) = some (1#8, false) ∧
    otherRequest (.nodeGet 1#8 [0#8]) = some (1#8, false) := by decide +kernel

/-- The cursor at each end of the node table, and past its last live slot; and the first record of every table. -/
theorem test_hyp_CursorWalksATable : TablesWf ship ∧ CabinInv ship ∧ EntryInv ship ∧
    TableName.node.code = (0#8 : Byte).toNat ∧ rd16 3#8 255#8 < TableName.node.slots ∧
    TableName.node.slots ≤ rd16 4#8 0#8 ∧
    (ship.recordFrom .node 3).map (·.1) = some 1023 ∧ ship.recordFrom .node 1024 = none ∧
    ship.recordFrom ship.port.cursor.table ship.port.cursor.index = some (0, u16 0 ++ [3#8, 1#8, 2#8, 0#8, 6#8]) ∧
    (after ship (.cursorSet 1#8 [5#8, 1#8, 255#8])).port.cursor = ⟨.screen, 511⟩ ∧
    (let s := run ship [.cursorSet 1#8 [5#8, 1#8, 255#8], .readNext 1#8 []]
     s.recordFrom s.port.cursor.table s.port.cursor.index = none) ∧
    (ship.recordFrom .edge 2).map (·.1) = some 3071 ∧ (ship.recordFrom .target 3).map (·.1) = some 63 ∧
    (ship.recordFrom .cabin 2).map (·.1) = some 2 ∧ (ship.recordFrom .entry 0).map (·.1) = some 0 ∧
    (ship.recordFrom .screen 1).map (·.1) = some 511 :=
  ⟨test_ship_tables, cabinInv_of_checked test_ship_cabins, test_ship_programme, by decide +kernel⟩

/-- A part without a load and one with a load of one record. -/
theorem test_hyp_LoadsBeginApplyAndEnd : ship.port.load = none ∧ TableName.edge.code = (1#8 : Byte).toNat ∧
    rd16 16#8 0#8 = 4096 ∧ loading.port.load = some { table := .edge, remaining := 1, refused := 0 } := by
  decide +kernel

/-- A setting out of range, a reserved bit of the mask alone, settings at the ends of their ranges, settings
already held, and each setting that moves a timer or marks a slot. -/
theorem test_hyp_ConfigSetReplacesTheSettingsGiven : ship.port.load = none ∧
    Table.wf ship.screen.screens = true ∧
    parseConfig (u16 0x0106 ++ u16 100 ++ u16 2001 ++ [60#8]) =
      some { mask := 0x0106, values := [] ++ (1, 100) :: [(2, 2001), (8, 60)] } ∧
    parseConfig (u16 0x0106 ++ u16 100 ++ u16 2000 ++ [60#8]) =
      some { mask := 0x0106, values := [(1, 100), (2, 2000), (8, 60)] } ∧
    parseConfig (u16 0x0102 ++ u16 500 ++ [10#8]) = some { mask := 0x0102, values := [(1, 500), (8, 10)] } ∧
    parseConfig (u16 0x1000) = some { mask := 4096, values := [] } ∧
    ship.setting 1 = 500 ∧ ship.setting 8 = 10 ∧ rd16 7#8 208#8 = 2000 ∧ rd16 0#8 20#8 = 20 ∧ rd16 0#8 50#8 = 50 ∧
    rd16 3#8 232#8 = 1000 ∧ rd16 0#8 100#8 = 100 ∧ rd16 0#8 30#8 = 30 ∧ rd16 2#8 208#8 = 720 ∧
    rd16 3#8 255#8 = 1023 ∧ ship.plate.surveyPeriod = 250 ∧ ship.plate.holdLimit = 300 ∧
    (ship.link 3).periodSetting = 500 ∧ ship.programme.horizon = 180 ∧ ship.muster.drillLimit = 0 ∧
    ship.port.mask.toNat = 1023 ∧ (held.trunk 0).holdTimer.isSome = true ∧ drill.muster.state = .drill := by
  decide +kernel

/-- A notice set at each end of its range; and a part whose counts are right, and one in a drill. -/
theorem test_hyp_NoticesAreClearedAndWarmRestartEndsTheWork : (TablesWf ship ∧ RouteInv ship ∧ TrunkInv ship) ∧
    (GraphInv ship ∧ TargetInv ship) ∧ (TablesWf drill ∧ RouteInv drill ∧ TrunkInv drill) ∧
    rd16 0#8 0#8 = 0 ∧ rd16 0#8 1#8 = 1 ∧ rd16 3#8 255#8 = 1023 ∧ rd16 4#8 0#8 = 1024 ∧ drill.muster.state = .drill ∧
    (ship.link 0).enabled = true ∧ (∀ r ∈ ship.screen.screens, linkOfScreen r.1 = 0 → 0 ≤ r.1) ∧
    (ship.screenAt 0).isSome :=
  have ⟨w, g, t⟩ := test_ship_records_hold
  have ⟨d, _, _⟩ := test_muster_invariants
  ⟨⟨w, test_ship_routes, test_ship_trunks⟩, ⟨g, t⟩, ⟨d.1, d.2, test_drill_trunks⟩, by decide +kernel⟩

/-- A new STATION, a new VENUE, a letter already held, and an id whose kind cannot change. -/
theorem test_hyp_TargetPutChecksThenCreates : TablesWf ship ∧ RouteInv ship ∧ ship.loading = false ∧
    parseTarget ([62#8, 1#8] ++ u16 1023 ++ u16 1 ++ [15#8] ++ u16 9999) = some ⟨62, 1, 1023, 1, 15, 9999⟩ ∧
    (ship.node 1023).isSome ∧ ship.targetAt 62 = none ∧ (∀ r ∈ ship.stations, r.2.letter ≠ 15) ∧
    parseTarget ([62#8, 1#8] ++ u16 1023 ++ u16 1 ++ [0#8] ++ u16 0) = some ⟨62, 1, 1023, 1, 0, 0⟩ ∧
    (ship.stationAt 0).map (·.letter) = some 0 ∧ (∀ r ∈ ship.stations, r.2.letter = 0 → r.1 = 0) ∧
    parseTarget ([1#8, 1#8] ++ u16 1023 ++ u16 1 ++ [15#8] ++ u16 0) = some ⟨1, 1, 1023, 1, 15, 0⟩ ∧
    (ship.targetAt 1).any (fun x => x.station.isNone && decide (0 < x.refs)) = true ∧
    parseTarget ([62#8, 1#8] ++ u16 1022 ++ u16 1 ++ [15#8] ++ u16 0) = some ⟨62, 1, 1022, 1, 15, 0⟩ ∧
    ship.node 1022 = none ∧ parseTarget ([64#8, 1#8] ++ u16 0 ++ u16 1 ++ [15#8] ++ u16 0) = some ⟨64, 1, 0, 1, 15,
    0⟩ :=
  ⟨test_ship_tables, test_ship_routes, by decide +kernel⟩

/-- A CURRENT plate and a FAILED one, and what happens to them when the letter of their station changes. -/
theorem test_letters_owe_plates : (idle.cabinAt 0).map (·.plateState) = some .current ∧
    (idle.cabinAt 0).bind idle.effective = some 0 ∧ (failed.cabinAt 0).map (·.plateState) = some .failed ∧
    (let s := after idle (.targetPut 1#8 ([0#8, 1#8] ++ u16 2 ++ u16 77 ++ [15#8] ++ u16 3))
     (s.cabinAt 0).map (fun x => (x.plateState, x.contentGen)) = some (.pending, 1#16) ∧
       (s.trunk 0).writing 0 = true) ∧
    (let s := run failed [.surveyTimerExpiry 0, .stationBlock 1#8 [0#8]]
     (s.cabinAt 0).map (fun x => (x.plateState, x.retries)) = some (.pending, 0) ∧
       (s.trunk 0).ordinary = [0]) := by decide +kernel

/-- A STATION amended in its anchor, label, letter and capacity, so that it is over capacity; and a VENUE that
nothing claims made a STATION, in NORMAL and in a drill, where its maps wait as ORDINARY. -/
theorem test_hyp_TargetPutAmends : (TablesWf built ∧ RouteInv built ∧ TargetInv built) ∧
    (TablesWf drill ∧ RouteInv drill ∧ TargetInv drill) ∧ built.loading = false ∧
    parseTarget ([0#8, 1#8] ++ u16 1023 ++ u16 1 ++ [15#8] ++ u16 1) = some ⟨0, 1, 1023, 1, 15, 1⟩ ∧
    (built.node 1023).isSome ∧ (∀ r ∈ built.stations, r.2.letter ≠ 15) ∧
    (built.targetAt 0).any (fun x => x.station.any fun st => decide (st.occupied = 2)) = true ∧
    parseTarget ([63#8, 1#8] ++ u16 1023 ++ u16 1 ++ [15#8] ++ u16 0) = some ⟨63, 1, 1023, 1, 15, 0⟩ ∧
    (built.targetAt 63).any (fun x => x.station.isNone && decide (x.refs = 0)) = true ∧
    drill.loading = false ∧ (∀ r ∈ drill.stations, r.2.letter ≠ 15) ∧ (drill.node 1023).isSome ∧
    (drill.targetAt 63).any (fun x => x.station.isNone && decide (x.refs = 0)) = true ∧
    (⟨63, .general⟩ : MapName) ∈ drill.route.ordinary ∧ drill.muster.state = .drill ∧
    built.labelCauses 1 0 screenAtNode1 .route = true ∧ built.labelCauses 0 0 screenAtNode1 .muster = true :=
  have ⟨bw, _, bt, br⟩ := test_built_invariants
  have ⟨dw, _, dt⟩ := records_of_checked test_drill_records
  ⟨⟨bw, br, bt⟩, ⟨dw, routeInv_of_checked test_drill_maps, dt⟩, by decide +kernel⟩

theorem test_hyp_TargetsAreRetiredAndRead : TablesWf ship ∧ RouteInv ship ∧ ship.loading = false ∧
    ship.targetAt 62 = none ∧ (ship.targetAt 0).any (fun x => x.station.isSome && decide (0 < x.refs)) = true ∧
    (ship.targetAt 63).any (fun x => x.station.isNone && decide (x.refs = 0)) = true :=
  ⟨test_ship_tables, test_ship_routes, by decide +kernel⟩

/-- A station that blocks, one that serves already, and a venue; and cabins served by their primary station, by
their alternate and by none. -/
theorem test_hyp_StationBlockMovesTheAffectedCabins : TablesWf ship ∧ TargetInv ship ∧ ship.loading = false ∧
    (ship.stationAt 0).map (·.blocked) = some false ∧ ship.targetAt 62 = none ∧
    (ship.targetAt 63).any (fun x => x.station.isNone) = true ∧
    (let s := after ship (.stationBlock 1#8 [0#8])
     (s.stationAt 0).map (·.blocked) = some true ∧ (s.cabinAt 1).bind s.effective = some 2 ∧
     (s.cabinAt 0).bind s.effective = none) ∧ (ship.cabinAt 0).bind ship.effective = some 0 :=
  ⟨test_ship_tables, test_ship_targets, by decide +kernel⟩

/-- The body of a CABIN_PUT at the ends of its ranges. -/
def cabinPut : CabinBody :=
  { deck := 5, number := 3, doorNode := 1023, plate := (15, 250), berths := 6, occupancy := 1, privacy := 2,
    language := 15, message := 0xFFFF, primary := 0, alternate := 2, label := [0x20#16, 0xFFFD#16] }

/-- The body of a CABIN_AMEND that sets cabin 5/1 VACANT and moves its plate, its door and its station. -/
def cabinAmend : CabinAmendBody :=
  { deck := 5, number := 1, mask := 2047 - 16 - 64 - 512 - 1024, doorNode := some 1023, plate := some (15, 250),
    berths := some 6, occupancy := some 0, label := none, language := some 15, message := none, primary := some 2,
    alternate := some 0, privacy := none, service := none }

/-- The record of cabin 5/1. -/
def cabin1 : Cabin :=
  { number := ⟨5, 1⟩, doorNode := 0, plate := some ⟨0, 1⟩, berths := 2, occupancy := .occupied, label := [0x41#16],
    language := 0, message := none, primary := 0, alternate := none, privacy := .unasked, service := false,
    serviceMinute := none, swept := false, sweptBy := none, contentGen := 0#16, deliveredGen := 0#16,
    plateState := .pending, retries := 0 }

/-- The record that the amendment makes of it. -/
def cabin1Amended : Cabin :=
  { cabin1 with doorNode := 1023, plate := some ⟨15, 250⟩, berths := 6, occupancy := .vacant, label := [],
                language := 15, primary := 2, alternate := some 0 }

theorem test_cabin_bodies_in_range : cabinPut.InRange ∧ ¬{ cabinPut with number := 1000 }.InRange ∧
    ({ cabinPut with number := 1 } : CabinBody).InRange ∧ cabinAmend.InRange ∧
    ¬{ cabinAmend with mask := 2048 }.InRange := by
  simp [CabinBody.InRange, CabinAmendBody.InRange, cabinPut, cabinAmend, plateInRange, labelFits]

theorem test_hyp_CabinChecksInOrder : cabinPut.InRange ∧ cabinAmend.InRange ∧ ship.loading = false ∧
    parseCabin ([5#8] ++ u16 3 ++ u16 1023 ++ [15#8, 250#8, 6#8, 1#8, 2#8, 15#8, 255#8, 255#8, 0#8, 2#8, 2#8, 0#8,
      0x20#8, 255#8, 253#8]) = some cabinPut ∧
    (ship.cabinByNumber ⟨5, 1⟩).isSome ∧
    ship.cabinByNumber ⟨5, 998⟩ = none ∧ ship.cabinByNumber ⟨5, 1⟩ = some (0, cabin1) :=
  ⟨test_cabin_bodies_in_range.1, test_cabin_bodies_in_range.2.2.2.1, by decide +kernel⟩

theorem test_hyp_CabinPutCreates : TablesWf ship ∧ TargetInv ship ∧ cabinPut.InRange ∧ ship.loading = false ∧
    cabinPut.occupancy ≠ 0 ∧ cabinPut.alternate ≠ cabinPut.primary ∧ (ship.node cabinPut.doorNode).isSome ∧
    (ship.stationAt cabinPut.primary).isSome ∧ (ship.stationAt cabinPut.alternate).isSome ∧
    ship.cabinByNumber ⟨cabinPut.deck, cabinPut.number⟩ = none ∧ plateOfRaw cabinPut.plate = some (some ⟨15, 250⟩) ∧
    ship.cabinByPlate ⟨15, 250⟩ = none ∧ ship.cabinAt 3 = none ∧ ∀ k, k < 3 → (ship.cabinAt k).isSome :=
  ⟨test_ship_tables, test_ship_targets, test_cabin_bodies_in_range.1, by decide +kernel⟩

theorem test_hyp_CabinAmendReplacesTheFieldsGiven : TablesWf ship ∧ TargetInv ship ∧ PlateInv ship ∧
    cabinAmend.InRange ∧ cabinAmend.Gives cabin1 cabin1Amended ∧ ship.loading = false ∧
    parseCabinAmend ([5#8] ++ u16 1 ++ u16 (2047 - 16 - 64 - 512 - 1024) ++ u16 1023 ++ [15#8, 250#8, 6#8, 0#8,
    15#8, 2#8, 0#8]) = some cabinAmend ∧
    ship.cabinByNumber ⟨5, 1⟩ = some (0, cabin1) ∧ cabin1Amended.alternate ≠ some cabin1Amended.primary ∧
    (ship.node cabin1Amended.doorNode).isSome ∧ (ship.stationAt cabin1Amended.primary).isSome ∧
    (ship.stationAt 0).isSome ∧ ship.cabinByPlate ⟨15, 250⟩ = none :=
  ⟨test_ship_tables, test_ship_targets, (plateInv_of_checked test_ship_plates), test_cabin_bodies_in_range.2.2.2.1,
    by unfold CabinAmendBody.Gives; decide +kernel, by decide +kernel⟩

/-- A report waits at the head of the Inbound Report Queue. -/
def reporting (s : State) (parts : List ReportPart) : State :=
  { s with plate := { s.plate with inbound := parts.map fun p => ⟨0, 1, p⟩ } }

def called : State := after (reporting ship [.serviceCall]) .serviceCall

theorem test_failed_records : RecordsChecked failed := by decide +kernel

/-- Cabin 5/1 OCCUPIED and the vacant 5/2; a FAILED plate; and a service call waiting. -/
theorem test_hyp_CabinRetirePlateRetryAndServiceTake : TablesWf ship ∧ TargetInv ship ∧ TablesWf failed ∧
    TargetInv failed ∧ ship.loading = false ∧ ship.cabinByNumber ⟨5, 998⟩ = none ∧
    ship.cabinByNumber ⟨5, 1⟩ = some (0, cabin1) ∧ (ship.cabinByNumber ⟨5, 2⟩).map (·.2.occupancy) = some .vacant ∧
    ship.cabin.service = [] ∧ failed.loading = false ∧
    (failed.cabinByNumber ⟨5, 1⟩).map (·.2.plateState) = some .failed ∧
    (failed.cabinByNumber ⟨5, 1⟩).map (·.2.plate) = some (some ⟨0, 1⟩) ∧ called.loading = false ∧
    called.cabin.service = [0] ∧ (called.cabinAt 0).isSome :=
  have ⟨w, _, t⟩ := records_of_checked test_failed_records
  ⟨test_ship_tables, test_ship_targets, w, t, by decide +kernel⟩

/-- The work is a write for a cabin, or a detached one. -/
def writes (c : Option Nat) : Option Work → Bool
  | some (.write d _ _ _) => decide (d = c)
  | _ => false

/-- A cabin in each kind of place: queued, waiting in the urgent queue, being written, neither, and without a plate;
and a trunk with each kind of work, a detached write among them. -/
def detached : State :=
  run writing [.cabinAmend 1#8 ([5#8] ++ u16 1 ++ u16 2 ++ [255#8, 0#8])]

theorem test_hyp_CabinAndTrunkReads : (TablesWf ship ∧ CabinInv ship) ∧
    (2#8 : Byte).toNat = 2 ∧ ship.surveySteps = 0 ∧ surveying.surveySteps = 1 ∧
    ship.cabinByNumber ⟨5, 1⟩ = some (0, cabin1) ∧
    position 0 (ship.trunk 0).ordinary = 1 ∧ (ship.trunk 0).writing 0 = false ∧
    position 0 (ship.trunk 0).urgent = 0 ∧ (writing.trunk 0).writing 0 = true ∧
    (ship.cabinByPlate ⟨1, 250⟩).map (·.1) = some 2 ∧ ship.cabinByPlate ⟨15, 250⟩ = none ∧
    position 3 ((after alarm (.cabinPut 1#8 (cabinBody 3 [2#8, 1#8] 1 0 255 [65]))).trunk 2).urgent = 1 ∧
    ((idle.trunk 0).urgent, (idle.trunk 0).ordinary, (idle.trunk 0).writing 0) = ([], [], false) ∧
    (idle.cabinAt 0).map (·.plate) = some (some ⟨0, 1⟩) ∧ (ship.cabinAt 1).map (·.plate) = some none ∧
    (ship.trunk 0).work = none ∧
    writes (some 0) (writing.trunk 0).work = true ∧
    writes none (detached.trunk 0).work = true ∧
    (talking.trunk 0).work = some (.broadcast .normal) ∧ (surveying.trunk 0).work = some (.survey 1 false) :=
  ⟨⟨test_ship_tables, cabinInv_of_checked test_ship_cabins⟩, by decide +kernel⟩

/-- Each report, for a cabin that holds the plate address and for none, and a sweep in a muster. -/
theorem test_hyp_ReportsReachTheirCabins : Table.wf ship.cabin.cabins = true ∧
    (reporting ship [.privacy .makeUpRoom]).plate.inbound = [⟨0, 1, .privacy .makeUpRoom⟩] ∧
    (ship.cabinByPlate ⟨0, 1⟩).map (·.1) = some 0 ∧ ship.cabinByPlate ⟨0, 2⟩ = none ∧
    (failed.cabinByPlate ⟨0, 1⟩).map (·.2.plateState) = some .failed ∧
    (reporting drill [.sweepClear, .crewTag 7#16]).plate.inbound = [⟨0, 1, .sweepClear⟩, ⟨0, 1, .crewTag 7#16⟩] ∧
    (drill.cabinByPlate ⟨0, 1⟩).map (·.1) = some 0 ∧ drill.muster.state = .drill := by decide +kernel

/-- What trunk 0 has before it picks: a mode to broadcast, an urgent write, a survey step, an ordinary write. -/
def picking (s : State) (urgent ordinary : List Nat) (due : Bool) : State :=
  s.setTrunk 0 { s.trunk 0 with urgent, ordinary, surveyDue := due }

theorem test_trunk_states : (ship.trunk 0).state = .settling ∧ (idle.trunk 0).state = .idle ∧
    (talking.trunk 0).state = .talking ∧ (writing.trunk 0).state = .talking ∧ (surveying.trunk 0).state = .talking ∧
    (held.trunk 0).state = .held ∧ (heldWrite.trunk 0).state = .held ∧ (heldBroadcast.trunk 0).state = .held ∧
    (recovering.trunk 0).state = .recovering ∧ (faulty.trunk 0).state = .fault ∧
    (listening.trunk 0).state = .listening := by decide +kernel

theorem test_trunk_states_ok : (TrunkOk (ship.trunk 0) ∧ TrunkOk (idle.trunk 0) ∧ TrunkOk (talking.trunk 0) ∧
    TrunkOk (writing.trunk 0)) ∧ (TrunkOk (surveying.trunk 0) ∧ TrunkOk (held.trunk 0) ∧
    TrunkOk (heldWrite.trunk 0)) ∧ (TrunkOk (heldBroadcast.trunk 0) ∧ TrunkOk (recovering.trunk 0)) ∧
    TrunkOk (faulty.trunk 0) ∧ TrunkOk (listening.trunk 0) ∧ TrunkOk (detached.trunk 0) := by
  unfold TrunkOk
  refine ⟨⟨?_, ?_, ?_, ?_⟩, ⟨?_, ?_, ?_⟩, ⟨?_, ?_⟩, ?_, ?_, ?_⟩ <;> decide +kernel

/-- The bytes of a WRITE_FACE of an OCCUPIED cabin of letter 0 and label A, of a READ_NEWS and of a GROUP_MODE (10
section 10.4). -/
theorem test_bytes_on_the_trunks :
    writing.trunkSends 0 = some [1#8, 0x31#8, 0#8, 0#8, 0#8, 1#8, 0#8, 0#8, 0#8, 0#8, 1#8, 0#8, 0x41#8] ∧
    surveying.trunkSends 0 = some [1#8, 0x32#8] ∧ (after drill (.idleGuardExpiry 0)).trunkSends 0 =
      some [0#8, 0x33#8, 1#8] ∧ ship.trunkSends 0 = none := by decide +kernel

/-- An IDLE trunk with its mode believed: an urgent write, a survey step, an ordinary write, and nothing; and one
whose believed mode is not the one required. -/
theorem test_hyp_PickTakesTheFirstWorkThatApplies :
    (∀ s ∈ [picking idle [0] [] true, picking idle [] [0] true, picking idle [] [0] false, picking idle [] [] false],
      (s.trunk 0).state = .idle ∧ (s.trunk 0).clockHigh = true ∧ (s.trunk 0).dataHigh = true ∧
      (s.trunk 0).believed = some .normal ∧ s.muster.state = .normal ∧ s.held + s.reserved + 2 ≤ 64 ∧
      s.surveyPlate 0 = some 1 ∧ (s.cabinAt 0).isSome) ∧
    Table.wf (picking idle [0] [] true).cabin.cabins = true ∧
    TrunkOk ((picking idle [0] [] true).trunk 0) ∧ QueuedLive (picking idle [0] [] true) 0 ∧
    TrunkOk ((picking idle [] [0] true).trunk 0) ∧ QueuedLive (picking idle [] [0] true) 0 ∧
    TrunkOk ((picking idle [] [0] false).trunk 0) ∧ QueuedLive (picking idle [] [0] false) 0 := by
  refine ⟨by decide +kernel, by decide +kernel, by unfold TrunkOk; decide +kernel,
    queuedLive_of_check (by decide +kernel), by unfold TrunkOk; decide +kernel, queuedLive_of_check (by decide +kernel),
    by unfold TrunkOk; decide +kernel, queuedLive_of_check (by decide +kernel)⟩

/-- Trunk 0 with each of its timers, and in each of its states. -/
theorem test_hyp_TrunkTimersAndWires : (TrunkOk (ship.trunk 0) ∧ TrunkOk (idle.trunk 0) ∧
    TrunkOk (listening.trunk 0)) ∧ (TrunkOk (talking.trunk 0) ∧ TrunkOk (held.trunk 0)) ∧
    (TrunkOk (recovering.trunk 0) ∧ TrunkOk (faulty.trunk 0) ∧ TrunkOk (ship.trunk 15)) ∧
    (ship.trunk 0).surveyTimer.isSome ∧ (ship.trunk 0).guardTimer.isSome ∧ (listening.trunk 0).stuckTimer.isSome ∧
    (recovering.trunk 0).stuckTimer.isSome ∧ (ship.trunk 15).state = .disabled :=
  have ⟨⟨s, i, t, _⟩, ⟨_, h, _⟩, ⟨_, r⟩, f, l, _⟩ := test_trunk_states_ok
  ⟨⟨s, i, l⟩, ⟨t, h⟩, ⟨r, f, test_ship_trunks.1 15⟩, by decide +kernel⟩

/-- A hold given up, with the data wire high and low; and the release that follows. -/
def recoveringLow : State := after recovering (.trunkWireChange 0 false false)

theorem test_release_in_recovering : (recovering.trunk 0).dataHigh = true ∧ (recoveringLow.trunk 0).dataHigh = false ∧
    (recoveringLow.trunk 0).state = .recovering ∧ TrunkOk (recoveringLow.trunk 0) ∧
    ((after recovering (.holdRelease 0)).trunk 0).state = .settling ∧
    ((after recoveringLow (.holdRelease 0)).trunk 0).state = .recovering ∧
    ((run recoveringLow [.holdRelease 0, .trunkWireChange 0 true true]).trunk 0).state = .settling := by
  unfold TrunkOk; decide +kernel

theorem test_hyp_HoldsAndLostArbitration : (held.trunk 0).work = some (.survey 1 true) ∧
    (heldBroadcast.trunk 0).work = some (.broadcast .normal) ∧
    writes (some 0) (heldWrite.trunk 0).work = true ∧
    writes none ((after detached (.hold 0 false)).trunk 0).work = true := by decide +kernel

/-- A write that is the newest face and one that is not; a first refusal and a third; and a detached write. -/
theorem test_hyp_WritesCompleteOrFail : Table.wf writing.cabin.cabins = true ∧
    (writing.cabinAt 0).map (fun x => (x.contentGen, x.retries, x.plate)) = some (0#16, 0, some ⟨0, 1⟩) ∧
    ((run writing [.writeRefused 0, .writeRefused 0]).cabinAt 0).map (·.retries) = some 2 ∧
    ((after writing (.cabinAmend 1#8 ([5#8] ++ u16 1 ++ u16 32 ++ [3#8]))).cabinAt 0).map (·.contentGen) =
      some 1#16 ∧
    (detached.trunk 0).state = .talking := by decide +kernel

/-- A step that surveys the plate of a cabin that is not FAILED, and one that surveys a FAILED one. -/
def failedSurvey : State := after failed (.surveyTimerExpiry 0)

/-- What is left in the queue and at the cursor when a survey step ends with news. -/
def newsOf (item : Byte) (tag : List Byte) : List ReportPart × Nat × Nat :=
  let t := (after surveying (.surveyStepEnd 0 (.news item tag)))
  (t.plate.inbound.map (·.part), (t.trunk 0).cursor, (t.trunk 0).newsAccepts)

/-- News with MORE and without it, SWEEP_CLEAR with its tag whole and cut short, and news of no kind. -/
theorem test_news : newsOf 0x32#8 [] = ([.privacy .makeUpRoom], 1, 1) ∧
    newsOf 0x22#8 [] = ([.privacy .makeUpRoom], 2, 1) ∧
    newsOf 0x33#8 [] = ([], 1, 1) ∧ newsOf 0x10#8 [] = ([], 2, 1) ∧ newsOf 0x3A#8 [] = ([], 1, 1) ∧
    newsOf 0x70#8 [1#8, 2#8] = ([.sweepClear, .crewTag 0x0102#16], 1, 3) ∧
    newsOf 0x70#8 [1#8] = ([], 2, 2) ∧ newsOf 0x70#8 [] = ([], 2, 1) ∧ newsOf 0xF0#8 [] = ([], 1, 1) := by
  decide +kernel

theorem test_hyp_BroadcastsCompleteAndSurveysEnd : (TrunkOk (talking.trunk 0) ∧ TrunkOk (surveying.trunk 0)) ∧
    (talking.trunk 0).work = some (.broadcast .normal) ∧ (surveying.trunk 0).work = some (.survey 1 false) ∧
    Table.wf failed.cabin.cabins = true ∧ Table.wf surveying.cabin.cabins = true ∧
    (failed.cabinByPlate ⟨0, 1⟩).map (·.2.plateState) = some .failed ∧
    (surveying.cabinByPlate ⟨0, 1⟩).map (·.2.plateState) = some .current :=
  ⟨⟨test_trunk_states_ok.1.2.2.1, test_trunk_states_ok.2.1.1⟩, by decide +kernel⟩

theorem test_failedSurvey_records : RecordsChecked failedSurvey := by decide +kernel

theorem test_failedSurvey_trunks : TrunkInv failedSurvey := by unfold TrunkInv TrunkOk; decide +kernel

/-- A trunk with a write in flight, and one that surveys the plate of a FAILED cabin: held, the address ACCEPTed,
and talking. -/
theorem test_hyp_TrunksAreEnabledAndDisabled : (TablesWf ship ∧ TrunkInv ship) ∧
    (TablesWf failedSurvey ∧ TrunkInv failedSurvey) ∧ ship.loading = false ∧ (ship.trunk 0).enabled = true ∧
    (ship.trunk 15).enabled = false ∧ (rd16 128#8 1#8).testBit 15 = true ∧
    writes (some 0) (writing.trunk 0).work = true ∧ failedSurvey.loading = false ∧
    (rd16 0#8 2#8).testBit 0 = false ∧ (failedSurvey.trunk 0).work = some (.survey 1 false) ∧
    (failedSurvey.trunk 0).state = .talking ∧
    (failedSurvey.cabinByPlate ⟨0, 1⟩).map (·.2.plateState) = some .failed ∧
    ((after failedSurvey (.hold 0 true)).trunk 0).work = some (.survey 1 true) ∧
    (((run failedSurvey [.hold 0 true, .configSet 1#8 (u16 0x20 ++ u16 2)]).cabinAt 0).map (·.plateState)) =
      some .pending :=
  ⟨⟨test_ship_tables, test_ship_trunks⟩,
    ⟨(records_of_checked test_failedSurvey_records).1, test_failedSurvey_trunks⟩, by decide +kernel⟩

/-- A stand-down that waits for its trunks: a disable of them is judged. -/
def trunksWait : State := run idle [.configSet 1#8 (u16 1 ++ [0#8]), .musterStart 1#8 [1#8], .broadcastCompletion 0,
  .musterEnd 1#8 []]

theorem test_disabled_trunks_are_judged : trunksWait.muster.state = .standDown ∧
    trunksWait.muster.completion = false ∧ (trunksWait.trunk 0).enabled = true ∧
    (after trunksWait (.configSet 1#8 (u16 0x20 ++ u16 0))).muster.completion = true ∧
    (after trunksWait (.configSet 1#8 (u16 0x20 ++ u16 1))).muster.completion = false := by decide +kernel

/-- The clock at the last second of a minute, and of its last minute. -/
def lateSecond (minute : Nat) : State := after ship (.clockSet 1#8 (u24 minute ++ [59#8]))

theorem test_hyp_TheShipClockJudgesTheProgramme : TablesWf ship ∧ EntryInv ship ∧ ship.loading = false ∧
    ship.programme.clock = some ⟨100, 0⟩ ∧ ship.programme.secondTimer = some 0 ∧
    (lateSecond 149).programme.clock = some ⟨149, 59⟩ ∧ (lateSecond 1048575).programme.clock = some ⟨1048575, 59⟩ ∧
    (lateSecond 149).programme.secondTimer = some 0 :=
  ⟨test_ship_tables, test_ship_programme, by decide +kernel⟩

/-- An entry that may be made, one whose times do not fit, one too late, one at a STATION and one already held. -/
theorem test_hyp_EventPutChecksAndCreates : TablesWf ship ∧ EntryInv ship ∧ ship.loading = false ∧
    parseEntry (u16 65535 ++ u24 100 ++ u24 1540 ++ [63#8] ++ u16 1 ++ [15#8, 2#8]) = some ⟨65535, 100, 1540, 63, 1,
    15, 2⟩ ∧
    Fill.full.code = 2 ∧ (ship.targetAt 63).any (fun x => x.station.isNone) = true ∧ ship.entryById 65535 = none ∧
    ship.entryAt 3 = none ∧ (∀ k, k < 3 → (ship.entryAt k).isSome) ∧ 100 + 1440 = 1540 ∧
    ship.programme.clock = some ⟨100, 0⟩ ∧ ship.programme.linger = 10 ∧
    (ship.targetAt 2).any (fun x => x.station.isSome) = true ∧ (ship.entryById 1).isSome :=
  ⟨test_ship_tables, test_ship_programme, by decide +kernel⟩

/-- A RUNNING entry moved to a venue and a later end; and one whose end falls away. -/
theorem test_hyp_EventAmendReplacesTheFieldsGiven : TablesWf ship ∧ EntryInv ship ∧ ship.loading = false ∧
    parseEntryAmend (u16 1 ++ u16 6 ++ u24 1490 ++ [63#8]) = some ⟨1, 6, none, some 1490, some 63, none, none, none,
    none⟩ ∧
    ship.entryById 1 = some (0, ⟨1, 50, 200, 1, 7, 0, .vacancies, false, .running⟩) ∧ 50 + 1440 = 1490 ∧
    (ship.targetAt 63).any (fun x => x.station.isNone) = true ∧
    parseEntryAmend (u16 1 ++ u16 2 ++ u24 90) = some ⟨1, 2, none, some 90, none, none, none, none, none⟩ ∧
    90 + ship.programme.linger ≤ 100 ∧ ship.entryById 65535 = none :=
  ⟨test_ship_tables, test_ship_programme, by decide +kernel⟩

theorem test_hyp_EventCancelRetireAndGet : TablesWf ship ∧ EntryInv ship ∧ ship.loading = false ∧
    ship.entryById 65535 = none ∧ rd16 0#8 0#8 = 0 ∧
    (ship.entryById 1).map (fun r => (r.1, r.2.state)) = some (0, .running) ∧
    (ship.entryById 2).map (fun r => (r.1, r.2.state)) = some (1, .scheduled) ∧
    (ship.entryById 3).map (fun r => (r.1, r.2.state)) = some (2, .ended) ∧
    ((after ship (.eventCancel 1#8 (u16 2))).entryById 2).map (·.2.state) = some .cancelled :=
  ⟨test_ship_tables, test_ship_programme, by decide +kernel⟩

/-- A screen at the ends of its ranges, one that shows a target twice, and one already held. -/
theorem test_hyp_ScreenPutChecksAndCreates : TablesWf ship ∧ ship.loading = false ∧
    (parseScreen ([3#8, 1#8] ++ u16 1023 ++ [6#8, 3#8, 3#8, 2#8] ++ u16 1 ++ [63#8, 4#8, 0#8, 1#8, 2#8, 15#8, 2#8,
    63#8, 0#8])) = some ⟨3, 1, 1023, 6, 3, 3, 2, 1, 63, [0, 1, 2, 15], [63, 0]⟩ ∧
    [63, 0].Nodup ∧ [0, 1, 2, 15].Nodup ∧ (ship.node 1023).isSome ∧ (∀ k ∈ [63, 0], (ship.targetAt k).isSome) ∧
    (ship.stationAt 2).isSome ∧ ship.screenAt 384 = none ∧ (ship.screenAt 511).isSome ∧ Facing.port.code = 6 ∧
    Scope.zone.code = 3 :=
  ⟨test_ship_tables, by decide +kernel⟩

/-- The record of screen 128 of link 3, an amendment of its node, its override and two policies, and the record that
this makes. -/
def screen511 : Screen :=
  { node := 2, facing := .port, stepFree := true, shown := [], scope := .deck, override := some 0,
    languages := [0, 15], notice := 4, mode := .normal, attach := .absent, descValid := false, descriptor := none,
    misses := 0, lastAddressed := none, routeSlot := ⟨.once, 0#16, some 0#16, none⟩,
    programmeSlot := ⟨.once, 0#16, some 0#16, none⟩, noticeSlot := ⟨.refreshed, 0#16, some 0#16, none⟩,
    musterSlot := ⟨.refreshed, 0#16, some 0#16, none⟩ }

def screenAmend : ScreenAmendBody :=
  ⟨3, 128, 0x51, some 1023, none, none, none, some 0xFF, none, some 0x0C, none, none⟩

def screen511Amended : Screen :=
  { screen511 with node := 1023, override := none, routeSlot := ⟨.off, 0#16, some 0#16, none⟩,
                   noticeSlot := ⟨.off, 0#16, some 0#16, none⟩ }

/-- Two slots that join one queue do so in their order, and a slot that waits keeps its place. -/
theorem test_marked_slots_join_in_order :
    (let s := shown.modLink 0 fun k => { k with dirtyQueue := [] }
     ((s.mark everySlot).link 0).dirtyQueue = [⟨0, .route⟩, ⟨0, .programme⟩]) ∧
    (let s := shown.modLink 0 fun k => { k with dirtyQueue := [⟨0, .programme⟩] }
     ((s.mark everySlot).link 0).dirtyQueue = [⟨0, .programme⟩, ⟨0, .route⟩]) := by decide +kernel

theorem test_hyp_ScreenAmendAndNoticeSet : TablesWf ship ∧ TargetInv ship ∧
    screenAmend.Gives screen511 screen511Amended ∧ ship.loading = false ∧
    parseScreenAmend ([3#8, 128#8] ++ u16 0x51 ++ u16 1023 ++ [0xFF#8, 0x0C#8]) = some screenAmend ∧
    ship.screenAt 511 = some screen511 ∧ (ship.node 1023).isSome ∧ ship.screenAt 510 = none ∧
    Table.wf ship.screen.screens = true ∧ (2#8 : Byte).toNat = Policy.refreshed.code ∧
    (ship.node 1).any (fun y => decide (y.deck = 3)) = true :=
  ⟨test_ship_tables, test_ship_targets, by unfold ScreenAmendBody.Gives; decide +kernel, by decide +kernel⟩

/-- A screen whose slot is in flight, whose others are queued, and one with none; and a slot in a muster queue. -/
theorem test_hyp_ScreenRetireAndGet : TablesWf shown ∧ TargetInv shown ∧ shown.loading = false ∧
    (shown.screenAt 0).isSome ∧ shown.screenAt 127 = none ∧ (shown.screenAt 511).isSome ∧
    (shown.link 0).sending ⟨0, .muster⟩ = true ∧ (shown.link 0).dirtyQueue = [⟨0, .route⟩, ⟨0, .programme⟩] ∧
    (shown.link 3).queued ⟨511, .route⟩ = false :=
  ⟨test_shown_invariants.1, test_shown_invariants.2, by decide +kernel⟩

/-- A drill whose maps have been built: the lift is out of use. -/
def drillBuilt : State := run drill (List.replicate 8 .buildCompletion)

/-- A screen in a drill with and without an override, near a station and with no map CURRENT; a DARK one; one
without policies; and a clock that is UNSET. -/
theorem test_drillBuilt_records : RecordsChecked drillBuilt := by decide +kernel
theorem test_built_entries : EntriesChecked built := by decide +kernel

theorem test_hyp_PanelsFollowTheEffectiveMode : (TablesWf drillBuilt ∧ TablesWf built ∧ TablesWf drill) ∧
    EntryInv built ∧
    drillBuilt.muster.state = .drill ∧ screen511.override = some 0 ∧
    (drillBuilt.stationAt 0).map (·.blocked) = some false ∧ (drillBuilt.stationAt 2).map (·.blocked) = some false ∧
    (drillBuilt.screenAt 0).map (fun x => (x.override, x.node, x.stepFree)) = some (none, 1, false) ∧
    (drillBuilt.mapAt ⟨2, .general⟩).map (·.state) = some .current ∧
    (drillBuilt.lookup ⟨2, .general⟩ 1).dist = 0 ∧ (drillBuilt.lookup ⟨0, .general⟩ 1).dist = 512 ∧
    drill.muster.state = .drill ∧ (∀ r ∈ drill.route.maps, r.2.state ≠ .current) ∧ built.muster.state = .normal ∧
    built.programme.clock.isSome ∧ screen511.scope ≠ .nothing ∧ screen511.noticeSlot.policy ≠ .off ∧
    screen511Amended.routeSlot.policy = .off ∧ screen511.mode = .normal ∧
    ((after built (.screenAmend 1#8 ([3#8, 128#8] ++ u16 4 ++ [2#8]))).screenAt 511).map (·.mode) = some .dark ∧
    State.reset.programme.clock = none :=
  ⟨⟨(records_of_checked test_drillBuilt_records).1, test_built_invariants.1, test_muster_invariants.1.1⟩,
    entryInv_of_checked test_built_entries, by decide +kernel⟩

/-- Link 0 with a period under way and no exchange in flight, after an edit of its record. -/
def ready (s : State) (f : Link → Link) : State :=
  s.setLink 0 (f { s.link 0 with exchange := none, underWay := true })

/-- The same with every slot of screen 0 sent in period 0, which the screen was addressed in. -/
def allSent (f : Link → Link) : State :=
  let sent (y : Slot) : Slot := { y with lastSent := some ⟨0#16, y.gen⟩ }
  (ready shown f).modScreen 0 fun x => { x with
    routeSlot := sent x.routeSlot, programmeSlot := sent x.programmeSlot, noticeSlot := sent x.noticeSlot,
    musterSlot := sent x.musterSlot }

/-- The bytes of a DISCOVER, of a BLANK for a MUSTER slot, and of a panel of one ROUTE line (10 section 10.5). -/
theorem test_bytes_on_the_links :
    built.linkSends 0 = some [1#8, 1#8, 0#8, 0#8, 0xC5#8, 0x44#8] ∧
    shown.linkSends 0 = some [1#8, 4#8, 0#8, 5#8, 3#8, 0#8, 4#8, 1#8, 0#8, 0xBE#8, 0x1E#8] ∧
    (Packet.slot .route 1#16 [0] (.route [⟨77, some 2, .route, some .left, 300⟩])).frame 128 =
      withCrc ([128#8, 3#8, 0#8, 13#8] ++ [0#8, 0#8, 1#8, 1#8, 0#8] ++ [1#8, 0#8, 77#8, 2#8] ++
        u8 AnswerKind.route.code ++ u8 Arrow.left.code ++ [1#8, 44#8]) := by decide +kernel

/-- A link at the end of its budget; and one that has each of the five offers to make, or none. -/
theorem test_hyp_ALinkSendsItsFirstOffer :
    (∀ s ∈ [ready ship (fun k => { k with budget := 0 }), ready ship (fun k => { k with discovered := false }),
        ready shown (fun k => { k with period := 1#16, musterQueue := [⟨0, .muster⟩] }), ready shown (fun k => k),
        ready shown (fun k => { k with period := 5#16, dirtyQueue := [] }),
        allSent (fun k => { k with period := 1#16, dirtyQueue := [] }),
        allSent (fun k => { k with dirtyQueue := [] })],
      (s.link 0).enabled = true ∧ (s.link 0).underWay = true ∧ (s.link 0).exchange = none) ∧
    (ship.screenAt 0).map (·.attach) = some .absent ∧ linkOfScreen 0 = 0 ∧
    (shown.screenAt 0).map (fun x => (x.attach, x.descValid, x.musterSlot.lastSent, x.routeSlot.lastSent)) =
      some (.present, true, some ⟨0#16, 4#16⟩, none) ∧
    (shown.link 0).dirtyQueue = [⟨0, .route⟩, ⟨0, .programme⟩] ∧ shown.muster.state = .normal ∧
    (ready shown (fun k => { k with period := 5#16, dirtyQueue := [] })).refreshOffer 0 = some ⟨0, .route⟩ ∧
    (allSent (fun k => { k with period := 1#16, dirtyQueue := [] })).refreshOffer 0 = none ∧
    (shown.screenAt 0).bind (·.lastAddressed) = some 0#16 ∧ (shown.link 0).period = 0#16 := by decide +kernel

/-- Link 0 runs, link 1 has no screens, and link 3 has one. -/
theorem test_hyp_LinkPeriodsBeginAndEnd : TablesWf ship ∧ (ship.link 0).timer = some 0 ∧ ship.loading = false ∧
    (ship.link 0).enabled = true ∧ (ship.link 3).enabled = false ∧ (ship.link 3).exchange = none ∧
    (ship.link 3).musterQueue = [] ∧ (ship.link 3).dirtyQueue = [] ∧
    (∀ r ∈ ship.screen.screens, linkOfScreen r.1 = 3 → r.1 = 511 ∧ r.2.attach = .absent) ∧
    (∀ r ∈ ship.screen.screens, linkOfScreen r.1 ≠ 1) ∧ (15#8 : Byte).toNat.testBit 3 = true ∧
    (0#8 : Byte).toNat.testBit 0 = false :=
  ⟨test_ship_tables, by decide +kernel⟩

/-- A stand-down in which no trunk is enabled and a screen has still to accept its BLANK. -/
def standingDown : State := run shown [.configSet 1#8 (u16 0x20 ++ u16 0), .musterStart 1#8 [1#8], .musterEnd 1#8 []]

theorem test_disabled_links_are_judged : standingDown.muster.state = .standDown ∧
    standingDown.muster.completion = false ∧ (standingDown.link 0).enabled = true ∧
    (after standingDown (.configSet 1#8 (u16 1 ++ [0#8]))).muster.completion = true ∧
    (after standingDown (.configSet 1#8 (u16 1 ++ [8#8]))).muster.completion = true ∧
    (after standingDown (.configSet 1#8 (u16 1 ++ [9#8]))).muster.completion = false := by decide +kernel

/-- An ACCEPT, a REJECT and a DESCRIPTOR as their bytes; one with a wrong length, one with a wrong check, one cut
short, one of no kind, and one of a kind that the part sends (10 section 10.5). -/
theorem test_bytes_of_screen_answers :
    decodeScreenAnswer 0 [1#8, 0x81#8, 0#8, 4#8, 1#8, 3#8, 0#8, 4#8, 0x83#8, 0x13#8] =
      .accept 0 1#8 1#8 3#8 4#16 ∧
    decodeScreenAnswer 3 (withCrc [128#8, 0x82#8, 0#8, 4#8, 0#8, 255#8, 0#8, 0#8]) = .reject 3 128#8 0#8 255#8 0#16 ∧
    decodeScreenAnswer 0 [1#8, 0x83#8, 0#8, 5#8, 0#8, 4#8, 0xFF#8, 0xFF#8, 1#8, 0x93#8, 0xE8#8] =
      .descriptor 0 1#8 0#8 4#8 0xFFFF#16 1#8 ∧
    decodeScreenAnswer 0 (withCrc [1#8, 0x81#8, 0#8, 3#8, 1#8, 3#8, 0#8]) = .corruptAnswer 0 ∧
    decodeScreenAnswer 0 [1#8, 0x81#8, 0#8, 4#8, 1#8, 3#8, 0#8, 4#8, 0x83#8, 0x14#8] = .corruptAnswer 0 ∧
    decodeScreenAnswer 0 [1#8, 0x81#8, 0#8] = .corruptAnswer 0 ∧
    decodeScreenAnswer 0 (withCrc [1#8, 0x84#8, 0#8, 0#8]) = .reject 0 1#8 0#8 0xFF#8 0#16 ∧
    decodeScreenAnswer 0 (withCrc [1#8, 1#8, 0#8, 1#8, 7#8]) = .reject 0 1#8 0#8 0xFF#8 0#16 := by decide +kernel

/-- The ACCEPT of that BLANK's predecessor. -/
def lastAccept : State := after standingDown (.accept 0 1#8 0#8 3#8 4#16)

/-- An exchange with a slot packet, and one with a DISCOVER; and an accepted MUSTER slot that completes a
stand-down. -/
theorem test_hyp_AnswersEndTheExchange : Table.wf shown.screen.screens = true ∧
    (shown.link 0).exchange.any (fun e => !e.detached && decide (e.screen = 0) &&
      decide (e.packet = .slot .muster 4#16 [0] .blank)) = true ∧
    (shown.screenAt 0).isSome ∧ linkOfScreen 0 = 0 ∧ (1#8 : Byte).toNat = 0 % 128 + 1 ∧
    (3#8 : Byte).toNat = SlotKind.muster.code ∧
    (built.link 0).exchange.any (fun e => !e.detached && decide (e.screen = 0) && decide (e.packet = .discover)) =
      true ∧
    PanelClass.large.code = (2#8 : Byte).toNat ∧ lastAccept.muster.state = .standDown ∧
    (lastAccept.screenAt 0).map (fun x => (x.attach, x.musterSlot.accepted, x.musterSlot.gen)) =
      some (.present, some 4#16, 6#16) ∧
    ((after built (.screenRetire 1#8 [0#8, 1#8])).link 0).exchange.any (fun e => e.detached) = true ∧
    lastAccept.muster.completion = false ∧ (after lastAccept (.accept 0 1#8 0#8 3#8 6#16)).standDownHolds = true ∧
    (after lastAccept (.accept 0 1#8 0#8 3#8 6#16)).muster.completion = true := by decide +kernel

/-- The links of the exchange's misses: an ABSENT screen, a PRESENT one, one at its third miss, a retired one. -/
theorem test_hyp_MissesCountTowardLoss : Table.wf built.screen.screens = true ∧ (built.link 3).exchange = none ∧
    (built.link 0).exchange.any (fun e => e.window.isSome && !e.detached && decide (e.screen = 0)) = true ∧
    (built.screenAt 0).map (·.attach) = some .absent ∧
    ((after built (.screenAnswerBegin 0)).link 0).exchange.any (fun e => e.limit.isSome) = true ∧
    (shown.screenAt 0).map (fun x => (x.attach, x.misses)) = some (.present, 0) ∧
    (let s := run shown [.answerWindowExpiry 0, .answerWindowExpiry 0]
     (s.screenAt 0).map (fun x => (x.attach, x.misses)) = some (.present, 2) ∧ (s.link 0).exchange.isSome = true) ∧
    ((after built (.screenRetire 1#8 [0#8, 1#8])).link 0).exchange.any (fun e => e.detached) = true := by
  decide +kernel

/-- The four muster states, and an alarm that the line holds. -/
def lineAlarm : State := run built [.alarmInChange true, .alarmInFilterExpiry]

theorem test_hyp_MusterStartAndEnd : (TablesWf built ∧ RouteInv built ∧ built.muster.state = .normal) ∧
    (TablesWf drill ∧ RouteInv drill ∧ drill.muster.state = .drill ∧ drill.muster.asserted = false) ∧
    (TablesWf alarm ∧ RouteInv alarm ∧ alarm.muster.state = .alarm ∧ alarm.muster.asserted = false) ∧
    (TablesWf standDown ∧ RouteInv standDown ∧ standDown.muster.state = .standDown) ∧
    lineAlarm.muster.state = .alarm ∧
    lineAlarm.muster.asserted = true :=
  have ⟨d, a, u⟩ := test_muster_invariants
  ⟨⟨test_built_invariants.1, test_built_invariants.2.2.2, by decide +kernel⟩, ⟨d.1, d.2, by decide +kernel,
    by decide +kernel⟩, ⟨a.1, a.2, by decide +kernel, by decide +kernel⟩, ⟨u.1, u.2, by decide +kernel⟩,
    by decide +kernel⟩

theorem test_hyp_MusterStatusAnswersItsFigures : drill.muster.drillTimer = some 0 ∧ drill.muster.drillLimit = 1 ∧
    built.muster.drillTimer = none := by decide +kernel

/-- The line going low, its filter running, a drill with a limit, and a stand-down that holds. -/
theorem test_hyp_AlarmLineTimersAndCompletion : TablesWf drill ∧ RouteInv drill ∧ TablesWf standDown ∧
    RouteInv standDown ∧ drill.muster.drillTimer.isSome ∧ drill.muster.state = .drill ∧
    drill.muster.entryTimer.isSome ∧
    drill.muster.rawLow = false ∧ (after drill (.alarmInChange true)).muster.filterTimer.isSome ∧
    (after drill (.alarmInChange true)).muster.rawLow = true ∧
    (after lineAlarm (.alarmInChange false)).muster.filterTimer.isSome ∧ standDown.muster.completion = true ∧
    standDown.trunksOutstanding = 0 ∧ standDown.screensOutstanding = 0 ∧
    (let s := after standDown (.configSet 1#8 (u16 0x20 ++ u16 1)) 
     s.muster.completion = true ∧ s.trunksOutstanding = 1) :=
  have ⟨d, _, u⟩ := test_muster_invariants
  ⟨d.1, d.2, u.1, u.2, by decide +kernel⟩

/-- Whether an outcome is a next state. -/
def goesOn : Host.Outcome State Fault Refusal → Bool
  | .next _ => true
  | .fault _ => false
  | .refused _ => false

theorem next_of_goesOn {o : Host.Outcome State Fault Refusal} (h : goesOn o = true) : ∃ t, o = .next t := by
  cases o with
  | next t => exact ⟨t, rfl⟩
  | fault f => exact absurd h (by simp [goesOn])
  | refused r => exact absurd h (by simp [goesOn])

theorem test_ship_steps : ∃ t, step ship = .next t := next_of_goesOn (by decide +kernel)

theorem test_built_steps : ∃ t, step built = .next t := next_of_goesOn (by decide +kernel)

theorem test_hyp_StepsKeepTheTables : TablesWf ship ∧ ∃ t, step ship = .next t :=
  ⟨test_ship_tables, test_ship_steps⟩

theorem test_hyp_StepsKeepClaimsAndCounts : TablesWf ship ∧ GraphInv ship ∧ DegreeInv ship ∧ TargetInv ship ∧
    ∃ t, step ship = .next t :=
  ⟨test_ship_tables, test_ship_records_hold.2.1, test_ship_degrees, test_ship_targets, test_ship_steps⟩

theorem test_hyp_StepsKeepTheMaps : (TablesWf ship ∧ RouteInv ship ∧ ∃ t, step ship = .next t) ∧
    TablesWf built ∧ GraphInv built ∧ RouteInv built ∧ ContentInv built ∧ ∃ t, step built = .next t :=
  have ⟨w, g, _, r⟩ := test_built_invariants
  ⟨⟨test_ship_tables, test_ship_routes, test_ship_steps⟩, w, g, r, contentInv_of_checked test_built_contents,
    test_built_steps⟩

theorem test_hyp_StepsKeepPlatesAndTrunks : TablesWf ship ∧ PlateInv ship ∧ TrunkInv ship ∧ CabinInv ship ∧
    ∃ t, step ship = .next t :=
  ⟨test_ship_tables, plateInv_of_checked test_ship_plates, test_ship_trunks, cabinInv_of_checked test_ship_cabins,
    test_ship_steps⟩

theorem test_hyp_StepsKeepAlarmAndEntries : TablesWf ship ∧ MusterInv ship ∧ EntryInv ship ∧ MusterInv drill ∧
    ∃ t, step ship = .next t :=
  ⟨test_ship_tables, test_ship_muster, test_ship_programme, test_drill_muster, test_ship_steps⟩

theorem test_hyp_StepsKeepTheScreenQueues : TablesWf shown ∧ ScreenInv shown ∧ ∃ t, step shown = .next t :=
  ⟨test_shown_invariants.1, test_shown_screens, next_of_goesOn (by decide +kernel)⟩

end Sys2Proof.Tests
end

section
/-! The reads of the graph, usability and the resets (R3, R11, R12, R187). -/

namespace Sys2Proof.Machine

/-- The four conditions of R12 that an edge's record and the muster state decide. -/
theorem Edge.usableIn_iff (e : Edge) (p : Profile) (m : MusterState) :
    e.usableIn p m = true ↔ e.pass = .opened ∧ e.crewOnly = false ∧ (p = .general ∨ e.kind ≠ .stair) ∧
      (m = .normal ∨ m = .standDown ∨ e.kind ≠ .lift) := by
  cases m <;> simp [Edge.usableIn, MusterState.proper, and_assoc]

theorem usable_iff (s : State) (p : Profile) (id : Nat) :
    s.usable p id = true ↔ ∃ e, s.edge id = some e ∧ e.usableIn p s.muster.state = true := by
  rw [State.usable]
  cases s.edge id <;> simp [State.musterNow]


/-! ### What a fresh request leaves of the records -/

@[simp] theorem beginRequest_node (s : State) (n : Nat) : s.beginRequest.node n = s.node n := rfl
@[simp] theorem beginRequest_edge (s : State) (n : Nat) : s.beginRequest.edge n = s.edge n := rfl
@[simp] theorem beginRequest_musterNow (s : State) : s.beginRequest.musterNow = s.musterNow := rfl

/-- Bits 2 and 3 of the flags of an edge's answer are its usability now (R11). -/
theorem edgeFlags_eq (s : State) (id : Nat) (e : Edge) (h : s.edge id = some e) :
    s.edgeFlags e = (if e.pass = .closed then 1 else 0) + (if e.crewOnly then 2 else 0) +
      (if s.usable .general id then 4 else 0) + (if s.usable .stepFree id then 8 else 0) := by
  simp [State.edgeFlags, State.usable, h]

/-- NODE_GET by the range of its id and the slot it names (R3). -/
theorem execNodeGet_eq (s : State) (tag i1 i0 : Byte) :
    exec (.nodeGet tag [i1, i0]) s = .next
      (if 1023 < rd16 i1 i0 then s.answering s tag .badField []
       else match s.node (rd16 i1 i0) with
         | none => s.answering s tag .notFound []
         | some x => s.answering s tag .done (nodeBytes (rd16 i1 i0) x)) := by
  show Host.Outcome.next (serve tag (some (rd16 i1 i0)) false (reading nodeGet) s) = _
  rw [serve_reading, nodeGet, beginRequest_node]
  by_cases far : 1023 < rd16 i1 i0
  · rw [if_pos (show Config.nodeSlots ≤ rd16 i1 i0 from far), if_pos far]; rfl
  · rw [if_neg (show ¬Config.nodeSlots ≤ rd16 i1 i0 from far), if_neg far]
    cases s.node (rd16 i1 i0) <;> rfl

/-- EDGE_GET by the range of its id and the slot it names (R11). -/
theorem execEdgeGet_eq (s : State) (tag i1 i0 : Byte) :
    exec (.edgeGet tag [i1, i0]) s = .next
      (if 3071 < rd16 i1 i0 then s.answering s tag .badField []
       else match s.edge (rd16 i1 i0) with
         | none => s.answering s tag .notFound []
         | some e => s.answering s tag .done (s.edgeBytes (rd16 i1 i0) e)) := by
  show Host.Outcome.next (serve tag (some (rd16 i1 i0)) false (reading edgeGet) s) = _
  rw [serve_reading, edgeGet, beginRequest_edge]
  by_cases far : 3071 < rd16 i1 i0
  · rw [if_pos (show Config.edgeSlots ≤ rd16 i1 i0 from far), if_pos far]; rfl
  · rw [if_neg (show ¬Config.edgeSlots ≤ rd16 i1 i0 from far), if_neg far]
    cases s.edge (rd16 i1 i0) <;> rfl

/-! ### Resets (R187) -/

@[simp] theorem trunk_resetWith (s : State) (cause : ResetCause) (j : Fin 16) :
    (s.resetWith cause).trunk j = (s.trunk j).resetKeepingWires := by
  simp [State.resetWith, State.trunk]

@[simp] theorem link_resetWith (s : State) (cause : ResetCause) (l : Fin 4) :
    (s.resetWith cause).link l = Link.reset := by
  simp [State.resetWith, State.link, State.reset]

end Sys2Proof.Machine

open Sys2Proof Sys2Proof.Machine

/-- Settles O2: each read is by the range of the id and by the slot it names, and an edge's flags are its
usability. -/
theorem graphReadsAnswerRecords : Obligations.GraphReadsAnswerRecords := by
  intro s tag i1 i0
  refine ⟨execNodeGet_eq s tag i1 i0, ?_⟩
  rw [execEdgeGet_eq]
  congr 2
  cases h : s.edge (rd16 i1 i0) with
  | none => rfl
  | some e => simp only [State.edgeBytes, edgeFlags_eq s _ e h]

/-- Settles O3: the edge is looked up, and then its record and the muster state decide. -/
theorem usableIsTheFiveConditions : Obligations.UsableIsTheFiveConditions := by
  intro s p id
  simp only [usable_iff, Edge.usableIn_iff]

/-- Settles O53: both resets are `resetWith`, whose registers are those of `State.reset` but for what the outside
drives. -/
theorem resetsPutEveryRegisterAtItsValue : Obligations.ResetsPutEveryRegisterAtItsValue := by
  intro s cause i reset
  have next : exec i s = .next (s.resetWith cause) := by
    rcases reset with ⟨rfl, rfl⟩ | ⟨rfl, rfl⟩ <;> rfl
  exact ⟨_, next, rfl, rfl, rfl, rfl, rfl, trunk_resetWith s cause, rfl, rfl, link_resetWith s cause, rfl, rfl, rfl, rfl⟩

/-- Settles O54: the records, maps, plates and screens of the reset state are checked over its empty tables, and its
trunks and links one by one. -/
theorem resetMeetsTheInvariants : Obligations.ResetMeetsTheInvariants := by
  have records : RecordsChecked State.reset := by decide +kernel
  obtain ⟨tables, graph, targets⟩ := records_of_checked records
  have maps : MapsChecked State.reset := by decide +kernel
  have cabins : CabinsChecked State.reset := by decide +kernel
  have plates : PlatesChecked State.reset := by decide +kernel
  have entries : EntriesChecked State.reset := by decide +kernel
  have screens : ScreensChecked State.reset := by decide +kernel
  have degrees : DegreeInv State.reset := fun _ => Nat.zero_le 8
  refine ⟨tables, graph, degrees, targets, routeInv_of_checked maps, contentInv_of_checked (by decide +kernel),
    cabinInv_of_checked cabins, plateInv_of_checked plates, ?_, entryInv_of_checked entries, ?_,
    screenInv_of_checked screens⟩
  · unfold TrunkInv TrunkOk; decide +kernel
  · unfold MusterInv; decide +kernel

end

section
/-! Tables seen through a function of their records, and sums over the live records: what an operation on a table
does to both. The counts and tallies of the part are such sums. -/

namespace Sys2Proof.Table

variable {α β : Type}

/-! ### What a record shows -/

/-- The table of what each record shows to a function. -/
def view (f : α → β) (t : Table α) : Table β := t.map fun r => (r.1, f r.2)

@[simp] theorem view_nil (f : α → β) : view f ([] : Table α) = [] := rfl

theorem view_cons (f : α → β) (j : Nat) (v : α) (t : Table α) :
    view f ((j, v) :: t) = (j, f v) :: view f t := rfl

theorem get_view (f : α → β) (t : Table α) (k : Nat) : get (view f t) k = (get t k).map f := by
  induction t with
  | nil => rfl
  | cons r t ih =>
    obtain ⟨j, v⟩ := r
    rw [view_cons, get_cons, get_cons, ih]
    split <;> rfl

theorem keys_view (f : α → β) (t : Table α) : (view f t).map (·.1) = t.map (·.1) := by
  simp [view, Function.comp_def]

@[simp] theorem wf_view (f : α → β) (t : Table α) : wf (view f t) = wf t := by
  rw [Bool.eq_iff_iff, wf_iff, wf_iff, keys_view]

/-- Tables that show the same are canonical together. -/
theorem wf_of_view {f : α → β} {t u : Table α} (h : view f t = view f u) : wf t = wf u := by
  rw [← wf_view f t, h, wf_view]

theorem view_modify (f : α → β) (g : α → α) (t : Table α) (k : Nat) (h : ∀ v, f (g v) = f v) :
    view f (modify t k g) = view f t := by
  simp only [view, modify, List.map_map]
  refine List.map_congr_left fun r _ => ?_
  simp only [Function.comp]
  split <;> simp [h]

/-- A change that the record of the slot does not show. -/
theorem view_modify_of_get (f : α → β) (g : α → α) (t : Table α) (k : Nat) (v : α) (hw : wf t = true)
    (hk : get t k = some v) (h : f (g v) = f v) : view f (modify t k g) = view f t := by
  simp only [view, modify, List.map_map]
  refine List.map_congr_left fun r hr => ?_
  simp only [Function.comp]
  split
  · rename_i e
    subst e
    have live := (get_iff_mem t hw r.1 r.2).mpr hr
    rw [hk, Option.some.injEq] at live
    rw [← live, h]
  · rfl

theorem view_mapAll (f : α → β) (g : α → α) (t : Table α) (h : ∀ v, f (g v) = f v) :
    view f (mapAll t g) = view f t := by
  simp [view, mapAll, h]

/-- In tables that show the same, a slot is live in both or in neither, and shows the same. -/
theorem get_of_view {f : α → β} {t u : Table α} (h : view f t = view f u) {k : Nat} {v : α}
    (hk : get t k = some v) : ∃ w, get u k = some w ∧ f w = f v := by
  have shown : (get u k).map f = some (f v) := by rw [← get_view, ← h, get_view, hk]; rfl
  simpa using shown

/-! ### Sums over the live records -/

/-- The sum of a figure over the live records. -/
def total (f : α → Nat) (t : Table α) : Nat := (t.map fun r => f r.2).sum

@[simp] theorem total_nil (f : α → Nat) : total f ([] : Table α) = 0 := rfl

theorem total_cons (f : α → Nat) (j : Nat) (v : α) (t : Table α) :
    total f ((j, v) :: t) = f v + total f t := by
  simp [total]

theorem count_eq_total (t : Table α) (p : α → Bool) : count t p = total (fun v => if p v then 1 else 0) t := by
  induction t with
  | nil => rfl
  | cons r t ih =>
    obtain ⟨j, v⟩ := r
    rw [total_cons, ← ih]
    simp only [count, List.filter_cons]
    split <;> simp [Nat.add_comm]

/-- A sum is a matter of what the records show, if its figure is. -/
theorem total_of_view {f : α → β} {t u : Table α} (g : α → Nat) (h : view f t = view f u)
    (hg : ∀ v w, f v = f w → g v = g w) : total g t = total g u := by
  induction t generalizing u with
  | nil =>
    cases u with
    | nil => rfl
    | cons r u => simp [view] at h
  | cons r t ih =>
    cases u with
    | nil => simp [view] at h
    | cons q u =>
      obtain ⟨i, v⟩ := r
      obtain ⟨j, w⟩ := q
      simp only [view_cons, List.cons.injEq, Prod.mk.injEq] at h
      obtain ⟨⟨_, same⟩, rest⟩ := h
      rw [total_cons, total_cons, ih rest, hg _ _ same]

theorem count_of_view {f : α → β} {t u : Table α} (p : α → Bool) (h : view f t = view f u)
    (hp : ∀ v w, f v = f w → p v = p w) : count t p = count u p := by
  rw [count_eq_total, count_eq_total]
  exact total_of_view _ h fun v w e => by rw [hp v w e]

theorem get_eq_none_of_lt (t : Table α) (k : Nat) (h : ∀ a ∈ t.map (·.1), k < a) : get t k = none := by
  rw [get_eq_none_iff]
  exact fun m => Nat.lt_irrefl k (h k m)

/-- What a put brings in for what it replaces. -/
theorem total_put (f : α → Nat) (t : Table α) (k : Nat) (v : α) (h : wf t = true) :
    total f (put t k v) + (get t k).elim 0 f = total f t + f v := by
  rw [wf_iff] at h
  induction t with
  | nil => simp [put, total]
  | cons r t ih =>
    obtain ⟨j, w⟩ := r
    have above : ∀ a ∈ t.map (·.1), j < a := fun a ha => List.rel_of_pairwise_cons h ha
    have rest := ih (List.Pairwise.of_cons h)
    simp only [put, get_cons]
    split
    · rename_i lt
      rw [if_neg (Nat.ne_of_gt lt), get_eq_none_of_lt t k fun a ha => Nat.lt_trans lt (above a ha)]
      simp only [total_cons, Option.elim_none]
      omega
    · split
      · rename_i eq
        rw [if_pos eq.symm]
        simp only [total_cons, Option.elim_some]
        omega
      · rename_i ne
        rw [if_neg (fun e => ne e.symm)]
        simp only [total_cons]
        omega

/-- What a freed slot takes away. -/
theorem total_del (f : α → Nat) (t : Table α) (k : Nat) (h : wf t = true) :
    total f (del t k) + (get t k).elim 0 f = total f t := by
  rw [wf_iff] at h
  induction t with
  | nil => rfl
  | cons r t ih =>
    obtain ⟨j, w⟩ := r
    have above : ∀ a ∈ t.map (·.1), j < a := fun a ha => List.rel_of_pairwise_cons h ha
    have rest := ih (List.Pairwise.of_cons h)
    by_cases e : j = k
    · subst e
      rw [get_eq_none_of_lt t j above] at rest
      simp only [del, Option.elim_none] at rest
      simp only [del, get_cons, if_true, total_cons, Option.elim_some]
      rw [List.filter_cons_of_neg (by simp)]
      omega
    · simp only [del] at rest
      simp only [del, get_cons, if_neg e, total_cons]
      rw [List.filter_cons_of_pos (by simpa using e), total_cons]
      omega

/-- What a change of one record brings in for what it replaces. -/
theorem total_modify (f : α → Nat) (g : α → α) (t : Table α) (k : Nat) (h : wf t = true) :
    total f (modify t k g) + (get t k).elim 0 f = total f t + (get t k).elim 0 (fun v => f (g v)) := by
  rw [wf_iff] at h
  induction t with
  | nil => rfl
  | cons r t ih =>
    obtain ⟨j, w⟩ := r
    have above : ∀ a ∈ t.map (·.1), j < a := fun a ha => List.rel_of_pairwise_cons h ha
    have rest := ih (List.Pairwise.of_cons h)
    simp only [modify, List.map_cons] at rest ⊢
    by_cases e : j = k
    · subst e
      rw [get_eq_none_of_lt t j above] at rest
      simp only [get_cons, if_true, total_cons, Option.elim_some, Option.elim_none] at rest ⊢
      omega
    · simp only [get_cons, if_neg e, total_cons] at rest ⊢
      omega

theorem count_put (p : α → Bool) (t : Table α) (k : Nat) (v : α) (h : wf t = true) :
    count (put t k v) p + (get t k).elim 0 (fun w => if p w then 1 else 0) =
      count t p + if p v then 1 else 0 := by
  rw [count_eq_total, count_eq_total]
  exact total_put _ t k v h

theorem count_del (p : α → Bool) (t : Table α) (k : Nat) (h : wf t = true) :
    count (del t k) p + (get t k).elim 0 (fun w => if p w then 1 else 0) = count t p := by
  rw [count_eq_total, count_eq_total]
  exact total_del _ t k h

theorem count_modify (p : α → Bool) (g : α → α) (t : Table α) (k : Nat) (h : wf t = true) :
    count (modify t k g) p + (get t k).elim 0 (fun w => if p w then 1 else 0) =
      count t p + (get t k).elim 0 (fun w => if p (g w) then 1 else 0) := by
  rw [count_eq_total, count_eq_total]
  exact total_modify _ g t k h

/-- Nothing is counted exactly if no live record passes the test. -/
theorem count_eq_zero_iff (p : α → Bool) (t : Table α) (h : wf t = true) :
    count t p = 0 ↔ ∀ k v, get t k = some v → p v = false := by
  rw [count, List.length_eq_zero_iff, List.filter_eq_nil_iff]
  constructor
  · intro none k v hk
    simpa using none (k, v) (mem_of_get t k v hk)
  · rintro none ⟨k, v⟩ hr
    simpa using none k v ((get_iff_mem t h k v).mpr hr)

/-- A live record that passes the test is counted. -/
theorem one_le_count (p : α → Bool) (t : Table α) (k : Nat) (v : α) (hk : get t k = some v) (hp : p v = true) :
    1 ≤ count t p :=
  List.length_pos_of_mem (List.mem_filter.mpr ⟨mem_of_get t k v hk, hp⟩)

/-- Looked up by a test, a record is live with its slot and passes the test. -/
theorem get_of_find {t : Table α} (h : wf t = true) {p : α → Bool} {r : Nat × α} (hf : find t p = some r) :
    get t r.1 = some r.2 ∧ p r.2 = true :=
  ⟨(get_iff_mem t h r.1 r.2).mpr (List.mem_of_find?_eq_some hf), by simpa using List.find?_some hf⟩

/-- The lowest free slot is free. -/
theorem get_lowestFree {t : Table α} {fuel k j : Nat} (h : lowestFree t fuel k = some j) : get t j = none := by
  induction fuel generalizing k with
  | zero => simp [lowestFree] at h
  | succ fuel ih =>
    simp only [lowestFree] at h
    split at h
    · rename_i free
      cases h
      simpa using free
    · exact ih h

end Sys2Proof.Table
end

section
/-! The claims and counts of a state, taken apart: what the records show that the invariants of R4, R8, R16, R46,
R50, R52 and R53 read, the invariants as figures by node and by target, and that a state which shows the same as a
sound one is sound. -/

namespace Sys2Proof.Machine

/-! ### What the records show -/

/-- What claims and tallies read of a cabin. -/
structure CabinStake where
  door : Nat
  primary : Nat
  alternate : Option Nat
  swept : Bool
  berths : Nat

def Cabin.stake (x : Cabin) : CabinStake :=
  { door := x.doorNode, primary := x.primary, alternate := x.alternate, swept := x.swept, berths := x.occupiedBerths }

/-- What claims read of a screen. -/
structure ScreenStake where
  node : Nat
  shown : List Nat
  override : Option Nat

def Screen.stake (x : Screen) : ScreenStake := { node := x.node, shown := x.shown, override := x.override }

/-- What of a station only its own requests change. -/
structure StationPlan where
  letter : Nat
  capacity : Nat
  blocked : Bool

def Station.plan (st : Station) : StationPlan :=
  { letter := st.letter, capacity := st.capacity, blocked := st.blocked }

/-- What of a target only its own requests change, the label apart. -/
structure TargetPlan where
  anchor : Nat
  station : Option StationPlan

def Target.plan (x : Target) : TargetPlan := { anchor := x.anchor, station := x.station.map Station.plan }

/-! ### Effective stations -/

/-- The blocked flag that a plan shows, if the target is a station. -/
def TargetPlan.blocked (p : TargetPlan) : Option Bool := p.station.map (·.blocked)

theorem stationAt_plan (s : State) (k : Nat) :
    (s.stationAt k).map Station.plan =
      (Table.get (Table.view Target.plan s.target.targets) k).bind (·.station) := by
  rw [Table.get_view, State.stationAt, State.targetAt]
  cases Table.get s.target.targets k <;> rfl

/-- States whose targets show the same have the same stations, figures and flags apart. -/
theorem stationAt_of_plans {s t : State}
    (h : Table.view Target.plan t.target.targets = Table.view Target.plan s.target.targets) (k : Nat) :
    (t.stationAt k).map Station.plan = (s.stationAt k).map Station.plan := by
  rw [stationAt_plan, stationAt_plan, h]

theorem isSome_stationAt_of_plans {s t : State}
    (h : Table.view Target.plan t.target.targets = Table.view Target.plan s.target.targets) (k : Nat) :
    (t.stationAt k).isSome = (s.stationAt k).isSome := by
  simpa using congrArg Option.isSome (stationAt_of_plans h k)

theorem isSome_targetAt_of_plans {s t : State}
    (h : Table.view Target.plan t.target.targets = Table.view Target.plan s.target.targets) (k : Nat) :
    (t.targetAt k).isSome = (s.targetAt k).isSome := by
  simpa [Table.get_view, State.targetAt] using congrArg (fun u => (Table.get u k).isSome) h

theorem unblocked_eq (s : State) (k : Nat) :
    s.unblocked k = ((s.stationAt k).map Station.plan).any fun p => !p.blocked := by
  rw [State.unblocked]
  cases s.stationAt k <;> rfl

theorem effective_of_unblocked {s t : State} (h : ∀ k, t.unblocked k = s.unblocked k) :
    t.effective = s.effective := by
  funext c
  simp only [State.effective, h]

/-- The effective station of a cabin is a matter of what the targets show (R51). -/
theorem effective_of_plans {s t : State}
    (h : Table.view Target.plan t.target.targets = Table.view Target.plan s.target.targets) :
    t.effective = s.effective :=
  effective_of_unblocked fun k => by rw [unblocked_eq, unblocked_eq, stationAt_of_plans h]

theorem effective_of_stake (s : State) {x y : Cabin} (h : x.stake = y.stake) : s.effective x = s.effective y := by
  have primary : x.primary = y.primary := congrArg CabinStake.primary h
  have alternate : x.alternate = y.alternate := congrArg CabinStake.alternate h
  simp only [State.effective, primary, alternate]

/-- An effective station is a station that is live, and one of the cabin's own. -/
theorem effective_eq_some {s : State} {c : Cabin} {k : Nat} (h : s.effective c = some k) :
    (s.stationAt k).isSome ∧ k ∈ c.stations := by
  have live : ∀ j, s.unblocked j = true → (s.stationAt j).isSome := by
    intro j
    rw [State.unblocked]
    cases s.stationAt j <;> simp
  simp only [State.effective] at h
  split at h
  · rename_i open_
    cases h
    exact ⟨live _ open_, by simp [Cabin.stations]⟩
  · split at h
    · simp at h
    · rename_i a alternate
      split at h
      · rename_i open_
        cases h
        exact ⟨live _ open_, by simp [Cabin.stations, alternate]⟩
      · simp at h

/-! ### Figures of stations and of cabins (R52) -/

/-- The three figures that a cabin gives to its station. -/
inductive Figure where
  | assigned | swept | occupied

def Station.figure (st : Station) : Figure → Nat
  | .assigned => st.assigned
  | .swept => st.swept
  | .occupied => st.occupied

def Cabin.figure (c : Cabin) : Figure → Nat
  | .assigned => 1
  | .swept => c.sweptOne
  | .occupied => c.occupiedBerths

theorem figure_of_stake {x y : Cabin} (h : x.stake = y.stake) (g : Figure) : x.figure g = y.figure g := by
  cases g with
  | assigned => rfl
  | swept => simp only [Cabin.figure, Cabin.sweptOne, show x.swept = y.swept from congrArg CabinStake.swept h]
  | occupied => exact congrArg CabinStake.berths h

/-- A figure that a station shows now. -/
def State.figureAt (s : State) (g : Figure) (k : Nat) : Option Nat := (s.stationAt k).map (·.figure g)

/-- What a list of cabins gives to a place, a station or none, by some rule of where a cabin counts. -/
def share (place : Cabin → Option Nat) (p : Option Nat) (g : Figure) (cs : List Cabin) : Nat :=
  (cs.map fun c => if place c = p then c.figure g else 0).sum

@[simp] theorem share_nil (place : Cabin → Option Nat) (p : Option Nat) (g : Figure) : share place p g [] = 0 := rfl

theorem share_cons (place : Cabin → Option Nat) (p : Option Nat) (g : Figure) (c : Cabin) (cs : List Cabin) :
    share place p g (c :: cs) = (if place c = p then c.figure g else 0) + share place p g cs := by
  simp [share]

/-- What the live cabins give to a place. -/
def State.tally (s : State) (g : Figure) (p : Option Nat) : Nat :=
  share s.effective p g (s.cabin.cabins.map (·.2))

theorem tally_eq_total (s : State) (g : Figure) (p : Option Nat) :
    s.tally g p = Table.total (fun c => if s.effective c = p then c.figure g else 0) s.cabin.cabins := by
  simp [State.tally, share, Table.total, Function.comp_def]

theorem length_filter_place (place : Cabin → Option Nat) (p : Option Nat) (l : List (Nat × Cabin)) :
    (l.filter fun r => decide (place r.2 = p)).length = share place p .assigned (l.map (·.2)) := by
  induction l with
  | nil => rfl
  | cons r l ih =>
    rw [List.map_cons, share_cons, ← ih, List.filter_cons]
    by_cases h : place r.2 = p <;> simp [h, Cabin.figure, Nat.add_comm]

theorem length_filter_swept (place : Cabin → Option Nat) (p : Option Nat) (l : List (Nat × Cabin)) :
    ((l.filter fun r => decide (place r.2 = p)).filter fun r => r.2.swept).length =
      share place p .swept (l.map (·.2)) := by
  induction l with
  | nil => rfl
  | cons r l ih =>
    rw [List.map_cons, share_cons, ← ih, List.filter_cons]
    by_cases h : place r.2 = p
    · cases clear : r.2.swept <;> simp [h, clear, Cabin.figure, Cabin.sweptOne, Nat.add_comm]
    · simp [h]

theorem berthsOf_filter (place : Cabin → Option Nat) (p : Option Nat) (l : List (Nat × Cabin)) :
    berthsOf (l.filter fun r => decide (place r.2 = p)) = share place p .occupied (l.map (·.2)) := by
  induction l with
  | nil => rfl
  | cons r l ih =>
    rw [List.map_cons, share_cons, ← ih, List.filter_cons]
    by_cases h : place r.2 = p <;> simp [h, Cabin.figure, berthsOf]

/-- The tallies that the live records make are the shares of the live cabins (R52). -/
theorem tallies_assignedTo (s : State) (k : Nat) :
    (s.assignedTo k).length = s.tally .assigned (some k) ∧
    ((s.assignedTo k).filter fun r => r.2.swept).length = s.tally .swept (some k) ∧
    berthsOf (s.assignedTo k) = s.tally .occupied (some k) :=
  ⟨length_filter_place _ _ _, length_filter_swept _ _ _, berthsOf_filter _ _ _⟩

theorem unassigned_eq_tally (s : State) :
    (s.cabin.cabins.filter fun r => (s.effective r.2).isNone).length = s.tally .assigned none := by
  rw [State.tally, ← length_filter_place]
  congr 1
  refine List.filter_congr fun r _ => ?_
  cases s.effective r.2 <;> simp

theorem tally_of_views {s t : State} (place : t.effective = s.effective)
    (cabins : Table.view Cabin.stake t.cabin.cabins = Table.view Cabin.stake s.cabin.cabins) (g : Figure)
    (p : Option Nat) : t.tally g p = s.tally g p := by
  rw [tally_eq_total, tally_eq_total, place]
  exact Table.total_of_view _ cabins fun v w e => by rw [effective_of_stake s e, figure_of_stake e]

/-! ### The invariants, part by part -/

/-- The tables are in their canonical form. -/
structure Sorted (s : State) : Prop where
  edges : Table.wf s.graph.edges = true
  targets : Table.wf s.target.targets = true
  cabins : Table.wf s.cabin.cabins = true
  entries : Table.wf s.programme.entries = true
  screens : Table.wf s.screen.screens = true

/-- What is recorded of a node, a free one among them, is what the live records make it: a free node has no claim,
and a live one the degree and reference count that its claims make (R4). -/
def State.nodeRight (s : State) (n : Nat) : Prop :=
  (s.node n = none → s.claimsOnNode n = 0) ∧
  ∀ x, s.node n = some x → x.degree = s.endsAt n ∧ x.refs = s.claimsOnNode n

/-- The deck graph's part of the invariants (R4, R8, R16). -/
structure DeckRight (s : State) : Prop where
  twoEnds : ∀ id e, s.edge id = some e → e.endA ≠ e.endB
  nodes : ∀ n, s.nodeRight n
  lifts : s.graph.openLifts = Table.count s.graph.edges Edge.openLift
  degrees : DegreeInv s

/-- A cabin names live stations, two different ones if two (R46, R50). -/
def State.cabinNames (s : State) (x : Cabin) : Prop :=
  (s.stationAt x.primary).isSome ∧ ∀ a, x.alternate = some a → a ≠ x.primary ∧ (s.stationAt a).isSome

/-- A target is a live VENUE. -/
def State.isVenue (s : State) (k : Nat) : Prop := ∃ v, s.targetAt k = some v ∧ v.station = none

/-- A screen shows live targets, each once, and its override is a live station. -/
def State.screenNames (s : State) (x : Screen) : Prop :=
  x.shown.Nodup ∧ (∀ t ∈ x.shown, (s.targetAt t).isSome) ∧ ∀ t, x.override = some t → (s.stationAt t).isSome

/-- A reference count as it is recorded. -/
def State.refsAt (s : State) (k : Nat) : Option Nat := (s.targetAt k).map (·.refs)

/-- The targets' part of the invariants (R46, R50, R52, R53). -/
structure TargetsRight (s : State) : Prop where
  cabins : ∀ c x, s.cabinAt c = some x → s.cabinNames x
  venues : ∀ e x, s.entryAt e = some x → s.isVenue x.venue
  screens : ∀ n x, s.screenAt n = some x → s.screenNames x
  letters : ∀ t u a b, s.stationAt t = some a → s.stationAt u = some b → a.letter = b.letter → t = u
  refs : ∀ k n, s.refsAt k = some n → n = s.claimsOnTarget k
  tallies : ∀ g k n, s.figureAt g k = some n → n = s.tally g (some k)
  flags : ∀ k st, s.stationAt k = some st → st.overFlag = st.isOver
  unassigned : s.target.unassigned = s.tally .assigned none

/-- All of them. -/
structure Sound (s : State) : Prop where
  sorted : Sorted s
  deck : DeckRight s
  targets : TargetsRight s

theorem endsAt_le_claimsOnNode (s : State) (n : Nat) : s.endsAt n ≤ s.claimsOnNode n := by
  simp only [State.claimsOnNode]
  omega

/-- A record's claim is counted at its node. -/
theorem live_of_claim {s : State} {n : Nat} (right : s.nodeRight n) (claimed : 0 < s.claimsOnNode n) :
    (s.node n).isSome := by
  cases e : s.node n with
  | none => exact absurd (right.1 e) (Nat.ne_of_gt claimed)
  | some x => rfl

/-- A free node has no claim exactly if every record names live nodes. -/
theorem claimsOnNode_eq_zero_iff {s : State} (sorted : Sorted s) (n : Nat) :
    s.claimsOnNode n = 0 ↔ (∀ id e, s.edge id = some e → e.hasEnd n = false) ∧
      (∀ t x, s.targetAt t = some x → x.anchor ≠ n) ∧ (∀ c x, s.cabinAt c = some x → x.doorNode ≠ n) ∧
      ∀ m x, s.screenAt m = some x → x.node ≠ n := by
  simp only [State.claimsOnNode, State.endsAt, Nat.add_eq_zero_iff,
    Table.count_eq_zero_iff _ _ sorted.edges, Table.count_eq_zero_iff _ _ sorted.targets,
    Table.count_eq_zero_iff _ _ sorted.cabins, Table.count_eq_zero_iff _ _ sorted.screens, decide_eq_false_iff_not,
    and_assoc]
  rfl

theorem deckRight_iff {s : State} (sorted : Sorted s) : DeckRight s ↔ GraphInv s ∧ DegreeInv s := by
  constructor
  · intro h
    have live : ∀ n, ¬s.claimsOnNode n = 0 → (s.node n).isSome := fun n claimed =>
      live_of_claim (h.nodes n) (Nat.pos_of_ne_zero claimed)
    refine ⟨⟨fun id e he => ⟨h.twoEnds id e he, live _ ?_, live _ ?_⟩, fun t x ht => live _ ?_,
      fun c x hc => live _ ?_, fun n x hn => live _ ?_, fun n => (h.nodes n).2, h.lifts⟩, h.degrees⟩ <;>
      rw [claimsOnNode_eq_zero_iff sorted] <;> rintro ⟨edges, anchors, doors, screens⟩
    · simpa [Edge.hasEnd] using edges id e he
    · simpa [Edge.hasEnd] using edges id e he
    · exact anchors t x ht rfl
    · exact doors c x hc rfl
    · exact screens n x hn rfl
  · rintro ⟨⟨edges, anchors, doors, screens, counts, lifts⟩, degrees⟩
    refine ⟨fun id e he => (edges id e he).1, fun n => ⟨fun free => ?_, counts n⟩, lifts, degrees⟩
    have dead : ∀ m, (s.node m).isSome → m ≠ n := by
      rintro m live rfl
      simp [free] at live
    rw [claimsOnNode_eq_zero_iff sorted]
    refine ⟨fun id e he => ?_, fun t x ht => dead _ (anchors t x ht), fun c x hc => dead _ (doors c x hc),
      fun m x hm => dead _ (screens m x hm)⟩
    simp [Edge.hasEnd, dead _ (edges id e he).2.1, dead _ (edges id e he).2.2]

theorem targetsRight_iff (s : State) : TargetsRight s ↔ TargetInv s := by
  constructor
  · intro h
    refine ⟨h.cabins, h.venues, h.screens, h.letters, fun t x ht => ?_, fun t st ht => ?_, ?_⟩
    · exact h.refs t x.refs (by simp [State.refsAt, ht])
    · obtain ⟨assigned, swept, occupied⟩ := tallies_assignedTo s t
      rw [assigned, swept, occupied]
      have figure : ∀ g, st.figure g = s.tally g (some t) := fun g =>
        h.tallies g t _ (by simp [State.figureAt, ht])
      exact ⟨figure .assigned, figure .swept, figure .occupied, h.flags t st ht⟩
    · rw [unassigned_eq_tally]
      exact h.unassigned
  · rintro ⟨cabins, venues, screens, letters, refs, tallies, unassigned⟩
    refine ⟨cabins, venues, screens, letters, fun k n hk => ?_, fun g k n hk => ?_,
      fun k st hk => (tallies k st hk).2.2.2, by rw [unassigned, unassigned_eq_tally]⟩
    · obtain ⟨x, hx, rfl⟩ := Option.map_eq_some_iff.mp hk
      exact refs k x hx
    · obtain ⟨st, hst, rfl⟩ := Option.map_eq_some_iff.mp hk
      obtain ⟨assigned, swept, occupied, _⟩ := tallies k st hst
      obtain ⟨assigned', swept', occupied'⟩ := tallies_assignedTo s k
      cases g with
      | assigned => exact assigned.trans assigned'
      | swept => exact swept.trans swept'
      | occupied => exact occupied.trans occupied'

theorem sorted_of_tables {s : State} (h : TablesWf s) : Sorted s := by
  obtain ⟨_, edges, _, targets, cabins, entries, screens⟩ := h
  exact ⟨edges.1, targets.1, cabins.1, entries.1, screens.1⟩

theorem sound_of_inv {s : State} (tables : TablesWf s) (graph : GraphInv s) (degrees : DegreeInv s)
    (targets : TargetInv s) : Sound s :=
  have sorted := sorted_of_tables tables
  ⟨sorted, (deckRight_iff sorted).mpr ⟨graph, degrees⟩, (targetsRight_iff s).mpr targets⟩

theorem Sound.inv {s : State} (h : Sound s) : GraphInv s ∧ DegreeInv s ∧ TargetInv s :=
  have ⟨graph, degrees⟩ := (deckRight_iff h.sorted).mp h.deck
  ⟨graph, degrees, (targetsRight_iff s).mp h.targets⟩

/-! ### States that show the same -/

/-- Everything that the invariants read. -/
structure Books where
  nodes : Table Node
  edges : Table Edge
  openLifts : Nat
  target : TargetTable
  cabins : Table CabinStake
  venues : Table Nat
  screens : Table ScreenStake

def State.books (s : State) : Books :=
  { nodes := s.graph.nodes, edges := s.graph.edges, openLifts := s.graph.openLifts, target := s.target
    cabins := Table.view Cabin.stake s.cabin.cabins
    venues := Table.view Entry.venue s.programme.entries
    screens := Table.view Screen.stake s.screen.screens }

/-- The claims on a node are a matter of what the records show. -/
theorem claimsOnNode_of_views {s t : State} (edges : t.graph.edges = s.graph.edges)
    (plans : Table.view Target.plan t.target.targets = Table.view Target.plan s.target.targets)
    (cabins : Table.view Cabin.stake t.cabin.cabins = Table.view Cabin.stake s.cabin.cabins)
    (screens : Table.view Screen.stake t.screen.screens = Table.view Screen.stake s.screen.screens) (n : Nat) :
    t.claimsOnNode n = s.claimsOnNode n := by
  have anchors := Table.count_of_view (fun x => decide (x.anchor = n)) plans
    fun v w e => by rw [show v.anchor = w.anchor from congrArg TargetPlan.anchor e]
  have doors := Table.count_of_view (fun x => decide (x.doorNode = n)) cabins
    fun v w e => by rw [show v.doorNode = w.doorNode from congrArg CabinStake.door e]
  have stands := Table.count_of_view (fun x => decide (x.node = n)) screens
    fun v w e => by rw [show v.node = w.node from congrArg ScreenStake.node e]
  simp only [State.claimsOnNode, State.endsAt, edges, anchors, doors, stands]

theorem DeckRight.of_views {s t : State} (h : DeckRight s) (nodes : t.graph.nodes = s.graph.nodes)
    (edges : t.graph.edges = s.graph.edges) (lifts : t.graph.openLifts = s.graph.openLifts)
    (plans : Table.view Target.plan t.target.targets = Table.view Target.plan s.target.targets)
    (cabins : Table.view Cabin.stake t.cabin.cabins = Table.view Cabin.stake s.cabin.cabins)
    (screens : Table.view Screen.stake t.screen.screens = Table.view Screen.stake s.screen.screens) :
    DeckRight t := by
  have node : ∀ n, t.node n = s.node n := fun n => by rw [State.node, nodes]; rfl
  have ends : ∀ n, t.endsAt n = s.endsAt n := fun n => by simp only [State.endsAt, edges]
  refine ⟨fun id e he => h.twoEnds id e (by rwa [State.edge, edges] at he), fun n => ?_,
    by rw [lifts, edges]; exact h.lifts, fun n => ends n ▸ h.degrees n⟩
  rw [State.nodeRight, node, ends, claimsOnNode_of_views edges plans cabins screens]
  exact h.nodes n

/-- The claims on a target are a matter of what the records show. -/
theorem claimsOnTarget_of_views {s t : State}
    (cabins : Table.view Cabin.stake t.cabin.cabins = Table.view Cabin.stake s.cabin.cabins)
    (venues : Table.view Entry.venue t.programme.entries = Table.view Entry.venue s.programme.entries)
    (screens : Table.view Screen.stake t.screen.screens = Table.view Screen.stake s.screen.screens) (k : Nat) :
    t.claimsOnTarget k = s.claimsOnTarget k := by
  have stations := Table.count_of_view (fun c => decide (k ∈ c.stations)) cabins fun v w e => by
    rw [Cabin.stations, Cabin.stations, show v.primary = w.primary from congrArg CabinStake.primary e,
      show v.alternate = w.alternate from congrArg CabinStake.alternate e]
  have named := Table.count_of_view (fun x => decide (x.venue = k)) venues fun v w e => by rw [e]
  have shown := Table.count_of_view (fun x => decide (k ∈ x.shown)) screens fun v w e => by
    rw [show v.shown = w.shown from congrArg ScreenStake.shown e]
  have overrides := Table.count_of_view (fun x => decide (x.override = some k)) screens fun v w e => by
    rw [show v.override = w.override from congrArg ScreenStake.override e]
  simp only [State.claimsOnTarget, stations, named, shown, overrides]

/-- Whether the records of cabins name what they may is a matter of what they show. -/
theorem cabinNames_of_views {s t : State} (station : ∀ k, (t.stationAt k).isSome = (s.stationAt k).isSome)
    (cabins : Table.view Cabin.stake t.cabin.cabins = Table.view Cabin.stake s.cabin.cabins)
    (h : ∀ c x, s.cabinAt c = some x → s.cabinNames x) (c : Nat) (x : Cabin) (hc : t.cabinAt c = some x) :
    t.cabinNames x := by
  obtain ⟨y, hy, same⟩ := Table.get_of_view cabins hc
  have named := h c y hy
  have primary : y.primary = x.primary := congrArg CabinStake.primary same
  have alternate : y.alternate = x.alternate := congrArg CabinStake.alternate same
  simpa only [State.cabinNames, primary, alternate, station] using named

theorem screenNames_of_views {s t : State} (station : ∀ k, (t.stationAt k).isSome = (s.stationAt k).isSome)
    (target : ∀ k, (t.targetAt k).isSome = (s.targetAt k).isSome)
    (screens : Table.view Screen.stake t.screen.screens = Table.view Screen.stake s.screen.screens)
    (h : ∀ n x, s.screenAt n = some x → s.screenNames x) (n : Nat) (x : Screen) (hn : t.screenAt n = some x) :
    t.screenNames x := by
  obtain ⟨y, hy, same⟩ := Table.get_of_view screens hn
  have named := h n y hy
  have shown : y.shown = x.shown := congrArg ScreenStake.shown same
  have override : y.override = x.override := congrArg ScreenStake.override same
  simpa only [State.screenNames, shown, override, station, target] using named

theorem venues_of_views {s t : State} (venue : ∀ k, s.isVenue k → t.isVenue k)
    (venues : Table.view Entry.venue t.programme.entries = Table.view Entry.venue s.programme.entries)
    (h : ∀ e x, s.entryAt e = some x → s.isVenue x.venue) (e : Nat) (x : Entry) (he : t.entryAt e = some x) :
    t.isVenue x.venue := by
  obtain ⟨y, hy, same⟩ := Table.get_of_view venues he
  exact same ▸ venue _ (h e y hy)

theorem isVenue_of_plans {s t : State}
    (h : Table.view Target.plan t.target.targets = Table.view Target.plan s.target.targets) (k : Nat)
    (venue : s.isVenue k) : t.isVenue k := by
  obtain ⟨v, hv, plain⟩ := venue
  obtain ⟨w, hw, same⟩ := Table.get_of_view h.symm hv
  refine ⟨w, hw, ?_⟩
  have : w.station.map Station.plan = v.station.map Station.plan := congrArg TargetPlan.station same
  simpa [plain] using this

theorem TargetsRight.of_views {s t : State} (h : TargetsRight s) (target : t.target = s.target)
    (cabins : Table.view Cabin.stake t.cabin.cabins = Table.view Cabin.stake s.cabin.cabins)
    (venues : Table.view Entry.venue t.programme.entries = Table.view Entry.venue s.programme.entries)
    (screens : Table.view Screen.stake t.screen.screens = Table.view Screen.stake s.screen.screens) :
    TargetsRight t := by
  have targetAt : ∀ k, t.targetAt k = s.targetAt k := fun k => by rw [State.targetAt, target]; rfl
  have stationAt : ∀ k, t.stationAt k = s.stationAt k := fun k => by rw [State.stationAt, targetAt]; rfl
  have place : t.effective = s.effective := effective_of_plans (by rw [target])
  refine ⟨cabinNames_of_views (fun k => by rw [stationAt]) cabins h.cabins,
    venues_of_views (isVenue_of_plans (by rw [target])) venues h.venues,
    screenNames_of_views (fun k => by rw [stationAt]) (fun k => by rw [targetAt]) screens h.screens,
    fun j k a b => ?_, fun k n => ?_, fun g k n => ?_, fun k st => ?_, ?_⟩
  · rw [stationAt, stationAt]
    exact h.letters j k a b
  · rw [State.refsAt, targetAt, claimsOnTarget_of_views cabins venues screens]
    exact h.refs k n
  · rw [State.figureAt, stationAt, tally_of_views place cabins]
    exact h.tallies g k n
  · rw [stationAt]
    exact h.flags k st
  · rw [target, tally_of_views place cabins]
    exact h.unassigned

theorem Sorted.of_views {s t : State} (h : Sorted s) (edges : t.graph.edges = s.graph.edges)
    (target : Table.wf t.target.targets = Table.wf s.target.targets)
    (cabins : Table.view Cabin.stake t.cabin.cabins = Table.view Cabin.stake s.cabin.cabins)
    (venues : Table.view Entry.venue t.programme.entries = Table.view Entry.venue s.programme.entries)
    (screens : Table.view Screen.stake t.screen.screens = Table.view Screen.stake s.screen.screens) : Sorted t :=
  ⟨edges ▸ h.edges, target ▸ h.targets, Table.wf_of_view cabins ▸ h.cabins, Table.wf_of_view venues ▸ h.entries,
    Table.wf_of_view screens ▸ h.screens⟩

/-- A state with the books of a sound one is sound. -/
theorem Sound.of_books {s t : State} (h : Sound s) (same : t.books = s.books) : Sound t := by
  simp only [State.books, Books.mk.injEq] at same
  obtain ⟨nodes, edges, lifts, target, cabins, venues, screens⟩ := same
  exact ⟨h.sorted.of_views edges (by rw [target]) cabins venues screens,
    h.deck.of_views nodes edges lifts (by rw [target]) cabins screens,
    h.targets.of_views target cabins venues screens⟩

end Sys2Proof.Machine
end

section
/-! Which operations leave everything alone that claims and counts read of a cabin, of an entry and of a screen. -/

namespace Sys2Proof.Machine

/-! ### Cabins -/

@[simp] theorem joinService_cabins (s : State) (c : Nat) : (s.joinService c).cabin.cabins = s.cabin.cabins := rfl

@[simp] theorem leaveService_cabins (s : State) (c : Nat) : (s.leaveService c).cabin.cabins = s.cabin.cabins := rfl

/-- A change of a cabin's record that its stake does not show. -/
theorem stakes_modCabin (s : State) (c : Nat) (f : Cabin → Cabin) (h : ∀ x, (f x).stake = x.stake) :
    Table.view Cabin.stake (s.modCabin c f).cabin.cabins = Table.view Cabin.stake s.cabin.cabins :=
  Table.view_modify _ _ _ _ h

@[simp] theorem stakes_raiseContent (s : State) (c : Nat) :
    Table.view Cabin.stake (s.raiseContent c).cabin.cabins = Table.view Cabin.stake s.cabin.cabins :=
  stakes_modCabin _ _ _ fun _ => by rfl

@[simp] theorem stakes_owePlate (s : State) (c : Nat) :
    Table.view Cabin.stake (s.owePlate c).cabin.cabins = Table.view Cabin.stake s.cabin.cabins := by
  simp only [State.owePlate, joinPlateQueue_keeps]
  exact stakes_modCabin _ _ _ fun _ => by rfl

@[simp] theorem stakes_placePlate (s : State) (c : Nat) :
    Table.view Cabin.stake (s.placePlate c).cabin.cabins = Table.view Cabin.stake s.cabin.cabins := by
  simp only [State.placePlate]
  repeat' split
  all_goals simp

@[simp] theorem stakes_faceChanged (s : State) (c : Nat) :
    Table.view Cabin.stake (s.faceChanged c).cabin.cabins = Table.view Cabin.stake s.cabin.cabins := by
  simp [State.faceChanged]

@[simp] theorem stakes_facesChanged (s : State) (cs : List (Nat × Cabin)) :
    Table.view Cabin.stake (s.facesChanged cs).cabin.cabins = Table.view Cabin.stake s.cabin.cabins := by
  unfold State.facesChanged
  exact foldl_keeps (fun u : State => Table.view Cabin.stake u.cabin.cabins) _ (fun u _ => stakes_faceChanged u _) _ s

@[simp] theorem stakes_revive (s : State) (c : Nat) :
    Table.view Cabin.stake (s.revive c).cabin.cabins = Table.view Cabin.stake s.cabin.cabins := by
  simp only [State.revive]
  repeat' split
  all_goals simp

@[simp] theorem stakes_surveyRevives (s : State) (i : Fin 16) (a : Nat) :
    Table.view Cabin.stake (s.surveyRevives i a).cabin.cabins = Table.view Cabin.stake s.cabin.cabins := by
  simp only [State.surveyRevives]
  split <;> simp

@[simp] theorem stakes_writeDone (s : State) (c : Nat) (g : Gen) :
    Table.view Cabin.stake (s.writeDone c g).cabin.cabins = Table.view Cabin.stake s.cabin.cabins := by
  have first := stakes_modCabin s c (fun x => { x with deliveredGen := g, retries := 0 }) fun _ => by rfl
  simp only [State.writeDone]
  split
  · exact first
  · split
    · exact (stakes_modCabin _ _ _ fun _ => by rfl).trans first
    · simpa using first

@[simp] theorem stakes_writeFailed (s : State) (c : Nat) :
    Table.view Cabin.stake (s.writeFailed c).cabin.cabins = Table.view Cabin.stake s.cabin.cabins := by
  have first := stakes_modCabin s c (fun x => { x with retries := x.retries + 1 }) fun _ => by rfl
  simp only [State.writeFailed]
  split
  · exact first
  · split
    · simpa using first
    · exact (stakes_modCabin _ _ _ fun _ => by rfl).trans first

@[simp] theorem stakes_endSurveyStep (s : State) (i : Fin 16) (a : Nat) (b : Bool) (how : SurveyEnd) :
    Table.view Cabin.stake (s.endSurveyStep i a b how).cabin.cabins = Table.view Cabin.stake s.cabin.cabins := by
  simp only [State.endSurveyStep]
  split <;> simp

@[simp] theorem stakes_holdExpires (s : State) (i : Fin 16) :
    Table.view Cabin.stake (s.holdExpires i).cabin.cabins = Table.view Cabin.stake s.cabin.cabins := by
  simp only [State.holdExpires]
  repeat' split
  all_goals simp

@[simp] theorem stakes_loses (s : State) (i : Fin 16) (b : Bool) :
    Table.view Cabin.stake (s.loses i b).cabin.cabins = Table.view Cabin.stake s.cabin.cabins := by
  simp only [State.loses]
  repeat' split
  all_goals simp

@[simp] theorem stakes_disableTrunk (s : State) (i : Fin 16) :
    Table.view Cabin.stake (s.disableTrunk i).cabin.cabins = Table.view Cabin.stake s.cabin.cabins := by
  simp only [State.disableTrunk]
  repeat' split
  all_goals simp

@[simp] theorem stakes_settlePrivacy (s : State) (c : Nat) (st : PlateState) :
    Table.view Cabin.stake (s.settlePrivacy c st).cabin.cabins = Table.view Cabin.stake s.cabin.cabins := by
  cases st with
  | current => exact stakes_modCabin _ _ _ fun _ => by rfl
  | pending => rfl
  | failed => exact stakes_owePlate s c
  | noPlate => rfl

@[simp] theorem stakes_takePrivacy (v : Privacy) (s : State) (c : Nat) (x : Cabin) :
    Table.view Cabin.stake (State.takePrivacy v s c x).cabin.cabins = Table.view Cabin.stake s.cabin.cabins := by
  simp only [State.takePrivacy]
  split
  · rfl
  · rw [stakes_settlePrivacy, stakes_raiseContent]
    exact stakes_modCabin _ _ _ fun _ => by rfl

@[simp] theorem stakes_takeServiceCall (s : State) (c : Nat) (x : Cabin) :
    Table.view Cabin.stake (s.takeServiceCall c x).cabin.cabins = Table.view Cabin.stake s.cabin.cabins := by
  simp only [State.takeServiceCall]
  split
  · rfl
  · rw [joinService_cabins]
    exact stakes_modCabin _ _ _ fun _ => by rfl

@[simp] theorem stakes_takeToolWrite (s : State) (c : Nat) (x : Cabin) :
    Table.view Cabin.stake (s.takeToolWrite c x).cabin.cabins = Table.view Cabin.stake s.cabin.cabins := by
  rw [State.takeToolWrite]
  cases x.plateState with
  | noPlate => exact stakes_raiseContent s c
  | pending => exact (stakes_modCabin _ _ _ fun _ => by rfl).trans (stakes_raiseContent s c)
  | current => exact (stakes_owePlate _ c).trans (stakes_raiseContent s c)
  | failed => exact (stakes_owePlate _ c).trans (stakes_raiseContent s c)

/-- What the refilled plate queues leave alone. -/
@[simp] theorem refillPlateQueues_keeps (s : State) :
    s.refillPlateQueues.graph = s.graph ∧ s.refillPlateQueues.route = s.route ∧
    s.refillPlateQueues.target = s.target ∧ s.refillPlateQueues.programme = s.programme ∧
    s.refillPlateQueues.screen = s.screen ∧ s.refillPlateQueues.muster = s.muster ∧
    s.refillPlateQueues.port = s.port := by
  unfold State.refillPlateQueues
  and_intros <;> refine foldl_keeps _ _ (fun u i => foldl_keeps _ _ (fun v r => ?_) _ u) _ s
  all_goals simp

@[simp] theorem stakes_refillPlateQueues (s : State) :
    Table.view Cabin.stake s.refillPlateQueues.cabin.cabins = Table.view Cabin.stake s.cabin.cabins := by
  unfold State.refillPlateQueues
  refine foldl_keeps (fun u : State => Table.view Cabin.stake u.cabin.cabins) _ (fun u i => ?_) _ s
  exact foldl_keeps (fun u : State => Table.view Cabin.stake u.cabin.cabins) _ (fun v _ => stakes_owePlate v _) _ u

/-! ### Screens -/

@[simp] theorem stake_modSlot (x : Screen) (k : SlotKind) (f : Slot → Slot) : (x.modSlot k f).stake = x.stake := by
  cases k <;> rfl

@[simp] theorem stake_mapSlots (x : Screen) (f : Slot → Slot) : (x.mapSlots f).stake = x.stake := rfl

/-- A change of a screen's record that its stake does not show. -/
theorem stakes_modScreen (s : State) (n : Nat) (f : Screen → Screen) (h : ∀ x, (f x).stake = x.stake) :
    Table.view Screen.stake (s.modScreen n f).screen.screens = Table.view Screen.stake s.screen.screens :=
  Table.view_modify _ _ _ _ h

theorem stakes_modScreensOn (s : State) (l : Fin 4) (f : Screen → Screen) (h : ∀ x, (f x).stake = x.stake) :
    Table.view Screen.stake (s.modScreensOn l f).screen.screens = Table.view Screen.stake s.screen.screens := by
  simp only [State.modScreensOn, Table.view, List.map_map]
  refine List.map_congr_left fun r _ => ?_
  simp only [Function.comp]
  split <;> simp [h]

@[simp] theorem stakes_touchSlot (s : State) (r : SlotRef) (b : Bool) :
    Table.view Screen.stake (s.touchSlot r b).screen.screens = Table.view Screen.stake s.screen.screens := by
  rw [State.touchSlot, queueIfOwed_screens]
  split
  · exact stakes_modScreen _ _ _ fun x => stake_modSlot x r.kind _
  · rfl

@[simp] theorem stakes_markSlot (s : State) (r : SlotRef) :
    Table.view Screen.stake (s.markSlot r).screen.screens = Table.view Screen.stake s.screen.screens := by
  rw [State.markSlot]
  split
  · rfl
  · exact stakes_touchSlot s r _

@[simp] theorem stakes_mark (s : State) (p : Causes) :
    Table.view Screen.stake (s.mark p).screen.screens = Table.view Screen.stake s.screen.screens :=
  foldl_keeps (fun u : State => Table.view Screen.stake u.screen.screens) _ stakes_markSlot _ s

@[simp] theorem stakes_touchAmended (s : State) (n : Nat) (old new : Screen) :
    Table.view Screen.stake (s.touchAmended n old new).screen.screens = Table.view Screen.stake s.screen.screens :=
  foldl_keeps (fun u : State => Table.view Screen.stake u.screen.screens) _ (fun u _ => stakes_touchSlot u _ _) _ s

@[simp] theorem stakes_sendPacket (s : State) (l : Fin 4) (n : Nat) (p : Packet) :
    Table.view Screen.stake (s.sendPacket l n p).screen.screens = Table.view Screen.stake s.screen.screens :=
  stakes_modScreen _ _ _ fun _ => by rfl

@[simp] theorem stakes_sendSlot (s : State) (l : Fin 4) (r : SlotRef) :
    Table.view Screen.stake (s.sendSlot l r).screen.screens = Table.view Screen.stake s.screen.screens := by
  simp only [State.sendSlot]
  split
  · rfl
  · split
    · rfl
    · rw [stakes_sendPacket]
      exact stakes_modScreen _ _ _ fun x => stake_modSlot x r.kind _

@[simp] theorem stakes_sendNext (s : State) (l : Fin 4) :
    Table.view Screen.stake (s.sendNext l).screen.screens = Table.view Screen.stake s.screen.screens := by
  simp only [State.sendNext]
  repeat' split
  all_goals simp

@[simp] theorem stakes_runLink (s : State) (l : Fin 4) :
    Table.view Screen.stake (s.runLink l).screen.screens = Table.view Screen.stake s.screen.screens := by
  simp only [State.runLink]
  repeat' split
  all_goals simp

@[simp] theorem stakes_beginPeriod (s : State) (l : Fin 4) :
    Table.view Screen.stake (s.beginPeriod l).screen.screens = Table.view Screen.stake s.screen.screens := by
  simp [State.beginPeriod]

theorem stake_forget (period : Word16) (x : Screen) : (x.forget period).stake = x.stake := by
  simp only [Screen.forget]
  split <;> rfl

@[simp] theorem stakes_nextPeriod (s : State) (l : Fin 4) :
    Table.view Screen.stake (s.nextPeriod l).screen.screens = Table.view Screen.stake s.screen.screens := by
  rw [State.nextPeriod, stakes_beginPeriod, stakes_modScreensOn _ _ _ (stake_forget _), modLink_screens]

@[simp] theorem stakes_enableLink (s : State) (l : Fin 4) :
    Table.view Screen.stake (s.enableLink l).screen.screens = Table.view Screen.stake s.screen.screens := by
  simp [State.enableLink]

@[simp] theorem stakes_disableLink (s : State) (l : Fin 4) :
    Table.view Screen.stake (s.disableLink l).screen.screens = Table.view Screen.stake s.screen.screens := by
  rw [State.disableLink, stakes_modScreensOn _ _ _ fun _ => by rfl, modLink_screens]

@[simp] theorem stakes_answered (s : State) (n : Nat) :
    Table.view Screen.stake (s.answered n).screen.screens = Table.view Screen.stake s.screen.screens :=
  stakes_modScreen _ _ _ fun _ => by rfl

@[simp] theorem stakes_descriptorFlag (s : State) (n : Nat) (b : Byte) :
    Table.view Screen.stake (s.descriptorFlag n b).screen.screens = Table.view Screen.stake s.screen.screens := by
  rw [State.descriptorFlag]
  split
  · rw [modLink_screens]
    exact stakes_modScreen _ _ _ fun _ => by rfl
  · rfl

@[simp] theorem stakes_rejoin (s : State) (n : Nat) (p : Packet) :
    Table.view Screen.stake (s.rejoin n p).screen.screens = Table.view Screen.stake s.screen.screens := by
  cases p <;> simp [State.rejoin]

@[simp] theorem stakes_takeAccept (s : State) (n : Nat) (p : Packet) :
    Table.view Screen.stake (s.takeAccept n p).screen.screens = Table.view Screen.stake s.screen.screens := by
  cases p with
  | slot k g _ _ =>
    rw [State.takeAccept, queueIfOwed_screens]
    exact stakes_modScreen _ _ _ fun x => stake_modSlot x k _
  | discover => rfl
  | keepalive => rfl

@[simp] theorem stakes_loseScreen (s : State) (n : Nat) :
    Table.view Screen.stake (s.loseScreen n).screen.screens = Table.view Screen.stake s.screen.screens := by
  rw [State.loseScreen, raiseNotice_screen, modLink_screens]
  exact stakes_modScreen _ _ _ fun _ => by rfl

@[simp] theorem stakes_takeMiss (s : State) (n : Nat) (p : Packet) :
    Table.view Screen.stake (s.takeMiss n p).screen.screens = Table.view Screen.stake s.screen.screens := by
  simp only [State.takeMiss]
  repeat' split
  · exact stakes_rejoin s n p
  · exact (stakes_modScreen _ _ _ fun _ => by rfl).trans (stakes_rejoin s n p)
  · exact (stakes_loseScreen _ n).trans (stakes_rejoin s n p)
  · exact stakes_rejoin s n p

@[simp] theorem stakes_takeDescriptor (s : State) (n : Nat) (d : Descriptor) :
    Table.view Screen.stake (s.takeDescriptor n d).screen.screens = Table.view Screen.stake s.screen.screens := by
  simp only [State.takeDescriptor, slotOrder, List.foldl_cons, List.foldl_nil, raiseNotice_screen, queueIfOwed_screens]
  exact stakes_modScreen _ _ _ fun _ => by rfl

end Sys2Proof.Machine
end

section
/-! What the operations on nodes and targets do to what is recorded there: reference counts, figures of the
stations, over flags, the unassigned figure (R5, R50, R52, R53). -/

namespace Sys2Proof.Machine

/-! ### Nodes -/

theorem node_modNode (s : State) (m n : Nat) (f : Node → Node) :
    (s.modNode m f).node n = (s.node n).map fun x => if n = m then f x else x := by
  rw [State.node, State.modNode, Table.get_modify]
  split
  · rfl
  · simp [State.node]

theorem node_claimNode (s : State) (m n : Nat) :
    (s.claimNode m).node n = (s.node n).map fun x => { x with refs := x.refs + if m = n then 1 else 0 } := by
  rw [State.claimNode, node_modNode]
  congr 1
  funext x
  by_cases e : n = m
  · simp [e]
  · simp [e, Ne.symm e]

theorem node_releaseNode (s : State) (m n : Nat) :
    (s.releaseNode m).node n = (s.node n).map fun x => { x with refs := x.refs - if m = n then 1 else 0 } := by
  rw [State.releaseNode, node_modNode]
  congr 1
  funext x
  by_cases e : n = m
  · simp [e]
  · simp [e, Ne.symm e]

@[simp] theorem claimNode_edges (s : State) (n : Nat) : (s.claimNode n).graph.edges = s.graph.edges := rfl
@[simp] theorem claimNode_openLifts (s : State) (n : Nat) : (s.claimNode n).graph.openLifts = s.graph.openLifts := rfl
@[simp] theorem releaseNode_edges (s : State) (n : Nat) : (s.releaseNode n).graph.edges = s.graph.edges := rfl
@[simp] theorem releaseNode_openLifts (s : State) (n : Nat) :
    (s.releaseNode n).graph.openLifts = s.graph.openLifts := rfl

/-! ### One target -/

theorem targetAt_modTarget (s : State) (j k : Nat) (f : Target → Target) :
    (s.modTarget j f).targetAt k = (s.targetAt k).map fun x => if k = j then f x else x := by
  rw [State.targetAt, State.modTarget, Table.get_modify]
  split
  · rfl
  · simp [State.targetAt]

theorem stationAt_modTarget (s : State) (j k : Nat) (f : Target → Target) (h : ∀ x, (f x).station = x.station) :
    (s.modTarget j f).stationAt k = s.stationAt k := by
  rw [State.stationAt, targetAt_modTarget, State.stationAt]
  cases s.targetAt k with
  | none => rfl
  | some x =>
    simp only [Option.map_some, Option.bind_some]
    split <;> simp [h]

theorem stationAt_modStation (s : State) (j k : Nat) (f : Station → Station) :
    (s.modStation j f).stationAt k = (s.stationAt k).map fun st => if k = j then f st else st := by
  rw [State.stationAt, State.modStation, targetAt_modTarget, State.stationAt]
  cases s.targetAt k with
  | none => rfl
  | some x =>
    simp only [Option.map_some, Option.bind_some]
    split <;> simp

theorem refsAt_modStation (s : State) (j k : Nat) (f : Station → Station) :
    (s.modStation j f).refsAt k = s.refsAt k := by
  rw [State.refsAt, State.modStation, targetAt_modTarget, State.refsAt, Option.map_map]
  congr 1
  funext x
  simp only [Function.comp]
  split <;> rfl

theorem plans_modTarget (s : State) (j : Nat) (f : Target → Target) (h : ∀ x, (f x).plan = x.plan) :
    Table.view Target.plan (s.modTarget j f).target.targets = Table.view Target.plan s.target.targets :=
  Table.view_modify _ _ _ _ h

theorem plans_modStation (s : State) (j : Nat) (f : Station → Station) (h : ∀ st, (f st).plan = st.plan) :
    Table.view Target.plan (s.modStation j f).target.targets = Table.view Target.plan s.target.targets := by
  refine plans_modTarget s j _ fun x => ?_
  simp only [Target.plan, Option.map_map]
  congr 2
  funext st
  exact h st

/-! ### Claims on targets (R50) -/

@[simp] theorem plans_claimTargets (s : State) (ts : List Nat) :
    Table.view Target.plan (s.claimTargets ts).target.targets = Table.view Target.plan s.target.targets := by
  unfold State.claimTargets
  exact foldl_keeps (fun u : State => Table.view Target.plan u.target.targets) _
    (fun u k => plans_modTarget u k _ fun _ => by rfl) _ s

@[simp] theorem plans_releaseTargets (s : State) (ts : List Nat) :
    Table.view Target.plan (s.releaseTargets ts).target.targets = Table.view Target.plan s.target.targets := by
  unfold State.releaseTargets
  exact foldl_keeps (fun u : State => Table.view Target.plan u.target.targets) _
    (fun u k => plans_modTarget u k _ fun _ => by rfl) _ s

@[simp] theorem stationAt_claimTargets (s : State) (ts : List Nat) (k : Nat) :
    (s.claimTargets ts).stationAt k = s.stationAt k := by
  unfold State.claimTargets
  exact foldl_keeps (fun u : State => u.stationAt k) _ (fun u j => stationAt_modTarget u j k _ fun _ => by rfl) _ s

@[simp] theorem stationAt_releaseTargets (s : State) (ts : List Nat) (k : Nat) :
    (s.releaseTargets ts).stationAt k = s.stationAt k := by
  unfold State.releaseTargets
  exact foldl_keeps (fun u : State => u.stationAt k) _ (fun u j => stationAt_modTarget u j k _ fun _ => by rfl) _ s

@[simp] theorem unassigned_claimTargets (s : State) (ts : List Nat) :
    (s.claimTargets ts).target.unassigned = s.target.unassigned := by
  unfold State.claimTargets
  exact foldl_keeps (fun u : State => u.target.unassigned) _ (fun _ _ => by rfl) _ s

@[simp] theorem unassigned_releaseTargets (s : State) (ts : List Nat) :
    (s.releaseTargets ts).target.unassigned = s.target.unassigned := by
  unfold State.releaseTargets
  exact foldl_keeps (fun u : State => u.target.unassigned) _ (fun _ _ => by rfl) _ s

theorem refsAt_claimTarget (s : State) (j k : Nat) :
    (s.claimTarget j).refsAt k = (s.refsAt k).map (· + if j = k then 1 else 0) := by
  rw [State.refsAt, State.claimTarget, targetAt_modTarget, State.refsAt, Option.map_map, Option.map_map]
  congr 1
  funext x
  by_cases e : k = j
  · simp [e]
  · simp [e, Ne.symm e]

theorem refsAt_releaseTarget (s : State) (j k : Nat) :
    (s.releaseTarget j).refsAt k = (s.refsAt k).map (· - if j = k then 1 else 0) := by
  rw [State.refsAt, State.releaseTarget, targetAt_modTarget, State.refsAt, Option.map_map, Option.map_map]
  congr 1
  funext x
  by_cases e : k = j
  · simp [e]
  · simp [e, Ne.symm e]

theorem refsAt_claimTargets (s : State) (ts : List Nat) (k : Nat) :
    (s.claimTargets ts).refsAt k = (s.refsAt k).map (· + ts.count k) := by
  induction ts generalizing s with
  | nil => cases h : s.refsAt k <;> simp [State.claimTargets, h]
  | cons j ts ih =>
    have step : s.claimTargets (j :: ts) = (s.claimTarget j).claimTargets ts := rfl
    rw [step, ih, refsAt_claimTarget, Option.map_map]
    congr 1
    funext n
    simp only [Function.comp, List.count_cons, beq_iff_eq]
    omega

theorem refsAt_releaseTargets (s : State) (ts : List Nat) (k : Nat) :
    (s.releaseTargets ts).refsAt k = (s.refsAt k).map (· - ts.count k) := by
  induction ts generalizing s with
  | nil => cases h : s.refsAt k <;> simp [State.releaseTargets, h]
  | cons j ts ih =>
    have step : s.releaseTargets (j :: ts) = (s.releaseTarget j).releaseTargets ts := rfl
    rw [step, ih, refsAt_releaseTarget, Option.map_map]
    congr 1
    funext n
    simp only [Function.comp, List.count_cons, beq_iff_eq]
    omega

/-! ### Contributions (R52) -/

@[simp] theorem plans_contribute (s : State) (c : Cabin) :
    Table.view Target.plan (s.contribute c).target.targets = Table.view Target.plan s.target.targets := by
  rw [State.contribute]
  split
  · exact plans_modStation _ _ _ fun _ => by rfl
  · rfl

@[simp] theorem plans_withdraw (s : State) (c : Cabin) :
    Table.view Target.plan (s.withdraw c).target.targets = Table.view Target.plan s.target.targets := by
  rw [State.withdraw]
  split
  · exact plans_modStation _ _ _ fun _ => by rfl
  · rfl

@[simp] theorem refsAt_contribute (s : State) (c : Cabin) (k : Nat) : (s.contribute c).refsAt k = s.refsAt k := by
  rw [State.contribute]
  split
  · exact refsAt_modStation _ _ _ _
  · rfl

@[simp] theorem refsAt_withdraw (s : State) (c : Cabin) (k : Nat) : (s.withdraw c).refsAt k = s.refsAt k := by
  rw [State.withdraw]
  split
  · exact refsAt_modStation _ _ _ _
  · rfl

/-- A station that has what a cabin gives. -/
theorem stationAt_contribute (s : State) (c : Cabin) (k : Nat) :
    (s.contribute c).stationAt k =
      (s.stationAt k).map fun st => if s.effective c = some k then st.withCabin c else st := by
  rw [State.contribute]
  split
  · rename_i j place
    rw [stationAt_modStation]
    simp only [place, Option.some.injEq, eq_comm]
  · rename_i place
    simp [place]
    rfl

theorem stationAt_withdraw (s : State) (c : Cabin) (k : Nat) :
    (s.withdraw c).stationAt k =
      (s.stationAt k).map fun st => if s.effective c = some k then st.withoutCabin c else st := by
  rw [State.withdraw]
  split
  · rename_i j place
    rw [stationAt_modStation]
    simp only [place, Option.some.injEq, eq_comm]
  · rename_i place
    simp [place]
    rfl

theorem figureAt_contribute (s : State) (c : Cabin) (g : Figure) (k : Nat) :
    (s.contribute c).figureAt g k = (s.figureAt g k).map (· + if s.effective c = some k then c.figure g else 0) := by
  rw [State.figureAt, stationAt_contribute, State.figureAt, Option.map_map, Option.map_map]
  congr 1
  funext st
  simp only [Function.comp]
  split
  · cases g <;> rfl
  · rfl

theorem figureAt_withdraw (s : State) (c : Cabin) (g : Figure) (k : Nat) :
    (s.withdraw c).figureAt g k = (s.figureAt g k).map (· - if s.effective c = some k then c.figure g else 0) := by
  rw [State.figureAt, stationAt_withdraw, State.figureAt, Option.map_map, Option.map_map]
  congr 1
  funext st
  simp only [Function.comp]
  split
  · cases g <;> rfl
  · rfl

/-- The over flag that a station shows now. -/
def State.flagAt (s : State) (k : Nat) : Option Bool := (s.stationAt k).map (·.overFlag)

@[simp] theorem flagAt_contribute (s : State) (c : Cabin) (k : Nat) : (s.contribute c).flagAt k = s.flagAt k := by
  rw [State.flagAt, stationAt_contribute, State.flagAt, Option.map_map]
  congr 1
  funext st
  simp only [Function.comp]
  split <;> rfl

@[simp] theorem flagAt_withdraw (s : State) (c : Cabin) (k : Nat) : (s.withdraw c).flagAt k = s.flagAt k := by
  rw [State.flagAt, stationAt_withdraw, State.flagAt, Option.map_map]
  congr 1
  funext st
  simp only [Function.comp]
  split <;> rfl

theorem unassigned_contribute (s : State) (c : Cabin) :
    (s.contribute c).target.unassigned = s.target.unassigned + if s.effective c = none then 1 else 0 := by
  rw [State.contribute]
  split <;> rename_i place <;> simp [place] <;> rfl

theorem unassigned_withdraw (s : State) (c : Cabin) :
    (s.withdraw c).target.unassigned = s.target.unassigned - if s.effective c = none then 1 else 0 := by
  rw [State.withdraw]
  split <;> rename_i place <;> simp [place] <;> rfl

@[simp] theorem plans_contributeAll (s : State) (cs : List Cabin) :
    Table.view Target.plan (s.contributeAll cs).target.targets = Table.view Target.plan s.target.targets := by
  unfold State.contributeAll
  exact foldl_keeps (fun u : State => Table.view Target.plan u.target.targets) _ plans_contribute _ s

@[simp] theorem plans_withdrawAll (s : State) (cs : List Cabin) :
    Table.view Target.plan (s.withdrawAll cs).target.targets = Table.view Target.plan s.target.targets := by
  unfold State.withdrawAll
  exact foldl_keeps (fun u : State => Table.view Target.plan u.target.targets) _ plans_withdraw _ s

@[simp] theorem refsAt_contributeAll (s : State) (cs : List Cabin) (k : Nat) :
    (s.contributeAll cs).refsAt k = s.refsAt k := by
  unfold State.contributeAll
  exact foldl_keeps (fun u : State => u.refsAt k) _ (fun u c => refsAt_contribute u c k) _ s

@[simp] theorem refsAt_withdrawAll (s : State) (cs : List Cabin) (k : Nat) :
    (s.withdrawAll cs).refsAt k = s.refsAt k := by
  unfold State.withdrawAll
  exact foldl_keeps (fun u : State => u.refsAt k) _ (fun u c => refsAt_withdraw u c k) _ s

@[simp] theorem flagAt_contributeAll (s : State) (cs : List Cabin) (k : Nat) :
    (s.contributeAll cs).flagAt k = s.flagAt k := by
  unfold State.contributeAll
  exact foldl_keeps (fun u : State => u.flagAt k) _ (fun u c => flagAt_contribute u c k) _ s

@[simp] theorem flagAt_withdrawAll (s : State) (cs : List Cabin) (k : Nat) :
    (s.withdrawAll cs).flagAt k = s.flagAt k := by
  unfold State.withdrawAll
  exact foldl_keeps (fun u : State => u.flagAt k) _ (fun u c => flagAt_withdraw u c k) _ s

/-- What a list of cabins gives to the figures of the stations and to the unassigned figure: contributions do not
move the effective stations they go to. -/
theorem figures_contributeAll (s : State) (cs : List Cabin) :
    (∀ g k, (s.contributeAll cs).figureAt g k = (s.figureAt g k).map (· + share s.effective (some k) g cs)) ∧
    (s.contributeAll cs).target.unassigned = s.target.unassigned + share s.effective none .assigned cs := by
  induction cs generalizing s with
  | nil => exact ⟨fun g k => by cases h : s.figureAt g k <;> simp [State.contributeAll, h], rfl⟩
  | cons c cs ih =>
    have step : s.contributeAll (c :: cs) = (s.contribute c).contributeAll cs := rfl
    obtain ⟨figures, unassigned⟩ := ih (s.contribute c)
    rw [step]
    refine ⟨fun g k => ?_, ?_⟩
    · rw [figures, figureAt_contribute, effective_of_plans (plans_contribute s c), Option.map_map]
      congr 1
      funext n
      simp only [Function.comp, share_cons]
      omega
    · rw [unassigned, unassigned_contribute, effective_of_plans (plans_contribute s c), share_cons]
      simp only [Cabin.figure]
      omega

theorem figures_withdrawAll (s : State) (cs : List Cabin) :
    (∀ g k, (s.withdrawAll cs).figureAt g k = (s.figureAt g k).map (· - share s.effective (some k) g cs)) ∧
    (s.withdrawAll cs).target.unassigned = s.target.unassigned - share s.effective none .assigned cs := by
  induction cs generalizing s with
  | nil => exact ⟨fun g k => by cases h : s.figureAt g k <;> simp [State.withdrawAll, h], rfl⟩
  | cons c cs ih =>
    have step : s.withdrawAll (c :: cs) = (s.withdraw c).withdrawAll cs := rfl
    obtain ⟨figures, unassigned⟩ := ih (s.withdraw c)
    rw [step]
    refine ⟨fun g k => ?_, ?_⟩
    · rw [figures, figureAt_withdraw, effective_of_plans (plans_withdraw s c), Option.map_map]
      congr 1
      funext n
      simp only [Function.comp, share_cons]
      omega
    · rw [unassigned, unassigned_withdraw, effective_of_plans (plans_withdraw s c), share_cons]
      simp only [Cabin.figure]
      omega

/-! ### Over flags (R53) -/

/-- Every over flag is what the occupied berths and the capacity make it. -/
def State.flagsRight (s : State) : Prop := ∀ k st, s.stationAt k = some st → st.overFlag = st.isOver

/-- The judged stations, one after another. -/
def State.judge (s : State) (ks : List Nat) : State :=
  ks.foldl (fun s t => s.modStation t fun st => { st with overFlag := st.isOver }) s

theorem stationAt_judge (s : State) (ks : List Nat) (k : Nat) :
    (s.judge ks).stationAt k =
      (s.stationAt k).map fun st => if k ∈ ks then { st with overFlag := st.isOver } else st := by
  induction ks generalizing s with
  | nil => simp [State.judge]
  | cons j ks ih =>
    have step : s.judge (j :: ks) = (s.modStation j fun st => { st with overFlag := st.isOver }).judge ks := rfl
    rw [step, ih, stationAt_modStation, Option.map_map]
    congr 1
    funext st
    by_cases e : k = j
    · subst e
      simp only [Function.comp, if_true, List.mem_cons, true_or]
      split <;> rfl
    · simp [e]

theorem judgeOver_target (s before : State) : (s.judgeOver before).target = (s.judge (s.toJudge before)).target := by
  rw [State.judgeOver]
  split <;> rfl

theorem stationAt_judgeOver (s before : State) (k : Nat) :
    (s.judgeOver before).stationAt k = (s.stationAt k).map fun st =>
      if k ∈ s.toJudge before then { st with overFlag := st.isOver } else st := by
  rw [← stationAt_judge, State.stationAt, State.stationAt, State.targetAt, State.targetAt, judgeOver_target]

@[simp] theorem plans_judgeOver (s before : State) :
    Table.view Target.plan (s.judgeOver before).target.targets = Table.view Target.plan s.target.targets := by
  rw [judgeOver_target, State.judge]
  exact foldl_keeps (fun u : State => Table.view Target.plan u.target.targets) _
    (fun u k => plans_modStation u k _ fun _ => by rfl) _ s

@[simp] theorem refsAt_judgeOver (s before : State) (k : Nat) : (s.judgeOver before).refsAt k = s.refsAt k := by
  rw [State.refsAt, State.targetAt, judgeOver_target, State.judge]
  exact foldl_keeps (fun u : State => u.refsAt k) _ (fun u j => refsAt_modStation u j k _) _ s

@[simp] theorem figureAt_judgeOver (s before : State) (g : Figure) (k : Nat) :
    (s.judgeOver before).figureAt g k = s.figureAt g k := by
  rw [State.figureAt, stationAt_judgeOver, State.figureAt, Option.map_map]
  congr 1
  funext st
  simp only [Function.comp]
  split
  · cases g <;> rfl
  · rfl

@[simp] theorem unassigned_judgeOver (s before : State) :
    (s.judgeOver before).target.unassigned = s.target.unassigned := by
  rw [judgeOver_target, State.judge]
  exact foldl_keeps (fun u : State => u.target.unassigned) _ (fun _ _ => by rfl) _ s

/-- A station whose figures or capacity changed is judged. -/
theorem mem_toJudge {s before : State} {k : Nat} {st : Station} (h : s.stationAt k = some st)
    (differs : s.berthsAndCapacity k ≠ before.berthsAndCapacity k) : k ∈ s.toJudge before := by
  obtain ⟨x, hx, _⟩ := Option.bind_eq_some_iff.mp h
  rw [State.toJudge, List.mem_filter]
  exact ⟨List.mem_map_of_mem (f := (·.1)) (Table.mem_of_get _ _ _ hx), by simpa using differs⟩

/-- Judging sets every flag right, if the flags were right before and no flag has moved since. -/
theorem flagsRight_judgeOver {s before : State} (h : before.flagsRight) (same : ∀ k, s.flagAt k = before.flagAt k) :
    (s.judgeOver before).flagsRight := by
  intro k st hk
  rw [stationAt_judgeOver, Option.map_eq_some_iff] at hk
  obtain ⟨a, ha, rfl⟩ := hk
  split
  · rfl
  · rename_i unjudged
    have kept : s.berthsAndCapacity k = before.berthsAndCapacity k :=
      not_not.mp fun differs => unjudged (mem_toJudge ha differs)
    have flags := same k
    simp only [State.flagAt, State.berthsAndCapacity, ha, Option.map_some] at flags kept
    cases hb : before.stationAt k with
    | none => simp [hb] at flags
    | some b =>
      simp only [hb, Option.map_some, Option.some.injEq, Prod.mk.injEq] at flags kept
      rw [flags, h k b hb, Station.isOver, Station.isOver, kept.1, kept.2]

end Sys2Proof.Machine
end

section
/-! What follows from the change of one record, of a cabin, an entry, a screen or a target: if the recorded counts
and figures follow the claims and shares that the old record gives back and the new one takes, a sound state stays
sound (R4, R50, R52, R53). -/

namespace Sys2Proof

namespace Table

variable {α : Type}

/-- One table is another with the record of one slot, or none, in the place of another, or none, as every sum over
the live records sees it. -/
def Replaces (t u : Table α) (old new : Option α) : Prop :=
  ∀ f : α → Nat, total f u + old.elim 0 f = total f t + new.elim 0 f

theorem replaces_put (t : Table α) (k : Nat) (v : α) (h : wf t = true) :
    Replaces t (put t k v) (get t k) (some v) := fun f => total_put f t k v h

theorem replaces_del (t : Table α) (k : Nat) (h : wf t = true) : Replaces t (del t k) (get t k) none :=
  fun f => total_del f t k h

theorem replaces_modify (t : Table α) (k : Nat) (g : α → α) (h : wf t = true) :
    Replaces t (modify t k g) (get t k) ((get t k).map g) := by
  intro f
  rw [total_modify f g t k h]
  cases get t k <;> rfl

theorem Replaces.count {t u : Table α} {old new : Option α} (h : Replaces t u old new) (p : α → Bool) :
    count u p + old.elim 0 (fun v => if p v then 1 else 0) =
      count t p + new.elim 0 (fun v => if p v then 1 else 0) := by
  rw [count_eq_total, count_eq_total]
  exact h _

theorem elim_le_total (f : α → Nat) (t : Table α) (k : Nat) (h : wf t = true) :
    (get t k).elim 0 f ≤ total f t := by
  have := total_del f t k h
  omega

end Table

namespace Machine

/-! ### Counts that follow their claims -/

/-- A recorded count gives back some claims and takes on others, if it has those that it gives back. -/
structure Moves (before after : Option Nat) (lost won : Nat) : Prop where
  live : after.isSome = before.isSome
  follows : ∀ n m, before = some n → after = some m → lost ≤ n → m + lost = n + won

namespace Moves

theorem same (r : Option Nat) (d : Nat) : Moves r r d d :=
  ⟨rfl, fun n m hn hm _ => by rw [hn, Option.some.injEq] at hm; omega⟩

theorem add (r : Option Nat) (won : Nat) : Moves r (r.map (· + won)) 0 won :=
  ⟨by simp, fun n m hn hm _ => by subst hn; simpa using hm.symm⟩

theorem sub (r : Option Nat) (lost : Nat) : Moves r (r.map (· - lost)) lost 0 := by
  refine ⟨by simp, fun n m hn hm le => ?_⟩
  subst hn
  simp only [Option.map_some, Option.some.injEq] at hm
  omega

theorem trans {r r' r'' : Option Nat} {lost won lost' won' : Nat} (first : Moves r r' lost won)
    (next : Moves r' r'' lost' won') : Moves r r'' (lost + lost') (won + won') := by
  refine ⟨next.live.trans first.live, fun n m hn hm le => ?_⟩
  obtain ⟨k, hk⟩ := Option.isSome_iff_exists.mp (first.live.trans (by rw [hn]; rfl))
  have one := first.follows n k hn hk (by omega)
  have two := next.follows k m hk hm (by omega)
  omega

/-- The same claims may be given back and taken again. -/
theorem widen {r r' : Option Nat} {lost won lost' won' : Nat} (h : Moves r r' lost won) (less : lost ≤ lost')
    (as : lost' + won = lost + won') : Moves r r' lost' won' := by
  refine ⟨h.live, fun n m hn hm le => ?_⟩
  have := h.follows n m hn hm (by omega)
  omega

/-- A count that was right stays right. -/
theorem right {r r' : Option Nat} {lost won c c' : Nat} (h : Moves r r' lost won) (was : ∀ n, r = some n → n = c)
    (made : c' + lost = c + won) (bound : lost ≤ c) : ∀ m, r' = some m → m = c' := by
  intro m hm
  obtain ⟨n, hn⟩ := Option.isSome_iff_exists.mp (h.live.symm.trans (by rw [hm]; rfl))
  have eq := was n hn
  have moved := h.follows n m hn hm (by omega)
  omega

end Moves

/-! ### The deck graph, its edges left alone -/

def State.nodeRefs (s : State) (n : Nat) : Option Nat := (s.node n).map (·.refs)

def State.nodeDegree (s : State) (n : Nat) : Option Nat := (s.node n).map (·.degree)

theorem nodeRight_iff (s : State) (n : Nat) : s.nodeRight n ↔
    (s.nodeRefs n = none → s.claimsOnNode n = 0) ∧ (∀ m, s.nodeDegree n = some m → m = s.endsAt n) ∧
      ∀ m, s.nodeRefs n = some m → m = s.claimsOnNode n := by
  rw [State.nodeRight, State.nodeRefs, State.nodeDegree]
  cases s.node n with
  | none => simp
  | some x => simp

theorem nodeRefs_claimNode (s : State) (m n : Nat) :
    (s.claimNode m).nodeRefs n = (s.nodeRefs n).map (· + if m = n then 1 else 0) := by
  rw [State.nodeRefs, node_claimNode, State.nodeRefs, Option.map_map, Option.map_map]
  rfl

theorem nodeRefs_releaseNode (s : State) (m n : Nat) :
    (s.releaseNode m).nodeRefs n = (s.nodeRefs n).map (· - if m = n then 1 else 0) := by
  rw [State.nodeRefs, node_releaseNode, State.nodeRefs, Option.map_map, Option.map_map]
  rfl

@[simp] theorem nodeDegree_claimNode (s : State) (m n : Nat) : (s.claimNode m).nodeDegree n = s.nodeDegree n := by
  rw [State.nodeDegree, node_claimNode, State.nodeDegree, Option.map_map]
  rfl

@[simp] theorem nodeDegree_releaseNode (s : State) (m n : Nat) :
    (s.releaseNode m).nodeDegree n = s.nodeDegree n := by
  rw [State.nodeDegree, node_releaseNode, State.nodeDegree, Option.map_map]
  rfl

/-- Claims other than edge ends come and go, and the reference counts follow. -/
theorem DeckRight.refsMoved {s t : State} (h : DeckRight s) (edges : t.graph.edges = s.graph.edges)
    (lifts : t.graph.openLifts = s.graph.openLifts) (degrees : ∀ n, t.nodeDegree n = s.nodeDegree n)
    (lost won : Nat → Nat) (moves : ∀ n, Moves (s.nodeRefs n) (t.nodeRefs n) (lost n) (won n))
    (claims : ∀ n, t.claimsOnNode n + lost n = s.claimsOnNode n + won n)
    (bound : ∀ n, lost n ≤ s.claimsOnNode n) (live : ∀ n, s.node n = none → won n = 0) : DeckRight t := by
  have ends : ∀ n, t.endsAt n = s.endsAt n := fun n => by simp only [State.endsAt, edges]
  refine ⟨fun id e he => h.twoEnds id e (by rwa [State.edge, edges] at he), fun n => ?_,
    by rw [lifts, edges]; exact h.lifts, fun n => ends n ▸ h.degrees n⟩
  obtain ⟨free, degree, refs⟩ := (nodeRight_iff s n).mp (h.nodes n)
  refine (nodeRight_iff t n).mpr ⟨fun gone => ?_, fun m hm => ?_, (moves n).right refs (claims n) (bound n)⟩
  · have was : s.nodeRefs n = none := by
      have := (moves n).live
      rw [gone] at this
      simpa using this.symm
    have none : s.node n = none := by simpa [State.nodeRefs] using was
    have := claims n
    have := free was
    have := live n none
    omega
  · rw [ends]
    exact degree m (degrees n ▸ hm)

/-! ### The targets' part, its targets left alone -/

theorem isSome_stationAt_of_figures {s t : State} {lost won : Figure → Nat → Nat}
    (h : ∀ g k, Moves (s.figureAt g k) (t.figureAt g k) (lost g k) (won g k)) (k : Nat) :
    (t.stationAt k).isSome = (s.stationAt k).isSome := by
  simpa [State.figureAt] using (h .assigned k).live

/-- One cabin's record changes, comes or goes: the places of the cabins are the same, and what is recorded of
nodes and targets follows the claims and the shares of the two records. -/
structure CabinReplaced (s t : State) (slot : Nat) (old new : Option Cabin) : Prop where
  edges : t.graph.edges = s.graph.edges
  lifts : t.graph.openLifts = s.graph.openLifts
  venues : Table.view Entry.venue t.programme.entries = Table.view Entry.venue s.programme.entries
  screens : Table.view Screen.stake t.screen.screens = Table.view Screen.stake s.screen.screens
  plans : Table.view Target.plan t.target.targets = Table.view Target.plan s.target.targets
  sorted : Table.wf t.cabin.cabins = true
  was : s.cabinAt slot = old
  now : ∀ c, t.cabinAt c = if c = slot then new else s.cabinAt c
  replaced : Table.Replaces s.cabin.cabins t.cabin.cabins old new
  named : ∀ x, new = some x → s.cabinNames x ∧ (s.node x.doorNode).isSome
  degrees : ∀ n, t.nodeDegree n = s.nodeDegree n
  nodeRefs : ∀ n, Moves (s.nodeRefs n) (t.nodeRefs n) (old.elim 0 fun x => if x.doorNode = n then 1 else 0)
    (new.elim 0 fun x => if x.doorNode = n then 1 else 0)
  targetRefs : ∀ k, Moves (s.refsAt k) (t.refsAt k) (old.elim 0 fun x => if k ∈ x.stations then 1 else 0)
    (new.elim 0 fun x => if k ∈ x.stations then 1 else 0)
  figures : ∀ g k, Moves (s.figureAt g k) (t.figureAt g k)
    (old.elim 0 fun x => if s.effective x = some k then x.figure g else 0)
    (new.elim 0 fun x => if s.effective x = some k then x.figure g else 0)
  unassigned : Moves (some s.target.unassigned) (some t.target.unassigned)
    (old.elim 0 fun x => if s.effective x = none then 1 else 0)
    (new.elim 0 fun x => if s.effective x = none then 1 else 0)
  flags : t.flagsRight

theorem Sound.cabinReplaced {s t : State} (h : Sound s) {slot : Nat} {old new : Option Cabin}
    (c : CabinReplaced s t slot old new) : Sound t := by
  have place : t.effective = s.effective := effective_of_plans c.plans
  have bound : ∀ f : Cabin → Nat, old.elim 0 f ≤ Table.total f s.cabin.cabins := fun f => by
    rw [← c.was]
    exact Table.elim_le_total f _ slot h.sorted.cabins
  have targets : Table.wf t.target.targets = true := (Table.wf_of_view c.plans).trans h.sorted.targets
  have tally : ∀ g p, t.tally g p + (old.elim 0 fun x => if s.effective x = p then x.figure g else 0) =
      s.tally g p + new.elim 0 fun x => if s.effective x = p then x.figure g else 0 := fun g p => by
    rw [tally_eq_total, tally_eq_total, place]
    exact c.replaced _
  have tallyBound : ∀ g p, (old.elim 0 fun x => if s.effective x = p then x.figure g else 0) ≤ s.tally g p :=
    fun g p => by
      rw [tally_eq_total]
      exact bound _
  refine ⟨⟨c.edges ▸ h.sorted.edges, targets, c.sorted, Table.wf_of_view c.venues ▸ h.sorted.entries,
    Table.wf_of_view c.screens ▸ h.sorted.screens⟩, ?_, ?_⟩
  · refine h.deck.refsMoved c.edges c.lifts c.degrees _ _ c.nodeRefs (fun n => ?_) (fun n => ?_) fun n free => ?_
    · have doors := c.replaced.count fun x => decide (x.doorNode = n)
      have anchors := Table.count_of_view (fun x => decide (x.anchor = n)) c.plans
        fun v w e => by rw [show v.anchor = w.anchor from congrArg TargetPlan.anchor e]
      have stands := Table.count_of_view (fun x => decide (x.node = n)) c.screens
        fun v w e => by rw [show v.node = w.node from congrArg ScreenStake.node e]
      simp only [decide_eq_true_eq] at doors
      simp only [State.claimsOnNode, State.endsAt, c.edges, anchors, stands]
      omega
    · have doors := bound fun x => if x.doorNode = n then 1 else 0
      have counted := Table.count_eq_total s.cabin.cabins fun x => decide (x.doorNode = n)
      simp only [decide_eq_true_eq] at counted
      simp only [State.claimsOnNode]
      omega
    · cases e : new with
      | none => rfl
      | some x =>
        have live := (c.named x e).2
        by_cases at_ : x.doorNode = n
        · simp [at_, free] at live
        · simp [at_]
  · have live := isSome_stationAt_of_plans c.plans
    have exists_ := isSome_targetAt_of_plans c.plans
    refine ⟨fun k x hk => ?_, venues_of_views (isVenue_of_plans c.plans) c.venues h.targets.venues,
      screenNames_of_views live exists_ c.screens h.targets.screens, fun j k a b hj hk e => ?_,
      fun k => ?_, fun g k => ?_, c.flags, ?_⟩
    · have named : s.cabinNames x := by
        rw [c.now] at hk
        split at hk
        · exact (c.named x hk).1
        · exact h.targets.cabins k x hk
      simpa only [State.cabinNames, live] using named
    · have plan : ∀ i st, t.stationAt i = some st → ∃ st', s.stationAt i = some st' ∧ st'.letter = st.letter := by
        intro i st hi
        have := stationAt_of_plans c.plans i
        rw [hi] at this
        obtain ⟨st', hs, e⟩ := Option.map_eq_some_iff.mp this.symm
        exact ⟨st', hs, congrArg StationPlan.letter e⟩
      obtain ⟨a', ha, ea⟩ := plan j a hj
      obtain ⟨b', hb, eb⟩ := plan k b hk
      exact h.targets.letters j k a' b' ha hb (by rw [ea, eb, e])
    · refine (c.targetRefs k).right (h.targets.refs k) ?_ ?_
      · have stations := c.replaced.count fun x => decide (k ∈ x.stations)
        have venues := Table.count_of_view (fun x => decide (x.venue = k)) c.venues fun v w e => by rw [e]
        have shown := Table.count_of_view (fun x => decide (k ∈ x.shown)) c.screens fun v w e => by
          rw [show v.shown = w.shown from congrArg ScreenStake.shown e]
        have overrides := Table.count_of_view (fun x => decide (x.override = some k)) c.screens fun v w e => by
          rw [show v.override = w.override from congrArg ScreenStake.override e]
        simp only [decide_eq_true_eq] at stations
        simp only [State.claimsOnTarget, venues, shown, overrides]
        omega
      · have stations := bound fun x => if k ∈ x.stations then 1 else 0
        have counted := Table.count_eq_total s.cabin.cabins fun x => decide (k ∈ x.stations)
        simp only [decide_eq_true_eq] at counted
        simp only [State.claimsOnTarget]
        omega
    · exact (c.figures g k).right (h.targets.tallies g k) (tally g (some k)) (tallyBound g (some k))
    · have was : ∀ n, some s.target.unassigned = some n → n = s.tally .assigned none := fun n e => by
        rw [← h.targets.unassigned]
        exact (Option.some.inj e).symm
      exact c.unassigned.right was (tally .assigned none) (tallyBound .assigned none) _ rfl

end Machine
end Sys2Proof
end

section
/-! The requests and reports on cabins keep a sound state sound (R60 to R65, R74 to R77). -/

namespace Sys2Proof.Machine

/-! ### What depends on one block alone -/

theorem nodeRefs_of_graph {s t : State} (h : t.graph = s.graph) (n : Nat) : t.nodeRefs n = s.nodeRefs n := by
  rw [State.nodeRefs, State.node, h]
  rfl

theorem nodeDegree_of_graph {s t : State} (h : t.graph = s.graph) (n : Nat) : t.nodeDegree n = s.nodeDegree n := by
  rw [State.nodeDegree, State.node, h]
  rfl

theorem refsAt_of_target {s t : State} (h : t.target = s.target) (k : Nat) : t.refsAt k = s.refsAt k := by
  rw [State.refsAt, State.targetAt, h]
  rfl

theorem stationAt_of_target {s t : State} (h : t.target = s.target) (k : Nat) : t.stationAt k = s.stationAt k := by
  rw [State.stationAt, State.targetAt, h]
  rfl

theorem figureAt_of_target {s t : State} (h : t.target = s.target) (g : Figure) (k : Nat) :
    t.figureAt g k = s.figureAt g k := by
  rw [State.figureAt, stationAt_of_target h]
  rfl

@[simp] theorem figureAt_claimTargets (s : State) (ts : List Nat) (g : Figure) (k : Nat) :
    (s.claimTargets ts).figureAt g k = s.figureAt g k := by simp [State.figureAt]

@[simp] theorem figureAt_releaseTargets (s : State) (ts : List Nat) (g : Figure) (k : Nat) :
    (s.releaseTargets ts).figureAt g k = s.figureAt g k := by simp [State.figureAt]

@[simp] theorem flagAt_claimTargets (s : State) (ts : List Nat) (k : Nat) :
    (s.claimTargets ts).flagAt k = s.flagAt k := by simp [State.flagAt]

@[simp] theorem flagAt_releaseTargets (s : State) (ts : List Nat) (k : Nat) :
    (s.releaseTargets ts).flagAt k = s.flagAt k := by simp [State.flagAt]

theorem releaseNode_graph_of_graph {s t : State} (h : t.graph = s.graph) (n : Nat) :
    (t.releaseNode n).graph = (s.releaseNode n).graph := by
  simp only [State.releaseNode, State.modNode, h]

theorem modTarget_target_of_target {s t : State} (h : t.target = s.target) (k : Nat) (f : Target → Target) :
    (t.modTarget k f).target = (s.modTarget k f).target := by
  simp only [State.modTarget, h]

theorem withdraw_target_of_target {s t : State} (h : t.target = s.target) (c : Cabin) :
    (t.withdraw c).target = (s.withdraw c).target := by
  have place : t.effective = s.effective := effective_of_plans (by rw [h])
  rw [State.withdraw, State.withdraw, place]
  split
  · exact modTarget_target_of_target h _ _
  · simp only [State.setUnassigned, h]

theorem releaseTargets_target_of_target {s t : State} (h : t.target = s.target) (ks : List Nat) :
    (t.releaseTargets ks).target = (s.releaseTargets ks).target := by
  induction ks generalizing s t with
  | nil => exact h
  | cons k ks ih => exact ih (modTarget_target_of_target h k _)

theorem flagAt_of_target {s t : State} (h : t.target = s.target) (k : Nat) : t.flagAt k = s.flagAt k := by
  rw [State.flagAt, stationAt_of_target h]
  rfl

/-! ### The parts of a cabin's change -/

theorem count_of_nodup {l : List Nat} (h : l.Nodup) (k : Nat) : l.count k = if k ∈ l then 1 else 0 := by
  split
  · exact List.count_eq_one_of_mem h ‹_›
  · exact List.count_eq_zero.mpr ‹_›

/-- A cabin that names two stations names two different ones. -/
theorem stations_nodup {s : State} {x : Cabin} (h : s.cabinNames x) : x.stations.Nodup := by
  rw [Cabin.stations]
  cases e : x.alternate with
  | none => simp
  | some a =>
    have := (h.2 a e).1
    simp [this.symm]

/-- The claims of a list are given back where another does not take them again. -/
theorem moves_retarget (s : State) {old new : List Nat} (nodupOld : old.Nodup) (nodupNew : new.Nodup) (k : Nat) :
    Moves (s.refsAt k)
      (((s.releaseTargets (old.filter fun t => decide (t ∉ new))).claimTargets
        (new.filter fun t => decide (t ∉ old))).refsAt k)
      (if k ∈ old then 1 else 0) (if k ∈ new then 1 else 0) := by
  rw [refsAt_claimTargets, refsAt_releaseTargets, count_of_nodup (nodupOld.filter _),
    count_of_nodup (nodupNew.filter _)]
  refine ((Moves.sub _ _).trans (Moves.add _ _)).widen ?_ ?_ <;>
    by_cases ho : k ∈ old <;> by_cases hn : k ∈ new <;> simp [ho, hn]

/-- A cabin's contribution moves from its old record's place to that of the new one. -/
theorem moves_moveContribution (s : State) (old new : Cabin) (g : Figure) (k : Nat) :
    Moves (s.figureAt g k) ((s.moveContribution old new).figureAt g k)
      (if s.effective old = some k then old.figure g else 0) (if s.effective new = some k then new.figure g else 0) := by
  rw [State.moveContribution]
  split
  · rename_i unchanged
    simp only [State.contributionOf, Prod.mk.injEq] at unchanged
    obtain ⟨place, swept, occupied⟩ := unchanged
    have figure : old.figure g = new.figure g := by
      cases g with
      | assigned => rfl
      | swept => exact swept
      | occupied => exact occupied
    rw [place, figure]
    exact Moves.same _ _
  · rw [figureAt_contribute, figureAt_withdraw, effective_of_plans (plans_withdraw s old)]
    exact ((Moves.sub _ _).trans (Moves.add _ _)).widen (by omega) (by omega)

theorem moves_unassigned (s : State) (old new : Cabin) :
    Moves (some s.target.unassigned) (some (s.moveContribution old new).target.unassigned)
      (if s.effective old = none then 1 else 0) (if s.effective new = none then 1 else 0) := by
  rw [State.moveContribution]
  split
  · rename_i unchanged
    simp only [State.contributionOf, Prod.mk.injEq] at unchanged
    rw [unchanged.1]
    exact Moves.same _ _
  · rw [unassigned_contribute, unassigned_withdraw, effective_of_plans (plans_withdraw s old)]
    exact ((Moves.sub (some _) _).trans (Moves.add _ _)).widen (by omega) (by omega)

@[simp] theorem flagAt_moveContribution (s : State) (old new : Cabin) (k : Nat) :
    (s.moveContribution old new).flagAt k = s.flagAt k := by
  rw [State.moveContribution]
  split <;> simp

@[simp] theorem refsAt_moveContribution (s : State) (old new : Cabin) (k : Nat) :
    (s.moveContribution old new).refsAt k = s.refsAt k := by
  rw [State.moveContribution]
  split <;> simp

@[simp] theorem plans_moveContribution (s : State) (old new : Cabin) :
    Table.view Target.plan (s.moveContribution old new).target.targets =
      Table.view Target.plan s.target.targets := by
  rw [State.moveContribution]
  split <;> simp

/-- The claim of a record on its node moves with it. -/
def State.reanchor (s : State) (a b : Nat) : State := if a = b then s else (s.releaseNode a).claimNode b

theorem reanchor_keeps (s : State) (a b : Nat) :
    (s.reanchor a b).target = s.target ∧ (s.reanchor a b).cabin = s.cabin ∧
    (s.reanchor a b).programme = s.programme ∧ (s.reanchor a b).screen = s.screen ∧
    (s.reanchor a b).graph.edges = s.graph.edges ∧ (s.reanchor a b).graph.openLifts = s.graph.openLifts := by
  rw [State.reanchor]
  split <;> exact ⟨rfl, rfl, rfl, rfl, rfl, rfl⟩

theorem nodeDegree_reanchor (s : State) (a b n : Nat) : (s.reanchor a b).nodeDegree n = s.nodeDegree n := by
  rw [State.reanchor]
  split <;> simp

theorem moves_reanchor (s : State) (a b n : Nat) :
    Moves (s.nodeRefs n) ((s.reanchor a b).nodeRefs n) (if a = n then 1 else 0) (if b = n then 1 else 0) := by
  rw [State.reanchor]
  split
  · rename_i e
    rw [e]
    exact Moves.same _ _
  · rw [nodeRefs_claimNode, nodeRefs_releaseNode]
    exact ((Moves.sub _ _).trans (Moves.add _ _)).widen (by omega) (by omega)

/-! ### Another table of cabins -/

/-- The state with another table of cabins. -/
def State.withCabins (s : State) (t : Table Cabin) : State := { s with cabin := { s.cabin with cabins := t } }

@[simp] theorem withCabins_cabins (s : State) (t : Table Cabin) : (s.withCabins t).cabin.cabins = t := rfl

@[simp] theorem withCabins_keeps (s : State) (t : Table Cabin) :
    (s.withCabins t).graph = s.graph ∧ (s.withCabins t).target = s.target ∧
    (s.withCabins t).programme = s.programme ∧ (s.withCabins t).screen = s.screen := ⟨rfl, rfl, rfl, rfl⟩

/-- A table of cabins in which one record is changed. -/
theorem cabinAt_of_modify {s t : State} {slot : Nat} {c : Cabin} {f : Cabin → Cabin}
    (table : t.cabin.cabins = Table.modify s.cabin.cabins slot f) (held : Table.get s.cabin.cabins slot = some c)
    (k : Nat) : t.cabinAt k = if k = slot then some (f c) else s.cabinAt k := by
  rw [State.cabinAt, table, Table.get_modify]
  split
  · rename_i e
    rw [e, held]
    rfl
  · rfl

/-! ### Checks -/

/-- A check that refuses, and what follows it, keep a sound state sound if both sides do. -/
theorem sound_ite {c : Prop} [Decidable c] {a b : State × Reply} (yes : c → Sound a.1) (no : ¬c → Sound b.1) :
    Sound (if c then a else b).1 := by
  split
  · exact yes ‹_›
  · exact no ‹_›

/-! ### CABIN_PUT (R60) -/

/-- The state of a CABIN_PUT once its claims and its contribution are taken. -/
def State.cabinTaken (s : State) (slot : Nat) (c : Cabin) : State :=
  (((s.withCabins (Table.put s.cabin.cabins slot c)).claimNode c.doorNode).claimTargets c.stations).contribute c

theorem createCabin_eq (s : State) (slot : Nat) (c : Cabin) :
    s.createCabin slot c = (((s.cabinTaken slot c).judgeOver s).joinPlateQueue slot).pickAll := rfl

theorem cabinTaken_replaces {s : State} (h : Sound s) {slot : Nat} {c : Cabin} (free : s.cabinAt slot = none)
    (named : s.cabinNames c) (door : (s.node c.doorNode).isSome) :
    CabinReplaced s ((s.cabinTaken slot c).judgeOver s) slot none (some c) := by
  have cabin : ((s.cabinTaken slot c).judgeOver s).cabin.cabins = Table.put s.cabin.cabins slot c := by
    simp [State.cabinTaken]
  have place : ∀ ts, (((s.withCabins (Table.put s.cabin.cabins slot c)).claimNode c.doorNode).claimTargets
      ts).effective = s.effective := fun ts => effective_of_plans (by simp)
  refine { edges := by simp [State.cabinTaken], lifts := by simp [State.cabinTaken],
           venues := by simp [State.cabinTaken], screens := by simp [State.cabinTaken],
           plans := by simp [State.cabinTaken], sorted := ?sorted, was := free, now := fun k => ?now,
           replaced := ?replaced, named := fun x e => ?named, degrees := fun n => ?degrees,
           nodeRefs := fun n => ?nodeRefs, targetRefs := fun k => ?targetRefs, figures := fun g k => ?figures,
           unassigned := ?unassigned, flags := flagsRight_judgeOver h.targets.flags fun k => ?flags }
  case sorted => exact cabin ▸ Table.wf_put _ _ _ h.sorted.cabins
  case now => rw [State.cabinAt, cabin, Table.get_put]; rfl
  case replaced =>
    have put := Table.replaces_put s.cabin.cabins slot c h.sorted.cabins
    rw [show Table.get s.cabin.cabins slot = none from free] at put
    rwa [cabin]
  case named => cases e; exact ⟨named, door⟩
  case degrees =>
    have graph : ((s.cabinTaken slot c).judgeOver s).graph = (s.claimNode c.doorNode).graph := by
      simp only [State.cabinTaken, judgeOver_keeps, contribute_keeps, claimTargets_keeps]
      rfl
    rw [nodeDegree_of_graph graph, nodeDegree_claimNode]
  case nodeRefs =>
    have graph : ((s.cabinTaken slot c).judgeOver s).graph = (s.claimNode c.doorNode).graph := by
      simp only [State.cabinTaken, judgeOver_keeps, contribute_keeps, claimTargets_keeps]
      rfl
    rw [nodeRefs_of_graph graph, nodeRefs_claimNode]
    exact Moves.add _ _
  case targetRefs =>
    rw [refsAt_judgeOver, State.cabinTaken, refsAt_contribute, refsAt_claimTargets,
      count_of_nodup (stations_nodup named)]
    exact Moves.add _ _
  case figures =>
    rw [figureAt_judgeOver, State.cabinTaken, figureAt_contribute, place, figureAt_claimTargets]
    exact Moves.add _ _
  case unassigned =>
    rw [unassigned_judgeOver, State.cabinTaken, unassigned_contribute, place, unassigned_claimTargets]
    exact Moves.add (some _) _
  case flags =>
    rw [State.cabinTaken, flagAt_contribute, flagAt_claimTargets]
    rfl

theorem createCabin_sound {s : State} (h : Sound s) {slot : Nat} {c : Cabin} (free : s.cabinAt slot = none)
    (named : s.cabinNames c) (door : (s.node c.doorNode).isSome) : Sound (s.createCabin slot c) := by
  rw [createCabin_eq]
  exact (h.cabinReplaced (cabinTaken_replaces h free named door)).of_books (by simp [State.books])

/-- What is in range gives the cabin that names what it may. -/
theorem cabinPut_sound (b : CabinBody) {s : State} (h : Sound s) : Sound (cabinPut b s).1 := by
  rw [cabinPut]
  split
  · exact h
  · rename_i f _
    refine sound_ite (fun _ => h) fun _ => sound_ite (fun _ => h) fun twice => sound_ite (fun _ => h) fun door =>
      sound_ite (fun _ => h) fun stations => sound_ite (fun _ => h) fun _ => ?_
    simp only [Bool.or_eq_true, Bool.not_eq_true', not_or, Bool.not_eq_false] at stations
    obtain ⟨primary, alternate⟩ := stations
    have named : s.cabinNames f.cabin := by
      refine ⟨primary, fun a e => ⟨?_, ?_⟩⟩
      · rintro rfl
        exact twice e
      · rw [show f.alternate = some a from e] at alternate
        exact alternate
    have live : (s.node f.cabin.doorNode).isSome := by
      rw [show f.cabin.doorNode = f.doorNode from rfl, Option.isSome_iff_ne_none]
      simpa using door
    split
    · exact h
    · split
      · exact h
      · rename_i slot lowest
        dsimp only
        exact createCabin_sound h (Table.get_lowestFree lowest) named live

/-! ### CABIN_AMEND (R61 to R64) -/

@[simp] theorem stakes_amendPlate (s : State) (c : Nat) (old new : Option PlateAddress) (b : Bool) :
    Table.view Cabin.stake (s.amendPlate c old new b).cabin.cabins = Table.view Cabin.stake s.cabin.cabins := by
  have left : Table.view Cabin.stake (s.leavePlate c).cabin.cabins = Table.view Cabin.stake s.cabin.cabins := by
    rw [(leavePlate_keeps s c).2.2.2.1]
  simp only [State.amendPlate]
  split
  · split <;> simp
  · split
    · rw [stakes_owePlate, stakes_raiseContent]
      exact (stakes_modCabin _ _ _ fun _ => by rfl).trans left
    · split
      · rw [stakes_raiseContent]
        exact (stakes_modCabin _ _ _ fun _ => by rfl).trans left
      · exact (stakes_modCabin _ _ _ fun _ => by rfl).trans left

/-- The state of a CABIN_AMEND once its claims, its contribution and its record have moved, and its service flag is
given back if it was. -/
def State.cabinMoved (s : State) (slot : Nat) (old new : Cabin) : State :=
  if old.service && !new.service then
    (((s.moveContribution old new).moveCabinClaims old new).modCabin slot fun _ => new).leaveService slot
  else ((s.moveContribution old new).moveCabinClaims old new).modCabin slot fun _ => new

theorem amendCabin_eq (s : State) (slot : Nat) (old new : Cabin) (plate : Option PlateAddress) (face : Bool) :
    s.amendCabin slot old new plate face =
      (((s.cabinMoved slot old new).judgeOver s).amendPlate slot old.plate plate face).pickAll := rfl

/-- The nodes and targets that a cabin's claims have moved between. -/
theorem moveCabinClaims_eq (s : State) (old new : Cabin) :
    s.moveCabinClaims old new =
      ((s.reanchor old.doorNode new.doorNode).releaseTargets
          (old.stations.filter fun t => decide (t ∉ new.stations))).claimTargets
        (new.stations.filter fun t => decide (t ∉ old.stations)) := rfl

theorem moveCabinClaims_graph (s : State) (old new : Cabin) :
    (s.moveCabinClaims old new).graph = (s.reanchor old.doorNode new.doorNode).graph := by
  simp [moveCabinClaims_eq]

theorem moveCabinClaims_keeps (s : State) (old new : Cabin) :
    (s.moveCabinClaims old new).cabin = s.cabin ∧ (s.moveCabinClaims old new).programme = s.programme ∧
    (s.moveCabinClaims old new).screen = s.screen ∧
    (s.moveCabinClaims old new).graph.edges = s.graph.edges ∧
    (s.moveCabinClaims old new).graph.openLifts = s.graph.openLifts := by
  obtain ⟨_, cabin, programme, screen, edges, lifts⟩ := reanchor_keeps s old.doorNode new.doorNode
  simp [moveCabinClaims_eq, cabin, programme, screen, edges, lifts]

theorem moves_targets_moveCabinClaims (s : State) {old new : Cabin} (nodupOld : old.stations.Nodup)
    (nodupNew : new.stations.Nodup) (k : Nat) :
    Moves (s.refsAt k) ((s.moveCabinClaims old new).refsAt k) (if k ∈ old.stations then 1 else 0)
      (if k ∈ new.stations then 1 else 0) := by
  have moves := moves_retarget (s.reanchor old.doorNode new.doorNode) nodupOld nodupNew k
  rwa [refsAt_of_target (reanchor_keeps s _ _).1] at moves

/-- What has moved, block by block. -/
theorem cabinMoved_blocks (s : State) (slot : Nat) (old new : Cabin) :
    (s.cabinMoved slot old new).graph =
      ((s.moveContribution old new).reanchor old.doorNode new.doorNode).graph ∧
    (s.cabinMoved slot old new).target = ((s.moveContribution old new).moveCabinClaims old new).target ∧
    (s.cabinMoved slot old new).programme = s.programme ∧ (s.cabinMoved slot old new).screen = s.screen ∧
    (s.cabinMoved slot old new).cabin.cabins = Table.modify s.cabin.cabins slot (fun _ => new) := by
  obtain ⟨cabin, programme, screen, _⟩ := moveCabinClaims_keeps (s.moveContribution old new) old new
  have graph := moveCabinClaims_graph (s.moveContribution old new) old new
  have kept := moveContribution_keeps s old new
  have cabins : Table.modify ((s.moveContribution old new).moveCabinClaims old new).cabin.cabins slot
      (fun _ => new) = Table.modify s.cabin.cabins slot (fun _ => new) := by rw [cabin, kept.2.2.1]
  rw [State.cabinMoved]
  split <;> exact ⟨graph, rfl, by simpa using programme, by simpa using screen, cabins⟩

theorem cabinMoved_replaces {s : State} (h : Sound s) {slot : Nat} {old new : Cabin}
    (was : s.cabinAt slot = some old) (named : s.cabinNames new) (door : (s.node new.doorNode).isSome) :
    CabinReplaced s ((s.cabinMoved slot old new).judgeOver s) slot (some old) (some new) := by
  obtain ⟨graph', target, programme, screen, cabin'⟩ := cabinMoved_blocks s slot old new
  obtain ⟨target', _, _, _, edges, lifts⟩ := reanchor_keeps (s.moveContribution old new) old.doorNode new.doorNode
  have graph : ((s.cabinMoved slot old new).judgeOver s).graph =
      ((s.moveContribution old new).reanchor old.doorNode new.doorNode).graph := by
    rw [(judgeOver_keeps _ _).1, graph']
  have cabin : ((s.cabinMoved slot old new).judgeOver s).cabin.cabins =
      Table.modify s.cabin.cabins slot fun _ => new := by
    rw [(judgeOver_keeps _ _).2.2.1, cabin']
  have still : (s.moveContribution old new).graph = s.graph := by simp
  have plans : Table.view Target.plan ((s.cabinMoved slot old new).judgeOver s).target.targets =
      Table.view Target.plan s.target.targets := by
    rw [plans_judgeOver, target, moveCabinClaims_eq, plans_claimTargets, plans_releaseTargets, target',
      plans_moveContribution]
  have held : Table.get s.cabin.cabins slot = some old := was
  have nodupOld := stations_nodup (h.targets.cabins slot old was)
  refine { edges := by rw [graph, edges, still], lifts := by rw [graph, lifts, still],
           venues := by rw [(judgeOver_keeps _ _).2.2.2.2.1, programme],
           screens := by rw [(judgeOver_keeps _ _).2.2.2.2.2.1, screen], plans := plans,
           sorted := by rw [cabin, Table.wf_modify]; exact h.sorted.cabins, was := was, now := fun k => ?now,
           replaced := ?replaced, named := fun x e => ?named, degrees := fun n => ?degrees,
           nodeRefs := fun n => ?nodeRefs, targetRefs := fun k => ?targetRefs, figures := fun g k => ?figures,
           unassigned := ?unassigned, flags := flagsRight_judgeOver h.targets.flags fun k => ?flags }
  case now => exact cabinAt_of_modify cabin held k
  case replaced =>
    have modified := Table.replaces_modify s.cabin.cabins slot (fun _ => new) h.sorted.cabins
    rw [held] at modified
    rw [cabin]
    exact modified
  case named => cases e; exact ⟨named, door⟩
  case degrees => rw [nodeDegree_of_graph graph, nodeDegree_reanchor, nodeDegree_of_graph still]
  case nodeRefs =>
    rw [nodeRefs_of_graph graph, ← nodeRefs_of_graph still n]
    exact moves_reanchor _ _ _ n
  case targetRefs =>
    rw [refsAt_judgeOver, refsAt_of_target target, ← refsAt_moveContribution s old new k]
    exact moves_targets_moveCabinClaims (s.moveContribution old new) nodupOld (stations_nodup named) k
  case figures =>
    rw [figureAt_judgeOver, figureAt_of_target target, moveCabinClaims_eq, figureAt_claimTargets,
      figureAt_releaseTargets, figureAt_of_target target']
    exact moves_moveContribution s old new g k
  case unassigned =>
    rw [unassigned_judgeOver, target, moveCabinClaims_eq, unassigned_claimTargets, unassigned_releaseTargets,
      target']
    exact moves_unassigned s old new
  case flags =>
    rw [flagAt_of_target target, moveCabinClaims_eq, flagAt_claimTargets, flagAt_releaseTargets,
      flagAt_of_target target', flagAt_moveContribution]

theorem amendCabin_sound {s : State} (h : Sound s) {slot : Nat} {old new : Cabin} (plate : Option PlateAddress)
    (face : Bool) (was : s.cabinAt slot = some old) (named : s.cabinNames new) (door : (s.node new.doorNode).isSome) :
    Sound (s.amendCabin slot old new plate face) := by
  rw [amendCabin_eq]
  exact (h.cabinReplaced (cabinMoved_replaces h was named door)).of_books (by simp [State.books])

/-- The claims of an amended record: those given, and else those held. -/
theorem applyTo_claims (g : CabinChange) (c : Cabin) :
    (g.applyTo c).doorNode = g.doorNode.getD c.doorNode ∧ (g.applyTo c).primary = g.primary.getD c.primary ∧
    (g.applyTo c).alternate = g.alternate.getD c.alternate := by
  simp only [CabinChange.applyTo]
  split <;> exact ⟨rfl, rfl, rfl⟩

theorem cabinAmend_sound (b : CabinAmendBody) {s : State} (h : Sound s) : Sound (cabinAmend b s).1 := by
  rw [cabinAmend]
  split
  · exact h
  · rename_i g _
    split
    · exact h
    · rename_i slot old found
      have was : s.cabinAt slot = some old := (Table.get_of_find h.sorted.cabins found).1
      obtain ⟨door, primary, alternate⟩ := applyTo_claims g old
      have held := h.targets.cabins slot old was
      have heldDoor : (s.node old.doorNode).isSome :=
        ((deckRight_iff h.sorted).mp h.deck).1.2.2.1 slot old was
      refine sound_ite (fun _ => h) fun _ => sound_ite (fun _ => h) fun twice => sound_ite (fun _ => h) fun nodes =>
        sound_ite (fun _ => h) fun stations => ?_
      simp only [Bool.or_eq_true, Bool.not_eq_true', not_or, Bool.not_eq_false] at stations
      obtain ⟨primaryOk, alternateOk⟩ := stations
      have live : (s.node (g.applyTo old).doorNode).isSome := by
        rw [door]
        cases e : g.doorNode with
        | none => exact heldDoor
        | some n => simpa [e, optOk, Option.isSome_iff_ne_none] using nodes
      have named : s.cabinNames (g.applyTo old) := by
        refine ⟨?_, fun a e => ⟨?_, ?_⟩⟩
        · rw [primary]
          cases e : g.primary with
          | none => exact held.1
          | some n => rwa [e] at primaryOk
        · rintro rfl
          exact twice e
        · rw [alternate] at e
          cases given : g.alternate with
          | none => rw [given] at e; exact (held.2 a e).2
          | some o =>
            rw [given] at e alternateOk
            rw [show o = some a from e] at alternateOk
            exact alternateOk
      split
      · exact h
      · dsimp only
        exact amendCabin_sound h _ _ was named live

/-! ### CABIN_RETIRE (R65) -/

theorem removeCabin_eq (s : State) (slot : Nat) (c : Cabin) :
    s.removeCabin slot c =
      ((((s.leavePlate slot).withdraw c).withCabins
        (Table.del ((s.leavePlate slot).withdraw c).cabin.cabins slot)).releaseNode c.doorNode).releaseTargets
          c.stations := rfl

theorem flagsRight_withdraw_vacant {s : State} (h : s.flagsRight) {c : Cabin} (vacant : c.occupancy ≠ .occupied) :
    (s.withdraw c).flagsRight := by
  intro k st hk
  rw [stationAt_withdraw, Option.map_eq_some_iff] at hk
  obtain ⟨a, ha, rfl⟩ := hk
  have right := h k a ha
  split
  · simpa [Station.withoutCabin, Station.isOver, Cabin.occupiedBerths, vacant] using right
  · exact right

/-- What a retirement leaves of the cabin, block by block. -/
theorem removeCabin_blocks (s : State) (slot : Nat) (c : Cabin) :
    (s.removeCabin slot c).graph = (s.releaseNode c.doorNode).graph ∧
    (s.removeCabin slot c).target = ((s.withdraw c).releaseTargets c.stations).target ∧
    (s.removeCabin slot c).programme = s.programme ∧ (s.removeCabin slot c).screen = s.screen ∧
    (s.removeCabin slot c).cabin.cabins = Table.del s.cabin.cabins slot := by
  have withdrawn : ((s.leavePlate slot).withdraw c).cabin.cabins = s.cabin.cabins := by simp
  have left : ((s.leavePlate slot).withdraw c).target = (s.withdraw c).target :=
    withdraw_target_of_target (by simp) c
  have graph : ((s.leavePlate slot).withdraw c).graph = s.graph := by simp
  rw [removeCabin_eq, withdrawn]
  refine ⟨?_, ?_, by simp, by simp, by simp⟩
  · rw [(releaseTargets_keeps _ _).1]
    exact releaseNode_graph_of_graph (by simp) _
  · exact releaseTargets_target_of_target (by simpa using left) _

theorem removeCabin_replaces {s : State} (h : Sound s) {slot : Nat} {c : Cabin} (was : s.cabinAt slot = some c)
    (vacant : c.occupancy ≠ .occupied) : CabinReplaced s (s.removeCabin slot c) slot (some c) none := by
  obtain ⟨graph, target, programme, screen, cabin⟩ := removeCabin_blocks s slot c
  refine { edges := by rw [graph]; rfl, lifts := by rw [graph]; rfl, venues := by rw [programme],
           screens := by rw [screen], plans := by rw [target, plans_releaseTargets, plans_withdraw],
           sorted := by rw [cabin]; exact Table.wf_del _ _ h.sorted.cabins, was := was, now := fun k => ?now,
           replaced := ?replaced, named := fun x e => (nomatch e), degrees := fun n => ?degrees,
           nodeRefs := fun n => ?nodeRefs, targetRefs := fun k => ?targetRefs, figures := fun g k => ?figures,
           unassigned := ?unassigned, flags := fun k st hk => ?flags }
  case now => rw [State.cabinAt, cabin, Table.get_del]; rfl
  case replaced =>
    have del := Table.replaces_del s.cabin.cabins slot h.sorted.cabins
    rw [show Table.get s.cabin.cabins slot = some c from was] at del
    rwa [cabin]
  case degrees => rw [nodeDegree_of_graph graph, nodeDegree_releaseNode]
  case nodeRefs =>
    rw [nodeRefs_of_graph graph, nodeRefs_releaseNode]
    exact Moves.sub _ _
  case targetRefs =>
    rw [refsAt_of_target target, refsAt_releaseTargets, refsAt_withdraw,
      count_of_nodup (stations_nodup (h.targets.cabins slot c was))]
    exact Moves.sub _ _
  case figures =>
    rw [figureAt_of_target target, figureAt_releaseTargets, figureAt_withdraw]
    exact Moves.sub _ _
  case unassigned =>
    rw [target, unassigned_releaseTargets, unassigned_withdraw]
    exact Moves.sub (some _) _
  case flags =>
    rw [stationAt_of_target target, stationAt_releaseTargets] at hk
    exact flagsRight_withdraw_vacant h.targets.flags vacant k st hk

theorem cabinRetire_sound (b : Nat × Nat) {s : State} (h : Sound s) : Sound (cabinRetire b s).1 := by
  rw [cabinRetire]
  refine sound_ite (fun _ => ?_) fun _ => h
  split
  · exact h
  · rename_i slot c found
    exact sound_ite (fun _ => h) fun vacant =>
      h.cabinReplaced (removeCabin_replaces h (Table.get_of_find h.sorted.cabins found).1 vacant)

/-! ### SWEEP_CLEAR (R76) -/

theorem stationAt_countSweep (s : State) (c : Cabin) (k : Nat) :
    (s.countSweep c).stationAt k = (s.stationAt k).map fun st =>
      if s.effective c = some k then { st with swept := st.swept + 1 } else st := by
  rw [State.countSweep]
  split
  · rename_i place
    simp [place]
  · rename_i j place
    rw [stationAt_modStation]
    simp only [place, Option.some.injEq, eq_comm]

theorem countSweep_keeps (s : State) (c : Cabin) :
    (s.countSweep c).graph = s.graph ∧ (s.countSweep c).cabin = s.cabin ∧
    (s.countSweep c).programme = s.programme ∧ (s.countSweep c).screen = s.screen ∧
    (s.countSweep c).target.unassigned = s.target.unassigned ∧
    Table.view Target.plan (s.countSweep c).target.targets = Table.view Target.plan s.target.targets := by
  rw [State.countSweep]
  split
  · exact ⟨rfl, rfl, rfl, rfl, rfl, rfl⟩
  · exact ⟨rfl, rfl, rfl, rfl, rfl, plans_modStation _ _ _ fun _ => by rfl⟩

theorem refsAt_countSweep (s : State) (c : Cabin) (k : Nat) : (s.countSweep c).refsAt k = s.refsAt k := by
  rw [State.countSweep]
  split
  · rfl
  · exact refsAt_modStation _ _ _ _

/-- A cabin's record once its sweep is reported. -/
def Cabin.cleared (tag : Word16) (c : Cabin) : Cabin := { c with swept := true, sweptBy := some tag }

theorem takeSweep_replaces {s : State} (h : Sound s) (tag : Word16) {slot : Nat} {c : Cabin}
    (was : s.cabinAt slot = some c) (unswept : c.swept = false) :
    CabinReplaced s ((s.countSweep c).modCabin slot (Cabin.cleared tag)) slot (some c) (some (c.cleared tag)) := by
  obtain ⟨graph, cabin', programme, screen, unassigned, plans⟩ := countSweep_keeps s c
  have cabin : ((s.countSweep c).modCabin slot (Cabin.cleared tag)).cabin.cabins =
      Table.modify s.cabin.cabins slot (Cabin.cleared tag) := by
    show Table.modify (s.countSweep c).cabin.cabins slot _ = _
    rw [cabin']
  have held : Table.get s.cabin.cabins slot = some c := was
  refine { edges := by simp [graph], lifts := by simp [graph], venues := by simp [programme],
           screens := by simp [screen], plans := plans, sorted := by simpa [cabin] using h.sorted.cabins, was := was,
           now := fun k => ?now, replaced := ?replaced, named := fun x e => ?named, degrees := fun n => ?degrees,
           nodeRefs := fun n => ?nodeRefs, targetRefs := fun k => ?targetRefs, figures := fun g k => ?figures,
           unassigned := ?unassigned, flags := fun k st hk => ?flags }
  case now => exact cabinAt_of_modify cabin held k
  case replaced =>
    have modified := Table.replaces_modify s.cabin.cabins slot (Cabin.cleared tag) h.sorted.cabins
    rw [held] at modified
    rw [cabin]
    exact modified
  case named =>
    cases e
    exact ⟨h.targets.cabins slot c was, ((deckRight_iff h.sorted).mp h.deck).1.2.2.1 slot c was⟩
  case degrees => exact nodeDegree_of_graph graph n
  case nodeRefs =>
    rw [nodeRefs_of_graph (s := s) (t := State.modCabin _ _ _) graph]
    exact Moves.same _ _
  case targetRefs =>
    rw [refsAt_of_target (s := s.countSweep c) (t := State.modCabin _ _ _) rfl, refsAt_countSweep]
    exact Moves.same _ _
  case figures =>
    rw [figureAt_of_target (s := s.countSweep c) (t := State.modCabin _ _ _) rfl, State.figureAt, State.figureAt,
      stationAt_countSweep, Option.map_map]
    refine ⟨by simp, fun n m hn hm _ => ?_⟩
    obtain ⟨st, hst, rfl⟩ := Option.map_eq_some_iff.mp hn
    rw [hst, Option.map_some, Option.some.injEq] at hm
    subst hm
    have stays : s.effective (c.cleared tag) = s.effective c := rfl
    simp only [Function.comp, Option.elim_some, stays]
    split
    · cases g with
      | swept => simp [Station.figure, Cabin.figure, Cabin.sweptOne, Cabin.cleared, unswept]
      | assigned => rfl
      | occupied => rfl
    · rfl
  case unassigned =>
    show Moves _ (some (s.countSweep c).target.unassigned) _ _
    rw [unassigned]
    exact Moves.same _ _
  case flags =>
    rw [stationAt_of_target (s := s.countSweep c) (t := State.modCabin _ _ _) rfl, stationAt_countSweep,
      Option.map_eq_some_iff] at hk
    obtain ⟨a, ha, rfl⟩ := hk
    have right := h.targets.flags k a ha
    split <;> exact right

theorem takeSweep_sound {s : State} (h : Sound s) (tag : Word16) {slot : Nat} {c : Cabin}
    (was : s.cabinAt slot = some c) : Sound (State.takeSweep tag s slot c) := by
  rw [State.takeSweep]
  split
  · cases swept : c.swept with
    | true =>
      refine h.of_books ?_
      have stakes : Table.view Cabin.stake (s.modCabin slot (Cabin.cleared tag)).cabin.cabins =
          Table.view Cabin.stake s.cabin.cabins :=
        Table.view_modify_of_get _ _ _ slot c h.sorted.cabins was (by
          rw [Cabin.stake, Cabin.stake, swept]
          rfl)
      simp only [State.books, Books.mk.injEq]
      exact ⟨rfl, rfl, rfl, rfl, stakes, rfl, rfl⟩
    | false => exact h.cabinReplaced (takeSweep_replaces h tag was swept)
  · exact h

end Sys2Proof.Machine
end

section
/-! The requests on programme entries and what minutes, clock steps and muster transitions make of the entries keep
a sound state sound (R110 to R127). -/

namespace Sys2Proof.Machine

/-! ### Claims on targets come and go, the figures of the stations left alone -/

theorem TargetsRight.claimsMoved {s t : State} (h : TargetsRight s)
    (plans : Table.view Target.plan t.target.targets = Table.view Target.plan s.target.targets)
    (stations : ∀ k, t.stationAt k = s.stationAt k) (unassigned : t.target.unassigned = s.target.unassigned)
    (cabins : Table.view Cabin.stake t.cabin.cabins = Table.view Cabin.stake s.cabin.cabins)
    (venues : ∀ e x, t.entryAt e = some x → s.isVenue x.venue)
    (screens : ∀ n x, t.screenAt n = some x → s.screenNames x) (lost won : Nat → Nat)
    (moves : ∀ k, Moves (s.refsAt k) (t.refsAt k) (lost k) (won k))
    (claims : ∀ k, t.claimsOnTarget k + lost k = s.claimsOnTarget k + won k)
    (bound : ∀ k, lost k ≤ s.claimsOnTarget k) : TargetsRight t := by
  have live := isSome_stationAt_of_plans plans
  have exists_ := isSome_targetAt_of_plans plans
  have place := effective_of_plans plans
  refine ⟨cabinNames_of_views live cabins h.cabins, fun e x he => isVenue_of_plans plans _ (venues e x he),
    fun n x hn => ?_, fun j k a b => ?_, fun k => (moves k).right (h.refs k) (claims k) (bound k),
    fun g k n => ?_, fun k st => ?_, ?_⟩
  · simpa only [State.screenNames, live, exists_] using screens n x hn
  · rw [stations, stations]
    exact h.letters j k a b
  · rw [State.figureAt, stations, tally_of_views place cabins]
    exact h.tallies g k n
  · rw [stations]
    exact h.flags k st
  · rw [unassigned, tally_of_views place cabins]
    exact h.unassigned

theorem refsAt_releaseThenClaim (s : State) (j i k : Nat) :
    Moves (s.refsAt k) (((s.releaseTarget j).claimTarget i).refsAt k) (if j = k then 1 else 0)
      (if i = k then 1 else 0) := by
  rw [refsAt_claimTarget, refsAt_releaseTarget]
  exact ((Moves.sub _ _).trans (Moves.add _ _)).widen (by omega) (by omega)

/-! ### One entry's record changes, comes or goes -/

/-- The reference counts follow the venues of the two records, and all else that is recorded stays. -/
structure EntryReplaced (s t : State) (slot : Nat) (old new : Option Entry) : Prop where
  graph : t.graph = s.graph
  cabin : t.cabin = s.cabin
  screen : t.screen = s.screen
  plans : Table.view Target.plan t.target.targets = Table.view Target.plan s.target.targets
  stations : ∀ k, t.stationAt k = s.stationAt k
  unassigned : t.target.unassigned = s.target.unassigned
  sorted : Table.wf t.programme.entries = true
  was : s.entryAt slot = old
  now : ∀ e, t.entryAt e = if e = slot then new else s.entryAt e
  replaced : Table.Replaces s.programme.entries t.programme.entries old new
  named : ∀ x, new = some x → s.isVenue x.venue
  targetRefs : ∀ k, Moves (s.refsAt k) (t.refsAt k) (old.elim 0 fun x => if x.venue = k then 1 else 0)
    (new.elim 0 fun x => if x.venue = k then 1 else 0)

theorem Sound.entryReplaced {s t : State} (h : Sound s) {slot : Nat} {old new : Option Entry}
    (c : EntryReplaced s t slot old new) : Sound t := by
  have targets : Table.wf t.target.targets = true := (Table.wf_of_view c.plans).trans h.sorted.targets
  refine ⟨⟨c.graph ▸ h.sorted.edges, targets, c.cabin ▸ h.sorted.cabins, c.sorted, c.screen ▸ h.sorted.screens⟩,
    h.deck.of_views (by rw [c.graph]) (by rw [c.graph]) (by rw [c.graph]) c.plans (by rw [c.cabin])
      (by rw [c.screen]), ?_⟩
  refine h.targets.claimsMoved c.plans c.stations c.unassigned (by rw [c.cabin]) (fun e x he => ?_)
    (fun n x hn => ?_) _ _ c.targetRefs (fun k => ?_) (fun k => ?_)
  · rw [c.now] at he
    split at he
    · exact c.named x he
    · exact h.targets.venues e x he
  · rw [State.screenAt, c.screen] at hn
    exact h.targets.screens n x hn
  · have venues := c.replaced.count fun x => decide (x.venue = k)
    simp only [decide_eq_true_eq] at venues
    simp only [State.claimsOnTarget, c.cabin, c.screen]
    omega
  · have venues := Table.elim_le_total (fun x : Entry => if x.venue = k then 1 else 0) s.programme.entries slot
      h.sorted.entries
    have counted := Table.count_eq_total s.programme.entries fun x => decide (x.venue = k)
    rw [show Table.get s.programme.entries slot = old from c.was] at venues
    simp only [decide_eq_true_eq] at counted
    simp only [State.claimsOnTarget]
    omega

/-! ### Another table of entries -/

/-- The state with another table of entries. -/
def State.withEntries (s : State) (t : Table Entry) : State :=
  { s with programme := { s.programme with entries := t } }

/-- A mark of screen slots changes nothing that claims and counts read. -/
theorem books_mark (s : State) (p : Causes) : (s.mark p).books = s.books := by simp [State.books]

theorem books_modEntry (s : State) (slot : Nat) (f : Entry → Entry) (h : ∀ x, (f x).venue = x.venue) :
    (s.modEntry slot f).books = s.books := by
  have venues : Table.view Entry.venue (s.modEntry slot f).programme.entries =
      Table.view Entry.venue s.programme.entries := Table.view_modify _ _ _ _ h
  simp [State.books, venues]

/-! ### EVENT_PUT (R113, R114) -/

theorem isVenue_of_venueOk {s : State} {k : Nat} (h : s.venueOk k = true) : s.isVenue k := by
  rw [State.venueOk] at h
  cases e : s.targetAt k with
  | none => simp [e] at h
  | some x => exact ⟨x, e, by simpa [e] using h⟩

/-- The state of an EVENT_PUT once its record and its claim are in place. -/
def State.entryTaken (s : State) (slot : Nat) (e : Entry) : State :=
  (s.withEntries (Table.put s.programme.entries slot e)).claimTarget e.venue

theorem createEntry_eq (s : State) (slot : Nat) (e : Entry) (st : EntryState) :
    s.createEntry slot e st =
      let t := s.entryTaken slot { e with state := st }
      t.mark (t.entryCauses [e.venue]) := rfl

theorem entryTaken_replaces {s : State} (h : Sound s) {slot : Nat} {e : Entry} (free : s.entryAt slot = none)
    (venue : s.isVenue e.venue) : EntryReplaced s (s.entryTaken slot e) slot none (some e) := by
  have put := Table.replaces_put s.programme.entries slot e h.sorted.entries
  rw [show Table.get s.programme.entries slot = none from free] at put
  refine ⟨rfl, rfl, rfl, plans_modTarget _ _ _ fun _ => by rfl, fun k => stationAt_modTarget _ _ k _ fun _ => by rfl,
    rfl, Table.wf_put _ _ _ h.sorted.entries, free, fun j => Table.get_put _ _ _ _, put, fun x hx => ?_,
    fun k => ?_⟩
  · cases hx
    exact venue
  · rw [State.entryTaken, refsAt_claimTarget]
    exact Moves.add _ _

theorem createEntry_sound {s : State} (h : Sound s) {slot : Nat} {e : Entry} (st : EntryState)
    (free : s.entryAt slot = none) (venue : s.isVenue e.venue) : Sound (s.createEntry slot e st) :=
  (h.entryReplaced (entryTaken_replaces h free (e := { e with state := st }) venue)).of_books (books_mark _ _)

theorem eventPut_sound (b : EntryBody) {s : State} (h : Sound s) : Sound (eventPut b s).1 := by
  rw [eventPut]
  split
  · exact h
  · refine sound_ite (fun _ => h) fun _ => ?_
    split
    · exact h
    · refine sound_ite (fun _ => h) fun venue => sound_ite (fun _ => h) fun _ => ?_
      split
      · exact h
      · rename_i slot lowest
        dsimp only
        exact createEntry_sound h _ (Table.get_lowestFree lowest) (isVenue_of_venueOk (by simpa using venue))

/-! ### EVENT_AMEND (R115, R116) -/

theorem entryAt_of_modify {s t : State} {slot : Nat} {e : Entry} {f : Entry → Entry}
    (table : t.programme.entries = Table.modify s.programme.entries slot f) (held : s.entryAt slot = some e)
    (k : Nat) : t.entryAt k = if k = slot then some (f e) else s.entryAt k := by
  rw [State.entryAt, table, Table.get_modify]
  split
  · rename_i eq
    rw [eq, show Table.get s.programme.entries slot = some e from held]
    rfl
  · rfl

/-- The state of an EVENT_AMEND once its record and its claim have moved. -/
def State.entryMoved (s : State) (slot : Nat) (old new : Entry) : State :=
  if old.venue = new.venue then s.modEntry slot fun _ => new
  else ((s.modEntry slot fun _ => new).releaseTarget old.venue).claimTarget new.venue

theorem entryMoved_replaces {s : State} (h : Sound s) {slot : Nat} {old new : Entry}
    (was : s.entryAt slot = some old) (venue : s.isVenue new.venue) :
    EntryReplaced s (s.entryMoved slot old new) slot (some old) (some new) := by
  have modified := Table.replaces_modify s.programme.entries slot (fun _ => new) h.sorted.entries
  rw [show Table.get s.programme.entries slot = some old from was] at modified
  have sorted : Table.wf (Table.modify s.programme.entries slot fun _ => new) = true :=
    (Table.wf_modify _ _ _).trans h.sorted.entries
  have named : ∀ x, some new = some x → s.isVenue x.venue := fun x e => by cases e; exact venue
  rw [State.entryMoved]
  split
  · rename_i same
    refine ⟨rfl, rfl, rfl, rfl, fun _ => rfl, rfl, sorted, was, entryAt_of_modify (f := fun _ => new) rfl was,
      modified, named, fun k => ?_⟩
    show Moves (s.refsAt k) (s.refsAt k) _ _
    simp only [Option.elim_some, same]
    exact Moves.same _ _
  · refine ⟨rfl, rfl, rfl, ?_, fun k => ?_, rfl, sorted, was, entryAt_of_modify (f := fun _ => new) rfl was,
      modified, named, fun k => refsAt_releaseThenClaim (s.modEntry slot fun _ => new) _ _ k⟩
    · exact (plans_modTarget _ _ _ fun _ => by rfl).trans (plans_modTarget _ _ _ fun _ => by rfl)
    · exact (stationAt_modTarget _ _ k _ fun _ => by rfl).trans (stationAt_modTarget _ _ k _ fun _ => by rfl)

theorem amendEntry_sound {s : State} (h : Sound s) {slot : Nat} {old new : Entry} (was : s.entryAt slot = some old)
    (venue : s.isVenue new.venue) : Sound (s.amendEntry slot old new) := by
  rw [State.amendEntry]
  split
  · exact h
  · exact (h.entryReplaced (entryMoved_replaces h was venue)).of_books (books_mark _ _)

theorem eventAmend_sound (b : EntryAmendBody) {s : State} (h : Sound s) : Sound (eventAmend b s).1 := by
  rw [eventAmend]
  refine sound_ite (fun _ => h) fun _ => ?_
  split
  · exact h
  · rename_i slot old found
    have was : s.entryAt slot = some old := (Table.get_of_find h.sorted.entries found).1
    refine sound_ite (fun _ => h) fun _ => sound_ite (fun _ => h) fun _ => sound_ite (fun _ => h) fun venue => ?_
    refine amendEntry_sound h was ?_
    show s.isVenue (b.venue.getD old.venue)
    cases e : b.venue with
    | none => exact h.targets.venues slot old was
    | some v =>
      rw [e] at venue
      exact isVenue_of_venueOk (by simpa using venue)

/-! ### EVENT_CANCEL and EVENT_RETIRE (R117, R118) -/

theorem retireEntry_eq (s : State) (slot venue : Nat) :
    s.retireEntry slot venue = (s.withEntries (Table.del s.programme.entries slot)).releaseTarget venue := rfl

theorem entryAt_retireEntry (s : State) (slot venue k : Nat) :
    (s.retireEntry slot venue).entryAt k = if k = slot then none else s.entryAt k := Table.get_del _ _ _

theorem retireEntry_sound {s : State} (h : Sound s) {slot : Nat} {e : Entry} (was : s.entryAt slot = some e) :
    Sound (s.retireEntry slot e.venue) := by
  have del := Table.replaces_del s.programme.entries slot h.sorted.entries
  rw [show Table.get s.programme.entries slot = some e from was] at del
  refine h.entryReplaced (slot := slot) (new := none) ⟨rfl, rfl, rfl, plans_modTarget _ _ _ fun _ => by rfl,
    fun k => stationAt_modTarget _ _ k _ fun _ => by rfl, rfl, Table.wf_del _ _ h.sorted.entries, was,
    entryAt_retireEntry s slot e.venue, del, fun x hx => (nomatch hx), fun k => ?_⟩
  rw [retireEntry_eq, refsAt_releaseTarget]
  exact Moves.sub _ _

theorem dropEntry_sound {s : State} (h : Sound s) {slot : Nat} {e : Entry} (was : s.entryAt slot = some e) :
    Sound (s.dropEntry slot e) := (retireEntry_sound h was).of_books (books_mark _ _)

theorem cancelEntry_sound {s : State} (h : Sound s) (slot : Nat) (e : Entry) : Sound (s.cancelEntry slot e) :=
  h.of_books ((books_mark _ _).trans (books_modEntry _ _ _ fun _ => by rfl))

theorem eventCancel_sound (id : Nat) {s : State} (h : Sound s) : Sound (eventCancel id s).1 := by
  rw [eventCancel]
  refine sound_ite (fun _ => h) fun _ => ?_
  split
  · exact h
  · rename_i slot e found
    have was : s.entryAt slot = some e := (Table.get_of_find h.sorted.entries found).1
    cases e.state with
    | scheduled => exact cancelEntry_sound h slot e
    | cancelled => exact h
    | running => exact dropEntry_sound h was
    | suspended => exact dropEntry_sound h was
    | ended => exact h

theorem eventRetire_sound (id : Nat) {s : State} (h : Sound s) : Sound (eventRetire id s).1 := by
  rw [eventRetire]
  refine sound_ite (fun _ => h) fun _ => ?_
  split
  · exact h
  · rename_i slot e found
    exact dropEntry_sound h (Table.get_of_find h.sorted.entries found).1

/-! ### Judgements (R112, R124 to R127) -/

theorem insertBy_perm {α : Type} (before : α → α → Bool) (x : α) (l : List α) :
    (insertBy before x l).Perm (x :: l) := by
  induction l with
  | nil => exact List.Perm.refl _
  | cons y ys ih =>
    rw [insertBy]
    split
    · exact List.Perm.refl _
    · exact (ih.cons y).trans (List.Perm.swap x y ys)

theorem sortBy_perm {α : Type} (before : α → α → Bool) (l : List α) : (sortBy before l).Perm l := by
  induction l with
  | nil => exact List.Perm.refl _
  | cons x xs ih => exact (insertBy_perm _ x _).trans (ih.cons x)

theorem applyJudgement_sound {s : State} (h : Sound s) {slot : Nat} {e : Entry} (was : s.entryAt slot = some e)
    (j : Option EntryState) : Sound (s.applyJudgement slot e.venue j) := by
  cases j with
  | none => exact retireEntry_sound h was
  | some st => exact h.of_books (books_modEntry _ _ _ fun _ => by rfl)

theorem entryAt_applyJudgement (s : State) (slot venue : Nat) (j : Option EntryState) {k : Nat} (other : k ≠ slot) :
    (s.applyJudgement slot venue j).entryAt k = s.entryAt k := by
  cases j with
  | none => exact (entryAt_retireEntry s slot venue k).trans (if_neg other)
  | some st =>
    rw [State.applyJudgement, State.entryAt, State.modEntry, Table.get_modify, if_neg other]
    rfl

/-- Entries judged one after another, each with the record that it had when the list was made. -/
theorem judgements_sound (l : List (Nat × Entry × Option EntryState)) {s : State} (h : Sound s)
    (apart : (l.map (·.1)).Nodup) (live : ∀ r ∈ l, s.entryAt r.1 = some r.2.1) :
    Sound (l.foldl (fun s r => s.applyJudgement r.1 r.2.1.venue r.2.2) s) := by
  induction l generalizing s with
  | nil => exact h
  | cons r l ih =>
    rw [List.map_cons, List.nodup_cons] at apart
    refine ih (applyJudgement_sound h (live r List.mem_cons_self) _) apart.2 fun q hq => ?_
    rw [entryAt_applyJudgement]
    · exact live q (List.mem_cons_of_mem _ hq)
    · intro same
      exact apart.1 (same ▸ List.mem_map_of_mem hq)

theorem moveEntries_sound {s : State} (h : Sound s) (f : Entry → Option EntryState) : Sound (s.moveEntries f).1 := by
  have listed : (s.programmeList).Perm s.programme.entries := sortBy_perm _ _
  refine judgements_sound _ h ?_ fun r hr => ?_
  · have keys : (s.programmeList.map (·.1)).Nodup :=
      (listed.map _).nodup_iff.mpr ((Table.wf_iff _).mp h.sorted.entries |>.imp Nat.ne_of_lt)
    refine List.Nodup.sublist (List.Sublist.map _ List.filter_sublist) ?_
    rwa [List.map_map]
  · obtain ⟨q, hq, rfl⟩ := List.mem_map.mp (List.mem_filter.mp hr).1
    exact (Table.get_iff_mem _ h.sorted.entries _ _).mpr (listed.mem_iff.mp hq)

theorem programmeTakesTransition_sound {s : State} (h : Sound s) (old : MusterState) :
    Sound (s.programmeTakesTransition old).1 := by
  rw [State.programmeTakesTransition]
  split
  · exact moveEntries_sound h _
  · split
    · exact moveEntries_sound h _
    · exact h

theorem minuteEvent_sound {s : State} (h : Sound s) (now : Nat) : Sound (s.minuteEvent now).1 :=
  (moveEntries_sound h (s.judgement now)).of_books (books_mark _ _)

theorem setClock_sound {s : State} (h : Sound s) (c : ClockTime) : Sound (s.setClock c) := h.of_books rfl

theorem clockSet_sound (b : Nat × Nat) {s : State} (h : Sound s) : Sound (clockSet b s).1 := by
  rw [clockSet]
  exact sound_ite (fun _ => h) fun _ => minuteEvent_sound (setClock_sound h _) b.1

theorem secondPasses_sound {s : State} (h : Sound s) : Sound s.secondPasses := by
  rw [State.secondPasses]
  split
  · rename_i c _ _
    dsimp only
    split
    · exact minuteEvent_sound (setClock_sound h c.tick.1) c.tick.1.minute
    · exact setClock_sound h c.tick.1
  · exact h
  · exact h

end Sys2Proof.Machine
end

section
/-! The requests on screens keep a sound state sound (R133 to R137). -/

namespace Sys2Proof.Machine

/-! ### One screen's record changes, comes or goes -/

/-- How often a screen claims a target. -/
def Screen.claimsOn (k : Nat) (x : Screen) : Nat :=
  (if k ∈ x.shown then 1 else 0) + if x.override = some k then 1 else 0

/-- The reference counts of nodes and targets follow the two records, and all else that is recorded stays. -/
structure ScreenMoved (s t : State) (slot : Nat) (old new : Option Screen) : Prop where
  edges : t.graph.edges = s.graph.edges
  lifts : t.graph.openLifts = s.graph.openLifts
  cabin : t.cabin = s.cabin
  programme : t.programme = s.programme
  plans : Table.view Target.plan t.target.targets = Table.view Target.plan s.target.targets
  stations : ∀ k, t.stationAt k = s.stationAt k
  unassigned : t.target.unassigned = s.target.unassigned
  sorted : Table.wf t.screen.screens = true
  was : s.screenAt slot = old
  now : ∀ n, t.screenAt n = if n = slot then new else s.screenAt n
  replaced : Table.Replaces s.screen.screens t.screen.screens old new
  named : ∀ x, new = some x → s.screenNames x ∧ (s.node x.node).isSome
  degrees : ∀ n, t.nodeDegree n = s.nodeDegree n
  nodeRefs : ∀ n, Moves (s.nodeRefs n) (t.nodeRefs n) (old.elim 0 fun x => if x.node = n then 1 else 0)
    (new.elim 0 fun x => if x.node = n then 1 else 0)
  targetRefs : ∀ k, Moves (s.refsAt k) (t.refsAt k) (old.elim 0 (Screen.claimsOn k)) (new.elim 0 (Screen.claimsOn k))

theorem claimsOnTarget_eq (s : State) (k : Nat) :
    s.claimsOnTarget k = Table.count s.cabin.cabins (fun c => decide (k ∈ c.stations)) +
      Table.count s.programme.entries (fun e => decide (e.venue = k)) +
      Table.total (Screen.claimsOn k) s.screen.screens := by
  have sum : ∀ t : Table Screen, Table.total (Screen.claimsOn k) t =
      Table.count t (fun x => decide (k ∈ x.shown)) + Table.count t fun x => decide (x.override = some k) := by
    intro t
    rw [Table.count_eq_total, Table.count_eq_total]
    induction t with
    | nil => rfl
    | cons r t ih =>
      obtain ⟨n, x⟩ := r
      simp only [Table.total_cons, ih, Screen.claimsOn, decide_eq_true_eq]
      omega
  rw [State.claimsOnTarget, sum]
  omega

theorem Sound.screenReplaced {s t : State} (h : Sound s) {slot : Nat} {old new : Option Screen}
    (c : ScreenMoved s t slot old new) : Sound t := by
  have targets : Table.wf t.target.targets = true := (Table.wf_of_view c.plans).trans h.sorted.targets
  have bound : ∀ f : Screen → Nat, old.elim 0 f ≤ Table.total f s.screen.screens := fun f => by
    rw [← c.was]
    exact Table.elim_le_total f _ slot h.sorted.screens
  refine ⟨⟨c.edges ▸ h.sorted.edges, targets, c.cabin ▸ h.sorted.cabins, c.programme ▸ h.sorted.entries, c.sorted⟩,
    h.deck.refsMoved c.edges c.lifts c.degrees _ _ c.nodeRefs (fun n => ?_) (fun n => ?_) fun n free => ?_,
    h.targets.claimsMoved c.plans c.stations c.unassigned (by rw [c.cabin]) (fun e x he => ?_) (fun n x hn => ?_)
      _ _ c.targetRefs (fun k => ?_) fun k => ?_⟩
  · have stands := c.replaced.count fun x => decide (x.node = n)
    have anchors := Table.count_of_view (fun x => decide (x.anchor = n)) c.plans
      fun v w e => by rw [show v.anchor = w.anchor from congrArg TargetPlan.anchor e]
    simp only [decide_eq_true_eq] at stands
    simp only [State.claimsOnNode, State.endsAt, c.edges, c.cabin, anchors]
    omega
  · have stands := bound fun x => if x.node = n then 1 else 0
    have counted := Table.count_eq_total s.screen.screens fun x => decide (x.node = n)
    simp only [decide_eq_true_eq] at counted
    simp only [State.claimsOnNode]
    omega
  · cases e : new with
    | none => rfl
    | some x =>
      have live := (c.named x e).2
      by_cases at_ : x.node = n
      · simp [at_, free] at live
      · simp [at_]
  · rw [State.entryAt, c.programme] at he
    exact h.targets.venues e x he
  · rw [c.now] at hn
    split at hn
    · exact (c.named x hn).1
    · exact h.targets.screens n x hn
  · have claims := c.replaced (Screen.claimsOn k)
    simp only [claimsOnTarget_eq, c.cabin, c.programme]
    omega
  · have claims := bound (Screen.claimsOn k)
    rw [claimsOnTarget_eq]
    omega

/-! ### Another table of screens -/

/-- The state with another table of screens. -/
def State.withScreens (s : State) (t : Table Screen) : State := { s with screen := { s.screen with screens := t } }

theorem count_claims {x : Screen} (nodup : x.shown.Nodup) (k : Nat) : x.claims.count k = x.claimsOn k := by
  rw [Screen.claims, List.count_append, count_of_nodup nodup, Screen.claimsOn]
  cases x.override with
  | none => simp
  | some t => simp [List.count_singleton]

/-! ### SCREEN_PUT (R133) -/

theorem createScreen_eq (s : State) (n : Nat) (x : Screen) :
    s.createScreen n x =
      ((s.withScreens (Table.put s.screen.screens n x)).claimNode x.node).claimTargets x.claims := rfl

theorem createScreen_sound {s : State} (h : Sound s) {n : Nat} {x : Screen} (free : s.screenAt n = none)
    (named : s.screenNames x) (live : (s.node x.node).isSome) : Sound (s.createScreen n x) := by
  have put := Table.replaces_put s.screen.screens n x h.sorted.screens
  rw [show Table.get s.screen.screens n = none from free] at put
  rw [createScreen_eq]
  have graph : (((s.withScreens (Table.put s.screen.screens n x)).claimNode x.node).claimTargets x.claims).graph =
      (s.claimNode x.node).graph := (claimTargets_keeps _ _).1
  have screen : (((s.withScreens (Table.put s.screen.screens n x)).claimNode x.node).claimTargets
      x.claims).screen.screens = Table.put s.screen.screens n x := by
    simp only [claimTargets_keeps]
    rfl
  refine h.screenReplaced (slot := n) (old := none) (new := some x)
    { edges := by rw [graph]; rfl, lifts := by rw [graph]; rfl, cabin := by simp only [claimTargets_keeps]; rfl,
      programme := by simp only [claimTargets_keeps]; rfl, plans := plans_claimTargets _ _,
      stations := fun k => stationAt_claimTargets _ _ k, unassigned := unassigned_claimTargets _ _,
      sorted := by rw [screen]; exact Table.wf_put _ _ _ h.sorted.screens, was := free, now := fun m => ?now,
      replaced := by rw [screen]; exact put, named := fun y e => ?named, degrees := fun m => ?degrees,
      nodeRefs := fun m => ?nodeRefs, targetRefs := fun k => ?targetRefs }
  case now => rw [State.screenAt, screen, Table.get_put]; rfl
  case named => cases e; exact ⟨named, live⟩
  case degrees => rw [nodeDegree_of_graph graph, nodeDegree_claimNode]
  case nodeRefs =>
    rw [nodeRefs_of_graph graph, nodeRefs_claimNode]
    exact Moves.add _ _
  case targetRefs =>
    rw [refsAt_claimTargets, count_claims named.1]
    exact Moves.add _ _

/-- In a list without a first free target slot every target is live. -/
theorem live_of_firstFree {s : State} {l : List Nat} (h : s.firstFree l = none) (t : Nat) (ht : t ∈ l) :
    (s.targetAt t).isSome := by
  rw [Option.isSome_iff_ne_none]
  simpa using List.find?_eq_none.mp h t ht

theorem screenPut_sound (b : ScreenBody) {s : State} (h : Sound s) : Sound (screenPut b s).1 := by
  rw [screenPut]
  split
  · rename_i x l address _ _
    refine sound_ite (fun _ => h) fun lists => sound_ite (fun _ => h) fun node => ?_
    split
    · exact h
    · rename_i targets
      refine sound_ite (fun _ => h) fun override => sound_ite (fun _ => h) fun free => ?_
      have nodup : x.shown.Nodup := by
        simp only [Bool.or_eq_true, Bool.not_eq_true', not_or, Bool.not_eq_false] at lists
        simpa [distinct] using lists.1
      have live : (s.node x.node).isSome := by
        rw [Option.isSome_iff_ne_none]
        simpa using node
      refine createScreen_sound h (by simpa using free) ⟨nodup, live_of_firstFree targets, fun t e => ?_⟩ live
      simpa [e, Option.isSome_iff_ne_none] using override
  · exact h

/-! ### SCREEN_AMEND (R134) -/

/-- The claim on the override moves with a record. -/
def State.overrideMoved (s : State) (old new : Option Nat) : State :=
  if old = new then s else (s.releaseTargets old.toList).claimTargets new.toList

theorem overrideMoved_keeps (s : State) (old new : Option Nat) :
    (s.overrideMoved old new).graph = s.graph ∧ (s.overrideMoved old new).cabin = s.cabin ∧
    (s.overrideMoved old new).programme = s.programme ∧ (s.overrideMoved old new).screen = s.screen ∧
    (s.overrideMoved old new).target.unassigned = s.target.unassigned ∧
    Table.view Target.plan (s.overrideMoved old new).target.targets = Table.view Target.plan s.target.targets ∧
    ∀ k, (s.overrideMoved old new).stationAt k = s.stationAt k := by
  rw [State.overrideMoved]
  split <;> simp

theorem count_toList (o : Option Nat) (k : Nat) : o.toList.count k = if o = some k then 1 else 0 := by
  cases o with
  | none => rfl
  | some t => simp [List.count_singleton]

theorem moves_overrideMoved (s : State) (old new : Option Nat) (k : Nat) :
    Moves (s.refsAt k) ((s.overrideMoved old new).refsAt k) (if old = some k then 1 else 0)
      (if new = some k then 1 else 0) := by
  rw [State.overrideMoved]
  split
  · rename_i same
    rw [same]
    exact Moves.same _ _
  · rw [refsAt_claimTargets, refsAt_releaseTargets, count_toList, count_toList]
    exact ((Moves.sub _ _).trans (Moves.add _ _)).widen (by omega) (by omega)

/-- The claims on the shown targets move with a record. -/
def State.retarget (s : State) (old new : List Nat) : State :=
  (s.releaseTargets (old.filter fun t => decide (t ∉ new))).claimTargets (new.filter fun t => decide (t ∉ old))

theorem retarget_keeps (s : State) (old new : List Nat) :
    (s.retarget old new).graph = s.graph ∧ (s.retarget old new).cabin = s.cabin ∧
    (s.retarget old new).programme = s.programme ∧ (s.retarget old new).screen = s.screen ∧
    (s.retarget old new).target.unassigned = s.target.unassigned ∧
    Table.view Target.plan (s.retarget old new).target.targets = Table.view Target.plan s.target.targets ∧
    ∀ k, (s.retarget old new).stationAt k = s.stationAt k := by
  rw [State.retarget]
  simp

theorem moveScreenClaims_eq (s : State) (old new : Screen) :
    s.moveScreenClaims old new =
      ((s.reanchor old.node new.node).retarget old.shown new.shown).overrideMoved old.override new.override := rfl

theorem moveScreenClaims_of_stake (s : State) {old new : Screen} (same : new.stake = old.stake) :
    s.moveScreenClaims old new = s := by
  have node : new.node = old.node := congrArg ScreenStake.node same
  have shown : new.shown = old.shown := congrArg ScreenStake.shown same
  have override : new.override = old.override := congrArg ScreenStake.override same
  have none : old.shown.filter (fun t => decide (t ∉ old.shown)) = [] := by simp
  rw [moveScreenClaims_eq, node, shown, override, State.reanchor, if_pos rfl, State.overrideMoved, if_pos rfl,
    State.retarget, none]
  rfl

theorem amendScreen_sound {s : State} (h : Sound s) {n : Nat} {old new : Screen} (was : s.screenAt n = some old)
    (named : s.screenNames new) (live : (s.node new.node).isSome) : Sound (s.amendScreen n old new) := by
  obtain ⟨target₁, cabin₁, programme₁, screen₁, edges₁, lifts₁⟩ := reanchor_keeps s old.node new.node
  obtain ⟨graph₂, cabin₂, programme₂, screen₂, unassigned₂, plans₂, stations₂⟩ :=
    retarget_keeps (s.reanchor old.node new.node) old.shown new.shown
  obtain ⟨graph₃, cabin₃, programme₃, screen₃, unassigned₃, plans₃, stations₃⟩ :=
    overrideMoved_keeps ((s.reanchor old.node new.node).retarget old.shown new.shown) old.override new.override
  rw [← moveScreenClaims_eq] at graph₃ cabin₃ programme₃ screen₃ unassigned₃ plans₃ stations₃
  have graph : ((s.moveScreenClaims old new).modScreen n fun _ => new).graph = (s.reanchor old.node new.node).graph :=
    graph₃.trans graph₂
  have screens : ((s.moveScreenClaims old new).modScreen n fun _ => new).screen.screens =
      Table.modify s.screen.screens n fun _ => new := by
    rw [State.modScreen, screen₃, screen₂, screen₁]
  have modified := Table.replaces_modify s.screen.screens n (fun _ => new) h.sorted.screens
  rw [show Table.get s.screen.screens n = some old from was] at modified
  have held := (h.targets.screens n old was).1
  refine (h.screenReplaced (t := (s.moveScreenClaims old new).modScreen n fun _ => new) (slot := n)
    (old := some old) (new := some new)
    { edges := by rw [graph, edges₁], lifts := by rw [graph, lifts₁]
      cabin := (cabin₃.trans cabin₂).trans cabin₁, programme := (programme₃.trans programme₂).trans programme₁
      plans := (plans₃.trans plans₂).trans (by rw [target₁])
      stations := fun k => ((stations₃ k).trans (stations₂ k)).trans (stationAt_of_target target₁ k)
      unassigned := (unassigned₃.trans unassigned₂).trans (by rw [target₁])
      sorted := by rw [screens, Table.wf_modify]; exact h.sorted.screens, was := was, now := fun m => ?now
      replaced := by rw [screens]; exact modified, named := fun y e => ?named, degrees := fun m => ?degrees
      nodeRefs := fun m => ?nodeRefs, targetRefs := fun k => ?targetRefs }).of_books ?books
  case now =>
    rw [State.screenAt, screens, Table.get_modify]
    split
    · rename_i e
      rw [e, show Table.get s.screen.screens n = some old from was]
      rfl
    · rfl
  case named => cases e; exact ⟨named, live⟩
  case degrees => rw [nodeDegree_of_graph graph, nodeDegree_reanchor]
  case nodeRefs =>
    rw [nodeRefs_of_graph graph]
    exact moves_reanchor s _ _ m
  case targetRefs =>
    show Moves (s.refsAt k) ((s.moveScreenClaims old new).refsAt k) _ _
    rw [moveScreenClaims_eq, ← refsAt_of_target target₁ k]
    exact (moves_retarget (s.reanchor old.node new.node) held named.1 k).trans (moves_overrideMoved _ _ _ k)
  case books =>
    rw [State.amendScreen]
    simp [State.books]

theorem applyTo_override (b : ScreenAmendBody) (x : Screen) :
    (b.applyTo x).override = (b.override.bind optTargetOfRaw).getD x.override := rfl

theorem screenAmend_sound (b : ScreenAmendBody) {s : State} (h : Sound s) : Sound (screenAmend b s).1 := by
  rw [screenAmend]
  refine sound_ite (fun _ => h) fun _ => ?_
  split
  · exact h
  · rename_i l address _
    dsimp only
    split
    · exact h
    · rename_i old was
      refine sound_ite (fun _ => h) fun lists => sound_ite (fun _ => h) fun node => ?_
      split
      · exact h
      · rename_i targets
        refine sound_ite (fun _ => h) fun override => ?_
        obtain ⟨nodup, shown, station⟩ := h.targets.screens _ old was
        refine amendScreen_sound h was ⟨?_, ?_, ?_⟩ ?_
        · show (b.shown.getD old.shown).Nodup
          cases e : b.shown with
          | none => exact nodup
          | some given =>
            simp only [e, Bool.or_eq_true, not_or] at lists
            simpa [distinct] using lists.1
        · show ∀ t ∈ b.shown.getD old.shown, _
          cases e : b.shown with
          | none => exact shown
          | some given =>
            rw [e] at targets
            exact live_of_firstFree targets
        · rw [applyTo_override]
          cases e : b.override.bind optTargetOfRaw with
          | none => exact station
          | some given =>
            intro t ht
            simp only [Option.getD_some] at ht
            simpa [e, ht, Option.isSome_iff_ne_none] using override
        · show (s.node (b.node.getD old.node)).isSome
          cases e : b.node with
          | none => exact ((deckRight_iff h.sorted).mp h.deck).1.2.2.2.1 _ old was
          | some m =>
            rw [Option.getD_some, Option.isSome_iff_ne_none]
            simpa [e] using node

/-! ### NOTICE_SET (R137) -/

theorem books_giveNotice (notice : Nat) (p : Policy) {s : State} (h : Table.wf s.screen.screens = true)
    (r : Nat × Screen) {x : Screen} (live : s.screenAt r.1 = some x) (same : r.2.stake = x.stake) :
    (State.giveNotice notice p s r).books = s.books := by
  have stakes : Table.view Screen.stake (s.modScreen r.1 fun _ => r.2.withNotice notice p).screen.screens =
      Table.view Screen.stake s.screen.screens :=
    Table.view_modify_of_get Screen.stake (fun _ => r.2.withNotice notice p) s.screen.screens r.1 x h live same
  rw [State.giveNotice, State.amendScreen, moveScreenClaims_of_stake s (old := r.2) (by rfl)]
  simp [State.books, stakes]

/-- Notices given one after another, each to the record that a screen had when the list was made. -/
theorem books_giveNotices (notice : Nat) (p : Policy) (s : State) (h : Table.wf s.screen.screens = true)
    (l : List (Nat × Screen)) (listed : ∀ r ∈ l, s.screenAt r.1 = some r.2) (u : State) (same : u.books = s.books) :
    (l.foldl (State.giveNotice notice p) u).books = s.books := by
  induction l generalizing u with
  | nil => exact same
  | cons r l ih =>
    have stakes : Table.view Screen.stake s.screen.screens = Table.view Screen.stake u.screen.screens :=
      (congrArg Books.screens same).symm
    obtain ⟨x, live, eq⟩ := Table.get_of_view stakes (listed r List.mem_cons_self)
    refine ih (fun q hq => listed q (List.mem_cons_of_mem _ hq)) _ ?_
    exact (books_giveNotice notice p ((Table.wf_of_view stakes).symm.trans h) r live eq.symm).trans same

theorem noticeSet_sound (b : NoticeSetBody) {s : State} (h : Sound s) : Sound (noticeSet b s).1 := by
  rw [noticeSet]
  split
  · rename_i reach p _ _
    refine sound_ite (fun _ => h) fun _ => h.of_books ?_
    refine books_giveNotices b.notice p s h.sorted.screens _ (fun r hr => ?_) s rfl
    exact (Table.get_iff_mem _ h.sorted.screens _ _).mpr (List.mem_filter.mp hr).1
  · exact h

/-! ### SCREEN_RETIRE (R135) -/

/-- The state of a SCREEN_RETIRE once the record and its claims are gone. -/
def State.screenGone (s : State) (n : Nat) (x : Screen) : State :=
  ((s.releaseNode x.node).releaseTargets x.claims).withScreens (Table.del s.screen.screens n)

theorem screenGone_replaces {s : State} (h : Sound s) {n : Nat} {x : Screen} (was : s.screenAt n = some x) :
    ScreenMoved s (s.screenGone n x) n (some x) none := by
  have del := Table.replaces_del s.screen.screens n h.sorted.screens
  rw [show Table.get s.screen.screens n = some x from was] at del
  have graph : (s.screenGone n x).graph = (s.releaseNode x.node).graph := (releaseTargets_keeps _ _).1
  have target : (s.screenGone n x).target = ((s.releaseNode x.node).releaseTargets x.claims).target := rfl
  refine { edges := by rw [graph]; rfl, lifts := by rw [graph]; rfl, cabin := ?cabin, programme := ?programme,
           plans := plans_releaseTargets _ _, stations := fun k => stationAt_releaseTargets _ _ k,
           unassigned := unassigned_releaseTargets _ _, sorted := Table.wf_del _ _ h.sorted.screens, was := was,
           now := fun m => Table.get_del _ _ _, replaced := del, named := fun y e => (nomatch e),
           degrees := fun m => ?degrees, nodeRefs := fun m => ?nodeRefs, targetRefs := fun k => ?targetRefs }
  case cabin => exact (releaseTargets_keeps (s.releaseNode x.node) x.claims).2.2.1
  case programme =>
    show ((s.releaseNode x.node).releaseTargets x.claims).programme = s.programme
    simp
  case degrees => rw [nodeDegree_of_graph graph, nodeDegree_releaseNode]
  case nodeRefs =>
    rw [nodeRefs_of_graph graph, nodeRefs_releaseNode]
    exact Moves.sub _ _
  case targetRefs =>
    rw [refsAt_of_target target, refsAt_releaseTargets, count_claims (h.targets.screens n x was).1]
    exact Moves.sub _ _

theorem books_removeScreen (s : State) (n : Nat) (x : Screen) :
    (s.removeScreen n x).books = (s.screenGone n x).books := by
  have graph : (s.removeScreen n x).graph = (s.screenGone n x).graph := by
    have gone : (((s.modLink (linkOfScreen n) fun k => (k.leaveScreen n).detachExchange n).releaseNode
        x.node).releaseTargets x.claims).graph = (s.screenGone n x).graph := by
      rw [(releaseTargets_keeps _ _).1]
      exact (releaseTargets_keeps (s.releaseNode x.node) x.claims).1.symm
    rw [State.removeScreen]
    split <;> simpa using gone
  have target : (s.removeScreen n x).target = (s.screenGone n x).target := by
    have gone : (((s.modLink (linkOfScreen n) fun k => (k.leaveScreen n).detachExchange n).releaseNode
        x.node).releaseTargets x.claims).target = (s.screenGone n x).target :=
      releaseTargets_target_of_target (by rfl) _
    rw [State.removeScreen]
    split <;> simpa using gone
  have cabin : (s.removeScreen n x).cabin = (s.screenGone n x).cabin := by
    rw [State.removeScreen, State.screenGone, State.withScreens]
    split <;> simp
  have programme : (s.removeScreen n x).programme = (s.screenGone n x).programme := by
    rw [State.removeScreen, State.screenGone, State.withScreens]
    split <;> simp
  have screens : (s.removeScreen n x).screen.screens = (s.screenGone n x).screen.screens := by
    rw [State.removeScreen, State.screenGone, State.withScreens]
    split <;> simp
  simp only [State.books, graph, target, cabin, programme, screens]

theorem screenRetire_sound (b : Nat × Nat) {s : State} (h : Sound s) : Sound (screenRetire b s).1 := by
  rw [screenRetire]
  split
  · exact h
  · dsimp only
    split
    · exact h
    · rename_i x was
      exact (h.screenReplaced (screenGone_replaces h was)).of_books (books_removeScreen _ _ _)

end Sys2Proof.Machine
end

section
/-! The requests on targets keep a sound state sound: the records (R46 to R48). -/

namespace Sys2Proof.Machine

/-! ### What a claim shows -/

/-- Nobody claims a target exactly if no live record names it. -/
theorem claimsOnTarget_eq_zero_iff {s : State} (sorted : Sorted s) (k : Nat) :
    s.claimsOnTarget k = 0 ↔ (∀ c x, s.cabinAt c = some x → k ∉ x.stations) ∧
      (∀ e x, s.entryAt e = some x → x.venue ≠ k) ∧ (∀ n x, s.screenAt n = some x → k ∉ x.shown) ∧
      ∀ n x, s.screenAt n = some x → x.override ≠ some k := by
  simp only [State.claimsOnTarget, Nat.add_eq_zero_iff, Table.count_eq_zero_iff _ _ sorted.cabins,
    Table.count_eq_zero_iff _ _ sorted.entries, Table.count_eq_zero_iff _ _ sorted.screens,
    decide_eq_false_iff_not, and_assoc]
  rfl

theorem isSome_target_of_station {s : State} {k : Nat} (h : (s.stationAt k).isSome) : (s.targetAt k).isSome := by
  rw [State.stationAt] at h
  cases e : s.targetAt k with
  | none => simp [e] at h
  | some x => rfl

/-- A claimed target is live. -/
theorem live_of_claimed {s : State} (h : Sound s) {k : Nat} (claimed : s.claimsOnTarget k ≠ 0) :
    (s.targetAt k).isSome := by
  refine not_not.mp fun free => claimed ((claimsOnTarget_eq_zero_iff h.sorted k).mpr ⟨fun c x hc named => ?_,
    fun e x he named => ?_, fun n x hn named => ?_, fun n x hn named => ?_⟩)
  · obtain ⟨primary, alternate⟩ := h.targets.cabins c x hc
    rw [Cabin.stations, List.mem_cons, Option.mem_toList] at named
    rcases named with rfl | named
    · exact free (isSome_target_of_station primary)
    · exact free (isSome_target_of_station (alternate k named).2)
  · obtain ⟨v, live, _⟩ := h.targets.venues e x he
    rw [named] at live
    exact free (by rw [live]; rfl)
  · exact free ((h.targets.screens n x hn).2.1 k named)
  · exact free (isSome_target_of_station ((h.targets.screens n x hn).2.2 k named))

theorem total_congr {α : Type} {f g : α → Nat} {t : Table α} (sorted : Table.wf t = true)
    (h : ∀ k v, Table.get t k = some v → f v = g v) : Table.total f t = Table.total g t := by
  rw [Table.total, Table.total]
  congr 1
  exact List.map_congr_left fun r hr => h r.1 r.2 ((Table.get_iff_mem t sorted r.1 r.2).mpr hr)

/-- A place that is no station of any live cabin has no tally. -/
theorem tally_eq_zero {s : State} (sorted : Sorted s) (g : Figure) {k : Nat} (h : s.claimsOnTarget k = 0) :
    s.tally g (some k) = 0 := by
  have none : Table.total (fun c => if s.effective c = some k then c.figure g else 0) s.cabin.cabins =
      Table.total (fun _ => 0) s.cabin.cabins := by
    refine total_congr sorted.cabins fun c x hc => if_neg fun place => ?_
    exact ((claimsOnTarget_eq_zero_iff sorted k).mp h).1 c x hc (effective_eq_some place).2
  rw [tally_eq_total, none]
  simp [Table.total]

/-! ### One target's record changes, comes or goes -/

/-- The blocked flag that a station shows now. -/
def State.blockedAt (s : State) (k : Nat) : Option Bool := (s.stationAt k).map (·.blocked)

theorem unblocked_eq_blockedAt (s : State) (k : Nat) : s.unblocked k = (s.blockedAt k).any fun b => !b := by
  rw [State.unblocked, State.blockedAt]
  cases s.stationAt k <;> rfl

/-- Nothing is recorded of a record: no claim, no contribution. -/
def Target.Empty (x : Target) : Prop := x.refs = 0 ∧ ∀ st, x.station = some st → ∀ g, st.figure g = 0

/-- Two records of which the same is recorded. -/
def Target.Agrees (a b : Target) : Prop :=
  b.refs = a.refs ∧ b.station.map (·.blocked) = a.station.map (·.blocked) ∧
  ∀ g, b.station.map (·.figure g) = a.station.map (·.figure g)

/-- The reference counts of the nodes follow the anchors of the two records; a record that somebody claims keeps its
kind, its blocked flag and what is recorded of it. -/
structure TargetReplaced (s t : State) (slot : Nat) (old new : Option Target) : Prop where
  edges : t.graph.edges = s.graph.edges
  lifts : t.graph.openLifts = s.graph.openLifts
  cabin : t.cabin = s.cabin
  programme : t.programme = s.programme
  screen : t.screen = s.screen
  sorted : Table.wf t.target.targets = true
  was : s.targetAt slot = old
  now : ∀ k, (t.targetAt k).map Target.plan =
    if k = slot then new.map Target.plan else (s.targetAt k).map Target.plan
  anchors : ∀ n, Table.count t.target.targets (fun x => decide (x.anchor = n)) +
    (old.elim 0 fun x => if x.anchor = n then 1 else 0) =
    Table.count s.target.targets (fun x => decide (x.anchor = n)) + new.elim 0 fun x => if x.anchor = n then 1 else 0
  refs : ∀ k, t.refsAt k = if k = slot then new.map (·.refs) else s.refsAt k
  figures : ∀ g k, t.figureAt g k = if k = slot then (new.bind (·.station)).map (·.figure g) else s.figureAt g k
  flags : t.flagsRight
  unassigned : t.target.unassigned = s.target.unassigned
  degrees : ∀ n, t.nodeDegree n = s.nodeDegree n
  nodeRefs : ∀ n, Moves (s.nodeRefs n) (t.nodeRefs n) (old.elim 0 fun x => if x.anchor = n then 1 else 0)
    (new.elim 0 fun x => if x.anchor = n then 1 else 0)
  anchored : ∀ x, new = some x → (s.node x.anchor).isSome
  letters : ∀ x st, new = some x → x.station = some st →
    ∀ k st', s.stationAt k = some st' → k ≠ slot → st'.letter ≠ st.letter
  claims : (s.claimsOnTarget slot = 0 ∧ ∀ x, new = some x → x.Empty) ∨
    ∃ a b, old = some a ∧ new = some b ∧ a.Agrees b

namespace TargetReplaced

variable {s t : State} {slot : Nat} {old new : Option Target}

theorem plan_eq (c : TargetReplaced s t slot old new) (k : Nat) :
    (t.stationAt k).map Station.plan =
      if k = slot then (new.bind (·.station)).map Station.plan else (s.stationAt k).map Station.plan := by
  have bind : ∀ o : Option Target, (o.bind (·.station)).map Station.plan =
      (o.map Target.plan).bind (·.station) := fun o => by cases o <;> rfl
  rw [State.stationAt, bind, c.now]
  split
  · rw [bind]
  · rw [State.stationAt, bind]

/-- A claimed target keeps its kind and its blocked flag. -/
theorem claimed_keeps (c : TargetReplaced s t slot old new) {k : Nat} (claimed : s.claimsOnTarget k ≠ 0) :
    t.blockedAt k = s.blockedAt k ∧ (t.targetAt k).isSome = (s.targetAt k).isSome := by
  have shown : ∀ o : Option Station, o.map (·.blocked) = (o.map Station.plan).map (·.blocked) := fun o => by
    cases o <;> rfl
  have live : (t.targetAt k).isSome = ((t.targetAt k).map Target.plan).isSome := by simp
  rw [State.blockedAt, State.blockedAt, shown, c.plan_eq, live, c.now]
  split
  · rename_i e
    subst e
    rcases c.claims with ⟨none, _⟩ | ⟨a, b, rfl, rfl, _, blocked, _⟩
    · exact absurd none claimed
    · refine ⟨?_, by rw [c.was]; rfl⟩
      rw [← shown, State.stationAt, c.was]
      exact blocked
  · exact ⟨(shown _).symm, by simp⟩

theorem isSome_stationAt (c : TargetReplaced s t slot old new) {k : Nat} (claimed : s.claimsOnTarget k ≠ 0) :
    (t.stationAt k).isSome = (s.stationAt k).isSome := by
  simpa [State.blockedAt] using congrArg Option.isSome (c.claimed_keeps claimed).1

/-- What a live record names is claimed. -/
theorem claimed_of_named (h : Sound s) {k : Nat} (named : (∃ i x, s.cabinAt i = some x ∧ k ∈ x.stations) ∨
    (∃ e x, s.entryAt e = some x ∧ x.venue = k) ∨ (∃ n x, s.screenAt n = some x ∧ k ∈ x.shown) ∨
    ∃ n x, s.screenAt n = some x ∧ x.override = some k) : s.claimsOnTarget k ≠ 0 := by
  intro zero
  obtain ⟨stations, venues, shown, overrides⟩ := (claimsOnTarget_eq_zero_iff h.sorted k).mp zero
  rcases named with ⟨i, x, hi, hk⟩ | ⟨e, x, he, hk⟩ | ⟨n, x, hn, hk⟩ | ⟨n, x, hn, hk⟩
  · exact stations i x hi hk
  · exact venues e x he hk
  · exact shown n x hn hk
  · exact overrides n x hn hk

/-- No live cabin's effective station moves. -/
theorem effective_keeps (c : TargetReplaced s t slot old new) (h : Sound s) {i : Nat} {x : Cabin}
    (live : s.cabinAt i = some x) : t.effective x = s.effective x := by
  have keeps : ∀ k, k ∈ x.stations → t.unblocked k = s.unblocked k := fun k hk => by
    rw [unblocked_eq_blockedAt, unblocked_eq_blockedAt,
      (c.claimed_keeps (claimed_of_named h (.inl ⟨i, x, live, hk⟩))).1]
  have primary := keeps x.primary (by simp [Cabin.stations])
  simp only [State.effective, primary]
  split
  · rfl
  · split
    · rfl
    · rename_i a alternate
      rw [keeps a (by simp [Cabin.stations, alternate])]

theorem tally_keeps (c : TargetReplaced s t slot old new) (h : Sound s) (g : Figure) (p : Option Nat) :
    t.tally g p = s.tally g p := by
  rw [tally_eq_total, tally_eq_total, c.cabin]
  refine total_congr h.sorted.cabins fun i x live => ?_
  rw [c.effective_keeps h live]

theorem claimsOnTarget_keeps (c : TargetReplaced s t slot old new) (k : Nat) :
    t.claimsOnTarget k = s.claimsOnTarget k := by
  simp only [State.claimsOnTarget, c.cabin, c.programme, c.screen]

theorem deck (c : TargetReplaced s t slot old new) (h : Sound s) : DeckRight t := by
  refine h.deck.refsMoved c.edges c.lifts c.degrees _ _ c.nodeRefs (fun n => ?_) (fun n => ?_) fun n free => ?_
  · have anchors := c.anchors n
    simp only [State.claimsOnNode, State.endsAt, c.edges, c.cabin, c.screen]
    omega
  · have anchors := Table.elim_le_total (fun x : Target => if x.anchor = n then 1 else 0) s.target.targets slot
      h.sorted.targets
    have counted := Table.count_eq_total s.target.targets fun x => decide (x.anchor = n)
    rw [show Table.get s.target.targets slot = old from c.was] at anchors
    simp only [decide_eq_true_eq] at counted
    simp only [State.claimsOnNode]
    omega
  · cases e : new with
    | none => rfl
    | some x =>
      have live := c.anchored x e
      by_cases at_ : x.anchor = n
      · simp [at_, free] at live
      · simp [at_]

/-- The letters stay apart. -/
theorem lettersApart (c : TargetReplaced s t slot old new) (h : Sound s) (j k : Nat) (a b : Station)
    (hj : t.stationAt j = some a) (hk : t.stationAt k = some b) (same : a.letter = b.letter) : j = k := by
  have held : ∀ i st, t.stationAt i = some st → i ≠ slot → ∃ st', s.stationAt i = some st' ∧ st'.letter = st.letter := by
    intro i st hi other
    have plan := c.plan_eq i
    rw [hi, if_neg other] at plan
    obtain ⟨st', live, eq⟩ := Option.map_eq_some_iff.mp plan.symm
    exact ⟨st', live, congrArg StationPlan.letter eq⟩
  have fresh : ∀ st, t.stationAt slot = some st →
      ∃ x st', new = some x ∧ x.station = some st' ∧ st'.letter = st.letter := by
    intro st hi
    have plan := c.plan_eq slot
    rw [hi, if_pos rfl] at plan
    obtain ⟨st', live, eq⟩ := Option.map_eq_some_iff.mp plan.symm
    obtain ⟨x, hx, hst⟩ := Option.bind_eq_some_iff.mp live
    exact ⟨x, st', hx, hst, congrArg StationPlan.letter eq⟩
  have apart : ∀ i st st₀, t.stationAt i = some st → i ≠ slot → t.stationAt slot = some st₀ →
      st.letter ≠ st₀.letter := by
    intro i st st₀ hi other h₀ same
    obtain ⟨st', live, eq⟩ := held i st hi other
    obtain ⟨x, st₁, hx, hst, eq₀⟩ := fresh st₀ h₀
    exact c.letters x st₁ hx hst i st' live other (by rw [eq, same, eq₀])
  by_cases ej : j = slot
  · by_cases ek : k = slot
    · rw [ej, ek]
    · exact absurd same.symm (apart k b a hk ek (ej ▸ hj))
  · by_cases ek : k = slot
    · exact absurd same (apart j a b hj ej (ek ▸ hk))
    · obtain ⟨a', ha, ea⟩ := held j a hj ej
      obtain ⟨b', hb, eb⟩ := held k b hk ek
      exact h.targets.letters j k a' b' ha hb (by rw [ea, eb, same])

theorem targets (c : TargetReplaced s t slot old new) (h : Sound s) : TargetsRight t := by
  refine ⟨fun i x hi => ?_, fun e x he => ?_, fun n x hn => ?_, c.lettersApart h, fun k n hk => ?_, fun g k n hk => ?_,
    c.flags, by rw [c.unassigned, c.tally_keeps h]; exact h.targets.unassigned⟩
  · rw [State.cabinAt, c.cabin] at hi
    obtain ⟨primary, alternate⟩ := h.targets.cabins i x hi
    have claimed : ∀ k, k ∈ x.stations → s.claimsOnTarget k ≠ 0 := fun k hk =>
      claimed_of_named h (.inl ⟨i, x, hi, hk⟩)
    refine ⟨?_, fun a ha => ⟨(alternate a ha).1, ?_⟩⟩
    · rw [c.isSome_stationAt (claimed _ (by simp [Cabin.stations]))]
      exact primary
    · rw [c.isSome_stationAt (claimed _ (by simp [Cabin.stations, ha]))]
      exact (alternate a ha).2
  · rw [State.entryAt, c.programme] at he
    obtain ⟨v, hv, plain⟩ := h.targets.venues e x he
    have claimed := claimed_of_named h (.inr (.inl ⟨e, x, he, rfl⟩))
    have live := (c.claimed_keeps claimed).2
    have kind := c.isSome_stationAt claimed
    rw [hv] at live
    obtain ⟨w, hw⟩ := Option.isSome_iff_exists.mp live
    refine ⟨w, hw, ?_⟩
    rw [State.stationAt, State.stationAt, hv, hw] at kind
    simpa [plain] using kind
  · rw [State.screenAt, c.screen] at hn
    obtain ⟨nodup, shown, station⟩ := h.targets.screens n x hn
    refine ⟨nodup, fun k hk => ?_, fun k hk => ?_⟩
    · rw [(c.claimed_keeps (claimed_of_named h (.inr (.inr (.inl ⟨n, x, hn, hk⟩))))).2]
      exact shown k hk
    · rw [c.isSome_stationAt (claimed_of_named h (.inr (.inr (.inr ⟨n, x, hn, hk⟩))))]
      exact station k hk
  · rw [c.refs] at hk
    rw [c.claimsOnTarget_keeps]
    split at hk
    · rename_i e
      subst e
      obtain ⟨x, hx, rfl⟩ := Option.map_eq_some_iff.mp hk
      rcases c.claims with ⟨none, empty⟩ | ⟨a, b, rfl, rfl, refs, _⟩
      · rw [none, (empty x hx).1]
      · cases hx
        exact h.targets.refs k _ (by rw [State.refsAt, c.was, refs]; rfl)
    · exact h.targets.refs k n hk
  · rw [c.figures] at hk
    rw [c.tally_keeps h]
    split at hk
    · rename_i e
      subst e
      rcases c.claims with ⟨none, empty⟩ | ⟨a, b, rfl, rfl, _, _, figure⟩
      · obtain ⟨st, hst, rfl⟩ := Option.map_eq_some_iff.mp hk
        obtain ⟨x, hx, station⟩ := Option.bind_eq_some_iff.mp hst
        rw [(empty x hx).2 st station g, tally_eq_zero h.sorted g none]
      · refine h.targets.tallies g k n ?_
        rw [State.figureAt, State.stationAt, c.was]
        exact (figure g).symm.trans hk
    · exact h.targets.tallies g k n hk

end TargetReplaced

theorem Sound.targetReplaced {s t : State} (h : Sound s) {slot : Nat} {old new : Option Target}
    (c : TargetReplaced s t slot old new) : Sound t :=
  ⟨⟨c.edges ▸ h.sorted.edges, c.sorted, c.cabin ▸ h.sorted.cabins, c.programme ▸ h.sorted.entries,
    c.screen ▸ h.sorted.screens⟩, c.deck h, c.targets h⟩

end Sys2Proof.Machine
end

section
/-! TARGET_PUT and TARGET_RETIRE keep a sound state sound (R46 to R48). -/

namespace Sys2Proof.Machine

/-- The state with another table of targets. -/
def State.withTargets (s : State) (t : Table Target) : State :=
  { s with target := { s.target with targets := t } }

/-- The anchors after a record took the place of another, from the sums over the table. -/
theorem anchors_of_replaces {t u : Table Target} {old new : Option Target} (h : Table.Replaces t u old new) (n : Nat) :
    Table.count u (fun x => decide (x.anchor = n)) + (old.elim 0 fun x => if x.anchor = n then 1 else 0) =
      Table.count t (fun x => decide (x.anchor = n)) + new.elim 0 fun x => if x.anchor = n then 1 else 0 := by
  have anchors := h.count fun x => decide (x.anchor = n)
  simpa only [decide_eq_true_eq] using anchors

/-- What is read of a target whose record is known. -/
theorem reads_of_targetAt {s t : State} {slot : Nat} {new : Option Target}
    (now : ∀ k, t.targetAt k = if k = slot then new else s.targetAt k) :
    (∀ k, t.stationAt k = if k = slot then new.bind (·.station) else s.stationAt k) ∧
    (∀ k, t.refsAt k = if k = slot then new.map (·.refs) else s.refsAt k) ∧
    ∀ g k, t.figureAt g k = if k = slot then (new.bind (·.station)).map (·.figure g) else s.figureAt g k := by
  have station : ∀ k, t.stationAt k = if k = slot then new.bind (·.station) else s.stationAt k := fun k => by
    rw [State.stationAt, now]
    split <;> rfl
  refine ⟨station, fun k => ?_, fun g k => ?_⟩
  · rw [State.refsAt, now]
    split <;> rfl
  · rw [State.figureAt, station]
    split <;> rfl

/-- No other live station holds a letter that has no holder. -/
theorem letters_of_holder {s : State} (sorted : Sorted s) {letter slot : Nat} (h : s.holderOfLetter letter slot = none)
    (k : Nat) (st : Station) (live : s.stationAt k = some st) (other : k ≠ slot) : st.letter ≠ letter := by
  intro same
  obtain ⟨x, hx, hst⟩ := Option.bind_eq_some_iff.mp live
  rw [State.holderOfLetter, Option.map_eq_none_iff, List.find?_eq_none] at h
  have unheld := h (k, x) ((Table.get_iff_mem _ sorted.targets _ _).mp hx)
  simp [other, hst, same] at unheld

/-! ### A TARGET_PUT that creates (R46) -/

/-- The state of a TARGET_PUT once a new record and its claim are in place. -/
def State.targetTaken (s : State) (k : Nat) (x : Target) : State :=
  (s.withTargets (Table.put s.target.targets k x)).claimNode x.anchor

/-- A new target. -/
def TargetBody.target (b : TargetBody) (given : Option (Nat × Nat)) : Target :=
  { anchor := b.anchor, label := b.label, refs := 0, station := stationAfter given none }

theorem createTarget_eq (s : State) (b : TargetBody) (given : Option (Nat × Nat)) :
    s.createTarget b given =
      (let t := (s.targetTaken b.id (b.target given)).createMaps b.id
       (if given.isSome then t.mark everyMuster else t).startBuild) := rfl

theorem books_createTarget (s : State) (b : TargetBody) (given : Option (Nat × Nat)) :
    (s.createTarget b given).books = (s.targetTaken b.id (b.target given)).books := by
  rw [createTarget_eq]
  dsimp only
  split <;> simp [State.books]

theorem isOver_fresh (letter capacity : Nat) : (Station.fresh letter capacity).isOver = false := by
  simp [Station.fresh, Station.isOver]

theorem targetTaken_replaces {s : State} (h : Sound s) {k : Nat} {x : Target} (free : s.targetAt k = none)
    (anchor : (s.node x.anchor).isSome) (empty : x.Empty)
    (flag : ∀ st, x.station = some st → st.overFlag = st.isOver)
    (letters : ∀ st, x.station = some st → ∀ i st', s.stationAt i = some st' → i ≠ k → st'.letter ≠ st.letter) :
    TargetReplaced s (s.targetTaken k x) k none (some x) := by
  have put := Table.replaces_put s.target.targets k x h.sorted.targets
  rw [show Table.get s.target.targets k = none from free] at put
  have now : ∀ i, (s.targetTaken k x).targetAt i = if i = k then some x else s.targetAt i := fun i =>
    Table.get_put _ _ _ _
  obtain ⟨stations, refs, figures⟩ := reads_of_targetAt now
  refine { edges := rfl, lifts := rfl, cabin := rfl, programme := rfl, screen := rfl
           sorted := Table.wf_put _ _ _ h.sorted.targets, was := free
           now := fun i => by rw [now]; split <;> rfl
           anchors := anchors_of_replaces put, refs := refs, figures := figures, flags := fun i st hi => ?flags
           unassigned := rfl, degrees := fun n => nodeDegree_claimNode _ _ _, nodeRefs := fun n => ?nodeRefs
           anchored := fun y e => by cases e; exact anchor, letters := fun y st e hst => by cases e; exact letters st hst
           claims := .inl ⟨?unclaimed, fun y e => by cases e; exact empty⟩ }
  case flags =>
    rw [stations] at hi
    split at hi
    · exact flag st hi
    · exact h.targets.flags i st hi
  case nodeRefs =>
    rw [State.targetTaken, nodeRefs_claimNode]
    exact Moves.add _ _
  case unclaimed => exact not_not.mp fun claimed => by simpa [free] using live_of_claimed h claimed

theorem target_empty (b : TargetBody) (given : Option (Nat × Nat)) : (b.target given).Empty := by
  refine ⟨rfl, fun st hst g => ?_⟩
  cases given with
  | none => simp [TargetBody.target, stationAfter] at hst
  | some lc =>
    cases hst
    cases g <;> rfl

theorem createTarget_sound {s : State} (h : Sound s) (b : TargetBody) {given : Option (Nat × Nat)}
    (free : s.targetAt b.id = none) (anchor : (s.node b.anchor).isSome)
    (letters : ∀ lc, given = some lc → s.holderOfLetter lc.1 b.id = none) : Sound (s.createTarget b given) := by
  refine (h.targetReplaced (targetTaken_replaces h free anchor (target_empty b given) (fun st hst => ?_)
    fun st hst => ?_)).of_books (books_createTarget s b given)
  · cases given with
    | none => simp [TargetBody.target, stationAfter] at hst
    | some lc =>
      cases hst
      exact (isOver_fresh _ _).symm
  · cases given with
    | none => simp [TargetBody.target, stationAfter] at hst
    | some lc =>
      cases hst
      exact letters_of_holder h.sorted (letters lc rfl)

/-! ### A TARGET_PUT that amends (R47) -/

/-- The fields that a TARGET_PUT gives anew. -/
def Target.given (new x : Target) : Target := { x with anchor := new.anchor, label := new.label, station := new.station }

/-- The state of a TARGET_PUT once a held record and its claim have moved. -/
def State.targetMoved (s : State) (k : Nat) (old new : Target) : State :=
  if decide (new.anchor ≠ old.anchor) then ((s.modTarget k new.given).releaseNode old.anchor).claimNode new.anchor
  else s.modTarget k new.given

theorem targetMoved_eq (s : State) (k : Nat) (old new : Target) :
    s.targetMoved k old new = (s.modTarget k new.given).reanchor old.anchor new.anchor := by
  rw [State.targetMoved, State.reanchor]
  by_cases e : old.anchor = new.anchor
  · simp [e]
  · simp [e, Ne.symm e]

/-- What the Route Engine then makes of a kind and an anchor that change. -/
def State.targetRerouted (s : State) (k : Nat) (hurried moved : Bool) : State :=
  let s := if hurried && s.musterNow.proper then s.hurryTarget k else s
  if moved then s.anchorMoved k else s

theorem targetRerouted_keeps (s : State) (k : Nat) (hurried moved : Bool) :
    (s.targetRerouted k hurried moved).graph = s.graph ∧ (s.targetRerouted k hurried moved).target = s.target ∧
    (s.targetRerouted k hurried moved).cabin = s.cabin ∧
    (s.targetRerouted k hurried moved).programme = s.programme ∧
    (s.targetRerouted k hurried moved).screen = s.screen := by
  rw [State.targetRerouted]
  and_intros <;> split <;> split <;> simp

/-- The over flags judged, if they are to be. -/
def State.judgedIf (s before : State) (kept : Bool) : State := if kept then s.judgeOver before else s

/-- What is judged changes the over flags alone. -/
theorem judgedIf_keeps (s before : State) (kept : Bool) :
    (s.judgedIf before kept).graph = s.graph ∧ (s.judgedIf before kept).cabin = s.cabin ∧
    (s.judgedIf before kept).programme = s.programme ∧ (s.judgedIf before kept).screen = s.screen ∧
    (s.judgedIf before kept).target.unassigned = s.target.unassigned ∧
    Table.view Target.plan (s.judgedIf before kept).target.targets = Table.view Target.plan s.target.targets ∧
    (∀ k, (s.judgedIf before kept).refsAt k = s.refsAt k) ∧
    ∀ g k, (s.judgedIf before kept).figureAt g k = s.figureAt g k := by
  rw [State.judgedIf]
  split <;> simp

/-- The record of a held target after a TARGET_PUT. -/
def TargetBody.amends (b : TargetBody) (given : Option (Nat × Nat)) (old : Target) : Target :=
  { old with anchor := b.anchor, label := b.label, station := stationAfter given old.station }

/-- A TARGET_PUT's record, claim, maps and over flags; what follows reaches faces, slots and queues alone. -/
def State.targetAmended (s : State) (k : Nat) (old new : Target) : State :=
  ((s.targetMoved k old new).targetRerouted k
    (decide (new.station.isSome ≠ old.station.isSome) && new.station.isSome)
    (decide (new.anchor ≠ old.anchor))).judgedIf s (new.station.isSome && old.station.isSome)

theorem amendTarget_eq (s : State) (b : TargetBody) (given : Option (Nat × Nat)) (old : Target) :
    s.amendTarget b given old =
      (let new := b.amends given old
       let kept := new.station.isSome && old.station.isSome
       let letter := kept && decide (new.station.map (·.letter) ≠ old.station.map (·.letter))
       let t := s.targetAmended b.id old new
       let t := if letter then t.facesChanged (t.assignedTo b.id) else t
       (t.mark (t.amendTargetCauses b.id (decide (new.station.isSome ≠ old.station.isSome)) letter
         (decide (b.label ≠ old.label)))).settle) := rfl

theorem books_amendTarget (s : State) (b : TargetBody) (given : Option (Nat × Nat)) (old : Target) :
    (s.amendTarget b given old).books = (s.targetAmended b.id old (b.amends given old)).books := by
  rw [amendTarget_eq]
  dsimp only
  split <;> simp [State.books, State.settle]

/-- What a TARGET_PUT leaves of a held target, block by block. -/
theorem targetAmended_blocks (s : State) (k : Nat) (old new : Target) :
    (s.targetAmended k old new).graph = ((s.modTarget k new.given).reanchor old.anchor new.anchor).graph ∧
    (s.targetAmended k old new).cabin = s.cabin ∧ (s.targetAmended k old new).programme = s.programme ∧
    (s.targetAmended k old new).screen = s.screen ∧
    (s.targetAmended k old new).target.unassigned = s.target.unassigned ∧
    Table.view Target.plan (s.targetAmended k old new).target.targets =
      Table.view Target.plan (s.modTarget k new.given).target.targets ∧
    (∀ i, (s.targetAmended k old new).refsAt i = (s.modTarget k new.given).refsAt i) ∧
    (∀ g i, (s.targetAmended k old new).figureAt g i = (s.modTarget k new.given).figureAt g i) := by
  obtain ⟨target₀, cabin₀, programme₀, screen₀, _, _⟩ :=
    reanchor_keeps (s.modTarget k new.given) old.anchor new.anchor
  obtain ⟨graph₁, target₁, cabin₁, programme₁, screen₁⟩ := targetRerouted_keeps (s.targetMoved k old new) k
    (decide (new.station.isSome ≠ old.station.isSome) && new.station.isSome) (decide (new.anchor ≠ old.anchor))
  obtain ⟨graph₂, cabin₂, programme₂, screen₂, unassigned₂, plans₂, refs₂, figures₂⟩ := judgedIf_keeps
    ((s.targetMoved k old new).targetRerouted k
      (decide (new.station.isSome ≠ old.station.isSome) && new.station.isSome) (decide (new.anchor ≠ old.anchor))) s
    (new.station.isSome && old.station.isSome)
  rw [targetMoved_eq] at graph₁ target₁ cabin₁ programme₁ screen₁
  simp only [targetMoved_eq] at graph₂ cabin₂ programme₂ screen₂ unassigned₂ plans₂ refs₂ figures₂
  have target := target₁.trans target₀
  rw [State.targetAmended, targetMoved_eq]
  refine ⟨graph₂.trans graph₁, (cabin₂.trans cabin₁).trans cabin₀, (programme₂.trans programme₁).trans programme₀,
    (screen₂.trans screen₁).trans screen₀, unassigned₂.trans (by rw [target]; rfl), plans₂.trans (by rw [target]),
    fun i => (refs₂ i).trans (refsAt_of_target target i), fun g i => (figures₂ g i).trans (figureAt_of_target target g i)⟩

/-- The over flags after a TARGET_PUT: judged for a station that stays one, and right for a new one. -/
theorem targetAmended_flags {s : State} (h : s.flagsRight) {k : Nat} {old new : Target}
    (now : ∀ i, (s.modTarget k new.given).targetAt i = if i = k then some new else s.targetAt i)
    (was : s.targetAt k = some old)
    (flag : ∀ st, new.station = some st → old.station.map (·.overFlag) = some st.overFlag ∨
      (old.station = none ∧ st.overFlag = st.isOver)) : (s.targetAmended k old new).flagsRight := by
  have target : ((s.targetMoved k old new).targetRerouted k
      (decide (new.station.isSome ≠ old.station.isSome) && new.station.isSome)
      (decide (new.anchor ≠ old.anchor))).target = (s.modTarget k new.given).target := by
    rw [(targetRerouted_keeps _ _ _ _).2.1, targetMoved_eq, (reanchor_keeps _ _ _).1]
  obtain ⟨stations, _, _⟩ := reads_of_targetAt now
  rw [State.targetAmended, State.judgedIf]
  split
  · rename_i kept
    rw [Bool.and_eq_true] at kept
    refine flagsRight_judgeOver h fun i => ?_
    rw [flagAt_of_target target, State.flagAt, stations]
    split
    · rename_i e
      obtain ⟨st, hst⟩ := Option.isSome_iff_exists.mp kept.1
      rw [State.flagAt, State.stationAt, e, was, Option.bind_some, Option.bind_some, hst]
      rcases flag st hst with same | ⟨none, _⟩
      · exact same.symm
      · simp [none] at kept
    · rfl
  · rename_i unkept
    intro i st hi
    rw [stationAt_of_target target, stations] at hi
    split at hi
    · rcases flag st hi with same | ⟨_, right⟩
      · have held : old.station.isSome := by
          rw [← Option.isSome_map (f := fun st : Station => st.overFlag), same]
          rfl
        simp [held, show new.station = some st from hi] at unkept
      · exact right
    · exact h i st hi

theorem targetAmended_replaces {s : State} (h : Sound s) {k : Nat} {old new : Target} (was : s.targetAt k = some old)
    (refs : new.refs = old.refs) (anchor : (s.node new.anchor).isSome)
    (letters : ∀ st, new.station = some st → ∀ i st', s.stationAt i = some st' → i ≠ k → st'.letter ≠ st.letter)
    (claims : (s.claimsOnTarget k = 0 ∧ new.Empty) ∨ old.Agrees new)
    (flag : ∀ st, new.station = some st → old.station.map (·.overFlag) = some st.overFlag ∨
      (old.station = none ∧ st.overFlag = st.isOver)) :
    TargetReplaced s (s.targetAmended k old new) k (some old) (some new) := by
  have held : Table.get s.target.targets k = some old := was
  have made : new.given old = new := by
    rw [Target.given, ← refs]
  have now : ∀ i, (s.modTarget k new.given).targetAt i = if i = k then some new else s.targetAt i := fun i => by
    rw [targetAt_modTarget]
    split
    · rename_i e
      rw [e, was, Option.map_some, made]
    · simp
  obtain ⟨stations, refsAt, figures⟩ := reads_of_targetAt now
  obtain ⟨graph, cabin, programme, screen, unassigned, plans, refs', figures'⟩ := targetAmended_blocks s k old new
  obtain ⟨_, _, _, _, edges, lifts⟩ := reanchor_keeps (s.modTarget k new.given) old.anchor new.anchor
  have plan : ∀ i, ((s.targetAmended k old new).targetAt i).map Target.plan =
      ((s.modTarget k new.given).targetAt i).map Target.plan := fun i => by
    have shown := congrArg (fun u => Table.get u i) plans
    simp only [Table.get_view] at shown
    exact shown
  have modified := Table.replaces_modify s.target.targets k new.given h.sorted.targets
  rw [held, Option.map_some, made] at modified
  exact {
    edges := by rw [graph, edges]; rfl
    lifts := by rw [graph, lifts]; rfl
    cabin := cabin, programme := programme, screen := screen
    sorted := (Table.wf_of_view plans).trans ((Table.wf_modify _ _ _).trans h.sorted.targets)
    was := was
    now := fun i => by rw [plan, now]; split <;> rfl
    anchors := fun n => (congrArg (· + _) (Table.count_of_view (fun x => decide (x.anchor = n)) plans
      fun v w e => by rw [show v.anchor = w.anchor from congrArg TargetPlan.anchor e])).trans
        (anchors_of_replaces modified n)
    refs := fun i => (refs' i).trans (refsAt i)
    figures := fun g i => (figures' g i).trans (figures g i)
    flags := targetAmended_flags h.targets.flags now was flag
    unassigned := unassigned
    degrees := fun n => by rw [nodeDegree_of_graph graph, nodeDegree_reanchor]; rfl
    nodeRefs := fun n => by rw [nodeRefs_of_graph graph]; exact moves_reanchor (s.modTarget k new.given) _ _ n
    anchored := fun y e => by cases e; exact anchor
    letters := fun y st e hst => by cases e; exact letters st hst
    claims := claims.imp (fun ⟨zero, empty⟩ => ⟨zero, fun y e => by cases e; exact empty⟩)
      fun agrees => ⟨old, new, rfl, rfl, agrees⟩ }

/-- A TARGET_PUT leaves the kind of a claimed target as it is, and its record agrees with the old one then. -/
theorem amends_agrees (b : TargetBody) {given : Option (Nat × Nat)} {old : Target}
    (kind : given.isSome = old.station.isSome) : old.Agrees (b.amends given old) := by
  refine ⟨rfl, ?_⟩
  rw [TargetBody.amends]
  cases given with
  | none =>
    have none : old.station = none := by simpa using kind.symm
    simp [stationAfter, none]
  | some lc =>
    obtain ⟨st, hst⟩ := Option.isSome_iff_exists.mp (kind.symm.trans rfl)
    rw [hst]
    exact ⟨rfl, fun g => by cases g <;> rfl⟩

/-- A TARGET_PUT that changes the kind of a target makes a new station, or none. -/
theorem amends_empty (b : TargetBody) {given : Option (Nat × Nat)} {old : Target}
    (kind : given.isSome ≠ old.station.isSome) (refs : old.refs = 0) : (b.amends given old).Empty := by
  refine ⟨refs, fun st hst g => ?_⟩
  rw [TargetBody.amends] at hst
  cases given with
  | none => simp [stationAfter] at hst
  | some lc =>
    have none : old.station = none := by simpa using kind
    rw [none] at hst
    cases hst
    cases g <;> rfl

/-- The over flag of the record is the one held, or that of a new station. -/
theorem amends_flag (b : TargetBody) (given : Option (Nat × Nat)) (old : Target) (st : Station)
    (hst : (b.amends given old).station = some st) :
    old.station.map (·.overFlag) = some st.overFlag ∨ (old.station = none ∧ st.overFlag = st.isOver) := by
  rw [TargetBody.amends] at hst
  cases given with
  | none => simp [stationAfter] at hst
  | some lc =>
    cases e : old.station with
    | none =>
      rw [e] at hst
      cases hst
      exact .inr ⟨rfl, (isOver_fresh _ _).symm⟩
    | some held =>
      rw [e] at hst
      cases hst
      exact .inl rfl

theorem amends_letter (b : TargetBody) (given : Option (Nat × Nat)) (old : Target) (st : Station)
    (hst : (b.amends given old).station = some st) : ∃ lc, given = some lc ∧ st.letter = lc.1 := by
  rw [TargetBody.amends] at hst
  cases given with
  | none => simp [stationAfter] at hst
  | some lc =>
    cases e : old.station <;> rw [e] at hst <;> cases hst <;> exact ⟨lc, rfl, rfl⟩

theorem amendTarget_sound {s : State} (h : Sound s) (b : TargetBody) {given : Option (Nat × Nat)} {old : Target}
    (was : s.targetAt b.id = some old) (anchor : (s.node b.anchor).isSome)
    (letters : ∀ lc, given = some lc → s.holderOfLetter lc.1 b.id = none)
    (kind : given.isSome ≠ old.station.isSome → old.refs = 0) : Sound (s.amendTarget b given old) := by
  refine (h.targetReplaced (targetAmended_replaces h (new := b.amends given old) was rfl anchor (fun st hst => ?_) ?_
    (amends_flag b given old))).of_books (books_amendTarget s b given old)
  · obtain ⟨lc, hgiven, letter⟩ := amends_letter b given old st hst
    rw [letter]
    exact letters_of_holder h.sorted (letters lc hgiven)
  · by_cases same : given.isSome = old.station.isSome
    · exact .inr (amends_agrees b same)
    · refine .inl ⟨?_, amends_empty b same (kind same)⟩
      rw [← kind same]
      exact (h.targets.refs b.id old.refs (by rw [State.refsAt, was]; rfl)).symm

theorem targetPut_sound (b : TargetBody) {s : State} (h : Sound s) : Sound (targetPut b s).1 := by
  rw [targetPut]
  split
  · exact h
  · rename_i given _
    refine sound_ite (fun _ => h) fun anchor => sound_ite (fun _ => h) fun inUse => ?_
    have live : (s.node b.anchor).isSome := by
      rw [Option.isSome_iff_ne_none]
      simpa using anchor
    split
    · exact h
    · rename_i unheld
      have letters : ∀ lc, given = some lc → s.holderOfLetter lc.1 b.id = none := by
        rintro lc rfl
        exact unheld
      split
      · rename_i free
        dsimp only
        exact createTarget_sound h b free live letters
      · rename_i old was
        dsimp only
        refine amendTarget_sound h b was live letters fun kind => ?_
        simpa [was, Ne.symm kind] using inUse

/-! ### TARGET_RETIRE (R48) -/

/-- The state of a TARGET_RETIRE once the record and its claim are gone. -/
def State.targetGone (s : State) (k : Nat) (x : Target) : State :=
  (s.withTargets (Table.del s.target.targets k)).releaseNode x.anchor

theorem books_removeTarget (s : State) (k : Nat) (x : Target) :
    (s.removeTarget k x).books = (s.targetGone k x).books := by
  have removed : s.removeTarget k x = (let t := (s.targetGone k x).freeMaps k
    (if x.station.isSome then t.mark everyMuster else t).startBuild) := rfl
  rw [removed]
  dsimp only
  split <;> simp [State.books]

theorem targetGone_replaces {s : State} (h : Sound s) {k : Nat} {x : Target} (was : s.targetAt k = some x)
    (refs : x.refs = 0) : TargetReplaced s (s.targetGone k x) k (some x) none := by
  have del := Table.replaces_del s.target.targets k h.sorted.targets
  rw [show Table.get s.target.targets k = some x from was] at del
  have now : ∀ i, (s.targetGone k x).targetAt i = if i = k then none else s.targetAt i := fun i =>
    Table.get_del _ _ _
  obtain ⟨stations, refsAt, figures⟩ := reads_of_targetAt now
  refine { edges := rfl, lifts := rfl, cabin := rfl, programme := rfl, screen := rfl
           sorted := Table.wf_del _ _ h.sorted.targets, was := was
           now := fun i => by rw [now]; split <;> rfl
           anchors := anchors_of_replaces del, refs := refsAt, figures := figures, flags := fun i st hi => ?flags
           unassigned := rfl, degrees := fun n => nodeDegree_releaseNode _ _ _, nodeRefs := fun n => ?nodeRefs
           anchored := fun y e => (nomatch e), letters := fun y st e => (nomatch e)
           claims := .inl ⟨?unclaimed, fun y e => (nomatch e)⟩ }
  case flags =>
    rw [stations] at hi
    split at hi
    · simp at hi
    · exact h.targets.flags i st hi
  case nodeRefs =>
    rw [State.targetGone, nodeRefs_releaseNode]
    exact Moves.sub _ _
  case unclaimed =>
    rw [← refs]
    exact (h.targets.refs k x.refs (by rw [State.refsAt, was]; rfl)).symm

theorem targetRetire_sound (k : Nat) {s : State} (h : Sound s) : Sound (targetRetire k s).1 := by
  rw [targetRetire]
  refine sound_ite (fun _ => h) fun _ => ?_
  split
  · exact h
  · rename_i x was
    exact sound_ite (fun _ => h) fun refs =>
      (h.targetReplaced (targetGone_replaces h was (Nat.eq_zero_of_not_pos refs))).of_books (books_removeTarget s k x)

end Sys2Proof.Machine
end

section
/-! STATION_BLOCK and STATION_UNBLOCK keep a sound state sound (R54, R55). -/

namespace Sys2Proof.Machine

/-- What a table shows of a changed record follows from what it showed of the old one. -/
theorem view_modify_comm {α β : Type} (f : α → β) (g : α → α) (g' : β → β) (h : ∀ v, f (g v) = g' (f v)) (t : Table α)
    (k : Nat) : Table.view f (Table.modify t k g) = Table.modify (Table.view f t) k g' := by
  simp only [Table.view, Table.modify, List.map_map]
  refine List.map_congr_left fun r _ => ?_
  simp only [Function.comp]
  split <;> simp [h]

/-- The cabins that move between two ways of placing cabins carry the whole difference of the shares. -/
theorem share_moved (old new : Cabin → Option Nat) (p : Option Nat) (g : Figure) (l : List (Nat × Cabin)) :
    share new p g (l.map (·.2)) +
        share old p g ((l.filter fun r => decide (new r.2 ≠ old r.2)).map (·.2)) =
      share old p g (l.map (·.2)) +
        share new p g ((l.filter fun r => decide (new r.2 ≠ old r.2)).map (·.2)) := by
  induction l with
  | nil => rfl
  | cons r l ih =>
    rw [List.filter_cons]
    split
    · simp only [List.map_cons, share_cons]
      omega
    · rename_i stays
      have same : new r.2 = old r.2 := by simpa using stays
      rw [List.map_cons, share_cons, share_cons, same]
      omega

theorem share_filter_le (place : Cabin → Option Nat) (p : Option Nat) (g : Figure) (q : Nat × Cabin → Bool)
    (l : List (Nat × Cabin)) : share place p g ((l.filter q).map (·.2)) ≤ share place p g (l.map (·.2)) := by
  induction l with
  | nil => exact Nat.le_refl _
  | cons r l ih =>
    rw [List.filter_cons, List.map_cons, share_cons]
    split
    · rw [List.map_cons, share_cons]
      omega
    · omega

/-! ### The blocked flag changes -/

/-- The state with a blocked flag set, and nothing else done yet. -/
def State.flagged (s : State) (k : Nat) (blocked : Bool) : State := s.modStation k fun st => { st with blocked }

/-- The cabins whose effective station moves with a blocked flag. -/
def State.movedBy (s : State) (k : Nat) (blocked : Bool) : List Cabin :=
  ((s.flagged k blocked).reassigned s).map (·.2)

/-- The state once a blocked flag and the contributions have moved. -/
def State.reblocked (s : State) (k : Nat) (blocked : Bool) : State :=
  ((s.withdrawAll (s.movedBy k blocked)).flagged k blocked).contributeAll (s.movedBy k blocked)

theorem setBlocked_eq (s : State) (k : Nat) (blocked : Bool) :
    s.setBlocked k blocked =
      ((s.reblocked k blocked).judgeOver s).facesChanged ((s.flagged k blocked).reassigned s) := rfl

theorem flagged_targets (s : State) (k : Nat) (blocked : Bool) :
    (s.flagged k blocked).target.targets = Table.modify s.target.targets k fun x =>
      { x with station := x.station.map fun st => { st with blocked } } := rfl

theorem figureAt_flagged (s : State) (k : Nat) (blocked : Bool) (g : Figure) (i : Nat) :
    (s.flagged k blocked).figureAt g i = s.figureAt g i := by
  rw [State.figureAt, State.flagged, stationAt_modStation, State.figureAt, Option.map_map]
  congr 1
  funext st
  simp only [Function.comp]
  split
  · cases g <;> rfl
  · rfl

theorem flagAt_flagged (s : State) (k : Nat) (blocked : Bool) (i : Nat) :
    (s.flagged k blocked).flagAt i = s.flagAt i := by
  rw [State.flagAt, State.flagged, stationAt_modStation, State.flagAt, Option.map_map]
  congr 1
  funext st
  simp only [Function.comp]
  split <;> rfl

/-- What a blocked flag changes of what a target shows. -/
def TargetPlan.withBlocked (blocked : Bool) (p : TargetPlan) : TargetPlan :=
  { p with station := p.station.map fun q => { q with blocked } }

theorem plans_flagged (s : State) (k : Nat) (blocked : Bool) :
    Table.view Target.plan (s.flagged k blocked).target.targets =
      Table.modify (Table.view Target.plan s.target.targets) k (TargetPlan.withBlocked blocked) := by
  rw [flagged_targets]
  refine view_modify_comm _ _ _ (fun x => ?_) _ _
  rw [Target.plan, Target.plan, TargetPlan.withBlocked]
  cases x.station <;> rfl

theorem plans_reblocked (s : State) (k : Nat) (blocked : Bool) :
    Table.view Target.plan (s.reblocked k blocked).target.targets =
      Table.view Target.plan (s.flagged k blocked).target.targets := by
  rw [State.reblocked, plans_contributeAll, plans_flagged, plans_withdrawAll, plans_flagged]

theorem flagAt_reblocked (s : State) (k : Nat) (blocked : Bool) (i : Nat) :
    (s.reblocked k blocked).flagAt i = s.flagAt i := by
  rw [State.reblocked, flagAt_contributeAll, flagAt_flagged, flagAt_withdrawAll]

theorem refsAt_reblocked (s : State) (k : Nat) (blocked : Bool) (i : Nat) :
    (s.reblocked k blocked).refsAt i = s.refsAt i := by
  rw [State.reblocked, refsAt_contributeAll, State.flagged, refsAt_modStation, refsAt_withdrawAll]

/-- The moved cabins' shares leave the figures of where they counted and reach those of where they count now. -/
theorem figures_reblocked (s : State) (k : Nat) (blocked : Bool) :
    (∀ g i, (s.reblocked k blocked).figureAt g i = (s.figureAt g i).map fun n =>
      n - share s.effective (some i) g (s.movedBy k blocked) +
        share (s.flagged k blocked).effective (some i) g (s.movedBy k blocked)) ∧
    (s.reblocked k blocked).target.unassigned =
      s.target.unassigned - share s.effective none .assigned (s.movedBy k blocked) +
        share (s.flagged k blocked).effective none .assigned (s.movedBy k blocked) := by
  obtain ⟨taken, unassigned⟩ := figures_withdrawAll s (s.movedBy k blocked)
  obtain ⟨given, unassigned'⟩ := figures_contributeAll ((s.withdrawAll (s.movedBy k blocked)).flagged k blocked)
    (s.movedBy k blocked)
  have place : ((s.withdrawAll (s.movedBy k blocked)).flagged k blocked).effective = (s.flagged k blocked).effective :=
    effective_of_plans (by rw [plans_flagged, plans_withdrawAll, plans_flagged])
  refine ⟨fun g i => ?_, ?_⟩
  · rw [State.reblocked, given, figureAt_flagged, taken, Option.map_map, place]
    rfl
  · rw [State.reblocked, unassigned', place, State.flagged]
    show (s.withdrawAll (s.movedBy k blocked)).target.unassigned + _ = _
    rw [unassigned]

/-- The shares after the move are what the live cabins make them. -/
theorem tally_reblocked (s : State) (k : Nat) (blocked : Bool) (g : Figure) (p : Option Nat) :
    s.tally g p - share s.effective p g (s.movedBy k blocked) +
        share (s.flagged k blocked).effective p g (s.movedBy k blocked) =
      share (s.flagged k blocked).effective p g (s.cabin.cabins.map (·.2)) := by
  have moved := share_moved s.effective (s.flagged k blocked).effective p g s.cabin.cabins
  have le := share_filter_le s.effective p g
    (fun r => decide ((s.flagged k blocked).effective r.2 ≠ s.effective r.2)) s.cabin.cabins
  rw [show ((s.cabin.cabins.filter fun r => decide ((s.flagged k blocked).effective r.2 ≠ s.effective r.2)).map
    (·.2)) = s.movedBy k blocked from rfl] at moved le
  rw [State.tally]
  omega

theorem stationAt_flagged_shows (s : State) (k : Nat) (blocked : Bool) (i : Nat) :
    ((s.flagged k blocked).stationAt i).map (·.letter) = (s.stationAt i).map (·.letter) := by
  rw [State.flagged, stationAt_modStation, Option.map_map]
  congr 1
  funext st
  simp only [Function.comp]
  split <;> rfl

theorem letterAt_of_plans {s t : State}
    (h : Table.view Target.plan t.target.targets = Table.view Target.plan s.target.targets) (k : Nat) :
    (t.stationAt k).map (·.letter) = (s.stationAt k).map (·.letter) := by
  have plan := congrArg (Option.map StationPlan.letter) (stationAt_of_plans h k)
  rw [Option.map_map, Option.map_map] at plan
  exact plan

theorem anchors_flagged (s : State) (k : Nat) (blocked : Bool) :
    Table.view Target.anchor (s.flagged k blocked).target.targets = Table.view Target.anchor s.target.targets := by
  rw [flagged_targets]
  exact Table.view_modify _ _ _ _ fun _ => by rfl

/-- Blocking or unblocking a station keeps the counts. -/
theorem reblocked_sound {s : State} (h : Sound s) (k : Nat) (blocked : Bool) :
    Sound ((s.reblocked k blocked).judgeOver s) := by
  have plans : Table.view Target.plan ((s.reblocked k blocked).judgeOver s).target.targets =
      Table.view Target.plan (s.flagged k blocked).target.targets := (plans_judgeOver _ _).trans (plans_reblocked _ _ _)
  have graph : ((s.reblocked k blocked).judgeOver s).graph = s.graph := by simp [State.reblocked, State.flagged]
  have cabin : ((s.reblocked k blocked).judgeOver s).cabin = s.cabin := by simp [State.reblocked, State.flagged]
  have programme : ((s.reblocked k blocked).judgeOver s).programme = s.programme := by
    simp [State.reblocked, State.flagged]
  have screen : ((s.reblocked k blocked).judgeOver s).screen = s.screen := by simp [State.reblocked, State.flagged]
  have letter : ∀ i, (((s.reblocked k blocked).judgeOver s).stationAt i).map (·.letter) =
      (s.stationAt i).map (·.letter) := fun i => (letterAt_of_plans plans i).trans (stationAt_flagged_shows s k blocked i)
  have live : ∀ i, (((s.reblocked k blocked).judgeOver s).stationAt i).isSome = (s.stationAt i).isSome := fun i => by
    simpa using congrArg Option.isSome (letter i)
  have refs : ∀ i, ((s.reblocked k blocked).judgeOver s).refsAt i = s.refsAt i := fun i =>
    (refsAt_judgeOver _ _ i).trans (refsAt_reblocked s k blocked i)
  have exists_ : ∀ i, (((s.reblocked k blocked).judgeOver s).targetAt i).isSome = (s.targetAt i).isSome := fun i => by
    simpa [State.refsAt] using congrArg Option.isSome (refs i)
  have place : ((s.reblocked k blocked).judgeOver s).effective = (s.flagged k blocked).effective :=
    effective_of_plans plans
  have tally : ∀ g p, ((s.reblocked k blocked).judgeOver s).tally g p =
      s.tally g p - share s.effective p g (s.movedBy k blocked) +
        share (s.flagged k blocked).effective p g (s.movedBy k blocked) := fun g p => by
    rw [tally_reblocked, State.tally, place, cabin]
  have claims : ∀ i, ((s.reblocked k blocked).judgeOver s).claimsOnTarget i = s.claimsOnTarget i := fun i => by
    simp only [State.claimsOnTarget, cabin, programme, screen]
  obtain ⟨figures, unassigned⟩ := figures_reblocked s k blocked
  refine ⟨⟨graph ▸ h.sorted.edges, ?_, cabin ▸ h.sorted.cabins, programme ▸ h.sorted.entries,
    screen ▸ h.sorted.screens⟩, ?_, fun c x hc => ?_, fun e x he => ?_, fun n x hn => ?_, fun i j a b hi hj same => ?_,
    fun i n hn => ?_, fun g i n hn => ?_, flagsRight_judgeOver h.targets.flags (flagAt_reblocked s k blocked), ?_⟩
  · rw [Table.wf_of_view plans, flagged_targets, Table.wf_modify]
    exact h.sorted.targets
  · have anchors : ∀ n, Table.count ((s.reblocked k blocked).judgeOver s).target.targets
        (fun x => decide (x.anchor = n)) = Table.count s.target.targets fun x => decide (x.anchor = n) := fun n =>
      (Table.count_of_view _ plans fun v w e => by
        rw [show v.anchor = w.anchor from congrArg TargetPlan.anchor e]).trans
        (Table.count_of_view _ (anchors_flagged s k blocked) fun v w e => by rw [e])
    refine h.deck.refsMoved (by rw [graph]) (by rw [graph]) (nodeDegree_of_graph graph) (fun _ => 0) (fun _ => 0)
      (fun n => ?_) (fun n => ?_) (fun n => Nat.zero_le _) fun _ _ => rfl
    · rw [nodeRefs_of_graph graph]
      exact Moves.same _ _
    · simp only [State.claimsOnNode, State.endsAt, graph, cabin, screen, anchors]
  · rw [State.cabinAt, cabin] at hc
    simpa only [State.cabinNames, live] using h.targets.cabins c x hc
  · rw [State.entryAt, programme] at he
    obtain ⟨v, hv, plain⟩ := h.targets.venues e x he
    have kind := live x.venue
    have there := exists_ x.venue
    rw [hv] at there
    obtain ⟨w, hw⟩ := Option.isSome_iff_exists.mp there
    refine ⟨w, hw, ?_⟩
    rw [State.stationAt, State.stationAt, hv, hw] at kind
    simpa [plain] using kind
  · rw [State.screenAt, screen] at hn
    simpa only [State.screenNames, live, exists_] using h.targets.screens n x hn
  · have ea := letter i
    have eb := letter j
    rw [hi] at ea
    rw [hj] at eb
    obtain ⟨a', ha, ea⟩ := Option.map_eq_some_iff.mp ea.symm
    obtain ⟨b', hb, eb⟩ := Option.map_eq_some_iff.mp eb.symm
    exact h.targets.letters i j a' b' ha hb (ea.trans (same.trans eb.symm))
  · rw [refs] at hn
    rw [claims]
    exact h.targets.refs i n hn
  · rw [figureAt_judgeOver, figures, Option.map_eq_some_iff] at hn
    obtain ⟨m, hm, rfl⟩ := hn
    rw [tally, h.targets.tallies g i m hm]
  · rw [unassigned_judgeOver, unassigned, tally, h.targets.unassigned]

theorem changeBlocked_sound {s : State} (h : Sound s) (k : Nat) (blocked : Bool) :
    Sound (s.changeBlocked k blocked) := by
  refine (reblocked_sound h k blocked).of_books ?_
  rw [State.changeBlocked, setBlocked_eq]
  simp [State.books]

theorem stationSet_sound (blocked : Bool) (k : Nat) {s : State} (h : Sound s) : Sound (stationSet blocked k s).1 := by
  rw [stationSet]
  refine sound_ite (fun _ => h) fun _ => ?_
  split
  · exact h
  · split
    · exact h
    · exact sound_ite (fun _ => h) fun _ => by
        dsimp only
        exact changeBlocked_sound h k blocked

end Sys2Proof.Machine
end

section
/-! A muster entry's clearing of the sweeps, and the counts that a warm restart takes again, keep a sound state sound
(R19, R58, R78). -/

namespace Sys2Proof.Machine

/-! ### The sweeps are cleared (R78) -/

/-- What of a cabin a cleared sweep leaves. -/
structure CabinClaims where
  door : Nat
  primary : Nat
  alternate : Option Nat
  berths : Nat

def Cabin.standing (x : Cabin) : CabinClaims :=
  { door := x.doorNode, primary := x.primary, alternate := x.alternate, berths := x.occupiedBerths }

def Cabin.unswept (x : Cabin) : Cabin := { x with swept := false, sweptBy := none }

def Station.unswept (st : Station) : Station := { st with swept := 0 }

def Target.unswept (x : Target) : Target := { x with station := x.station.map Station.unswept }

theorem total_mapAll {α : Type} (f : α → Nat) (g : α → α) (t : Table α) :
    Table.total f (Table.mapAll t g) = Table.total (f ∘ g) t := by
  simp [Table.total, Table.mapAll, Function.comp_def]

theorem clearSweeps_tables (s : State) :
    s.clearSweeps.cabin.cabins = Table.mapAll s.cabin.cabins Cabin.unswept ∧
    s.clearSweeps.target.targets = Table.mapAll s.target.targets Target.unswept := ⟨rfl, rfl⟩

theorem plans_clearSweeps (s : State) :
    Table.view Target.plan s.clearSweeps.target.targets = Table.view Target.plan s.target.targets := by
  rw [(clearSweeps_tables s).2]
  refine Table.view_mapAll _ _ _ fun x => ?_
  rw [Target.plan, Target.plan, Target.unswept]
  cases x.station <;> rfl

theorem standing_clearSweeps (s : State) :
    Table.view Cabin.standing s.clearSweeps.cabin.cabins = Table.view Cabin.standing s.cabin.cabins := by
  rw [(clearSweeps_tables s).1]
  exact Table.view_mapAll _ _ _ fun _ => by rfl

theorem targetAt_clearSweeps (s : State) (k : Nat) : s.clearSweeps.targetAt k = (s.targetAt k).map Target.unswept := by
  rw [State.targetAt, (clearSweeps_tables s).2, Table.get_mapAll]
  rfl

theorem stationAt_clearSweeps (s : State) (k : Nat) :
    s.clearSweeps.stationAt k = (s.stationAt k).map Station.unswept := by
  rw [State.stationAt, targetAt_clearSweeps, State.stationAt]
  cases s.targetAt k <;> rfl

theorem refsAt_clearSweeps (s : State) (k : Nat) : s.clearSweeps.refsAt k = s.refsAt k := by
  rw [State.refsAt, targetAt_clearSweeps, State.refsAt, Option.map_map]
  rfl

theorem effective_of_standing (s : State) {x y : Cabin} (h : x.standing = y.standing) :
    s.effective x = s.effective y := by
  have primary : x.primary = y.primary := congrArg CabinClaims.primary h
  have alternate : x.alternate = y.alternate := congrArg CabinClaims.alternate h
  simp only [State.effective, primary, alternate]

/-- The tallies with every sweep cleared. -/
theorem tally_clearSweeps (s : State) (g : Figure) (p : Option Nat) :
    s.clearSweeps.tally g p = match g with
      | .swept => 0
      | .assigned => s.tally .assigned p
      | .occupied => s.tally .occupied p := by
  have place := effective_of_plans (plans_clearSweeps s)
  have standing := standing_clearSweeps s
  cases g with
  | swept =>
    have none : (fun c : Cabin => if s.effective c.unswept = p then c.unswept.figure .swept else 0) = fun _ => 0 := by
      funext c
      exact ite_self 0
    rw [tally_eq_total, place, (clearSweeps_tables s).1, total_mapAll]
    simp only [Function.comp_def, none]
    simp [Table.total]
  | assigned =>
    simp only [tally_eq_total, place]
    exact Table.total_of_view _ standing fun v w e => by rw [effective_of_standing s e]; rfl
  | occupied =>
    simp only [tally_eq_total, place]
    refine Table.total_of_view _ standing fun v w e => ?_
    rw [effective_of_standing s e, show v.figure .occupied = w.figure .occupied from congrArg CabinClaims.berths e]

theorem clearSweeps_sound {s : State} (h : Sound s) : Sound s.clearSweeps := by
  have plans := plans_clearSweeps s
  have standing := standing_clearSweeps s
  have live := isSome_stationAt_of_plans plans
  have exists_ := isSome_targetAt_of_plans plans
  have doors : ∀ n, Table.count s.clearSweeps.cabin.cabins (fun x => decide (x.doorNode = n)) =
      Table.count s.cabin.cabins fun x => decide (x.doorNode = n) := fun n =>
    Table.count_of_view _ standing fun v w e => by
      rw [show v.doorNode = w.doorNode from congrArg CabinClaims.door e]
  have anchors : ∀ n, Table.count s.clearSweeps.target.targets (fun x => decide (x.anchor = n)) =
      Table.count s.target.targets fun x => decide (x.anchor = n) := fun n =>
    Table.count_of_view _ plans fun v w e => by rw [show v.anchor = w.anchor from congrArg TargetPlan.anchor e]
  have stations : ∀ k, Table.count s.clearSweeps.cabin.cabins (fun x => decide (k ∈ x.stations)) =
      Table.count s.cabin.cabins fun x => decide (k ∈ x.stations) := fun k =>
    Table.count_of_view _ standing fun v w e => by
      rw [Cabin.stations, Cabin.stations, show v.primary = w.primary from congrArg CabinClaims.primary e,
        show v.alternate = w.alternate from congrArg CabinClaims.alternate e]
  refine ⟨⟨h.sorted.edges, (Table.wf_of_view plans).trans h.sorted.targets,
    (Table.wf_of_view standing).trans h.sorted.cabins, h.sorted.entries, h.sorted.screens⟩,
    h.deck.refsMoved rfl rfl (fun _ => rfl) (fun _ => 0) (fun _ => 0) (fun n => Moves.same _ _) (fun n => ?_)
      (fun _ => Nat.zero_le _) fun _ _ => rfl,
    fun c x hc => ?_, venues_of_views (isVenue_of_plans plans) rfl h.targets.venues,
    screenNames_of_views live exists_ rfl h.targets.screens, fun j k a b ha hb same => ?_, fun k n hn => ?_,
    fun g k n hn => ?_, fun k st hk => ?_, ?_⟩
  · have stands : s.clearSweeps.screen = s.screen := rfl
    have ends : s.clearSweeps.endsAt n = s.endsAt n := rfl
    simp only [State.claimsOnNode, ends, doors, anchors, stands]
  · obtain ⟨y, hy, same⟩ := Table.get_of_view standing hc
    have primary : y.primary = x.primary := congrArg CabinClaims.primary same
    have alternate : y.alternate = x.alternate := congrArg CabinClaims.alternate same
    simpa only [State.cabinNames, primary, alternate, live] using h.targets.cabins c y hy
  · have ea := letterAt_of_plans plans j
    have eb := letterAt_of_plans plans k
    rw [ha] at ea
    rw [hb] at eb
    obtain ⟨a', ha', ea⟩ := Option.map_eq_some_iff.mp ea.symm
    obtain ⟨b', hb', eb⟩ := Option.map_eq_some_iff.mp eb.symm
    exact h.targets.letters j k a' b' ha' hb' (ea.trans (same.trans eb.symm))
  · rw [refsAt_clearSweeps] at hn
    have claims : s.clearSweeps.claimsOnTarget k = s.claimsOnTarget k := by
      have entries : s.clearSweeps.programme = s.programme := rfl
      have shown : s.clearSweeps.screen = s.screen := rfl
      simp only [State.claimsOnTarget, stations, entries, shown]
    rw [claims]
    exact h.targets.refs k n hn
  · rw [tally_clearSweeps]
    rw [State.figureAt, stationAt_clearSweeps, Option.map_map] at hn
    obtain ⟨st, hst, rfl⟩ := Option.map_eq_some_iff.mp hn
    have figure : ∀ g, st.figure g = s.tally g (some k) := fun g => h.targets.tallies g k _ (by
      rw [State.figureAt, hst]
      rfl)
    cases g with
    | swept => rfl
    | assigned => exact figure .assigned
    | occupied => exact figure .occupied
  · rw [stationAt_clearSweeps, Option.map_eq_some_iff] at hk
    obtain ⟨a, ha, rfl⟩ := hk
    exact h.targets.flags k a ha
  · rw [tally_clearSweeps]
    exact h.targets.unassigned

theorem cabinsTakeTransition_sound {s : State} (h : Sound s) (old : MusterState) :
    Sound (s.cabinsTakeTransition old) := by
  rw [State.cabinsTakeTransition]
  split
  · exact clearSweeps_sound h
  · exact h

/-! ### The counts taken again (R19, R58) -/

theorem get_mapKey {α : Type} (f : Nat → α → α) (t : Table α) (k : Nat) :
    Table.get (t.map fun r => (r.1, f r.1 r.2)) k = (Table.get t k).map (f k) := by
  induction t with
  | nil => rfl
  | cons r t ih =>
    obtain ⟨j, v⟩ := r
    rw [List.map_cons, Table.get_cons, Table.get_cons, ih]
    split
    · rename_i e
      rw [e]
      rfl
    · rfl

/-- A node's record with its counts taken again. -/
def State.recounted (s : State) (n : Nat) (x : Node) : Node :=
  { x with degree := s.endsAt n, refs := s.claimsOnNode n }

theorem node_recountGraph (s : State) (n : Nat) : s.recountGraph.node n = (s.node n).map (s.recounted n) :=
  get_mapKey s.recounted s.graph.nodes n

theorem recountGraph_sound {s : State} (h : Sound s) : Sound s.recountGraph := by
  have sorted : Sorted s.recountGraph :=
    ⟨h.sorted.edges, h.sorted.targets, h.sorted.cabins, h.sorted.entries, h.sorted.screens⟩
  have targets : TargetsRight s.recountGraph := h.targets.of_views rfl rfl rfl rfl
  refine ⟨sorted, ⟨h.deck.twoEnds, fun n => ⟨fun free => ?_, fun x hx => ?_⟩, rfl, h.deck.degrees⟩, targets⟩
  · rw [node_recountGraph, Option.map_eq_none_iff] at free
    exact (h.deck.nodes n).1 free
  · rw [node_recountGraph, Option.map_eq_some_iff] at hx
    obtain ⟨y, _, rfl⟩ := hx
    exact ⟨rfl, rfl⟩

/-- A target's record with its reference count taken again and its tallies emptied. -/
def State.recountedTarget (s : State) (k : Nat) (x : Target) : Target :=
  { x with refs := s.claimsOnTarget k, station := x.station.map Station.emptied }

theorem targetAt_recountTargets (s : State) (k : Nat) :
    s.recountTargets.targetAt k = (s.targetAt k).map (s.recountedTarget k) :=
  get_mapKey s.recountedTarget s.target.targets k

theorem plans_recountTargets (s : State) :
    Table.view Target.plan s.recountTargets.target.targets = Table.view Target.plan s.target.targets := by
  rw [State.recountTargets, Table.view, Table.view, List.map_map]
  refine List.map_congr_left fun r _ => ?_
  simp only [Function.comp, Target.plan]
  cases r.2.station <;> rfl

theorem stationAt_recountTargets (s : State) (k : Nat) :
    s.recountTargets.stationAt k = (s.stationAt k).map Station.emptied := by
  rw [State.stationAt, targetAt_recountTargets, State.stationAt]
  cases s.targetAt k <;> rfl

theorem refsAt_recountTargets (s : State) (k : Nat) :
    s.recountTargets.refsAt k = (s.targetAt k).map fun _ => s.claimsOnTarget k := by
  rw [State.refsAt, targetAt_recountTargets, Option.map_map]
  rfl

/-- A station with its over flag judged. -/
def Station.rejudged (st : Station) : Station := { st with overFlag := st.isOver }

/-- A target with its over flag judged. -/
def Target.rejudged (x : Target) : Target := { x with station := x.station.map Station.rejudged }

theorem rejudgeAll_targets (s : State) :
    s.rejudgeAll.target.targets = Table.mapAll s.target.targets Target.rejudged := rfl

theorem targetAt_rejudgeAll (s : State) (k : Nat) : s.rejudgeAll.targetAt k = (s.targetAt k).map Target.rejudged := by
  rw [State.targetAt, rejudgeAll_targets, Table.get_mapAll]
  rfl

theorem stationAt_rejudgeAll (s : State) (k : Nat) :
    s.rejudgeAll.stationAt k = (s.stationAt k).map Station.rejudged := by
  rw [State.stationAt, targetAt_rejudgeAll, State.stationAt]
  cases s.targetAt k <;> rfl

theorem refsAt_rejudgeAll (s : State) (k : Nat) : s.rejudgeAll.refsAt k = s.refsAt k := by
  rw [State.refsAt, targetAt_rejudgeAll, State.refsAt, Option.map_map]
  rfl

theorem figureAt_rejudgeAll (s : State) (g : Figure) (k : Nat) : s.rejudgeAll.figureAt g k = s.figureAt g k := by
  have same : (fun st : Station => st.figure g) ∘ Station.rejudged = fun st => st.figure g := by
    funext st
    cases g <;> rfl
  rw [State.figureAt, stationAt_rejudgeAll, State.figureAt, Option.map_map, same]

theorem plans_rejudgeAll (s : State) :
    Table.view Target.plan s.rejudgeAll.target.targets = Table.view Target.plan s.target.targets := by
  rw [rejudgeAll_targets]
  refine Table.view_mapAll _ _ _ fun x => ?_
  rw [Target.plan, Target.plan, Target.rejudged]
  cases x.station <;> rfl

theorem plans_recountTallies (s : State) :
    Table.view Target.plan s.recountTallies.target.targets = Table.view Target.plan s.target.targets := by
  rw [State.recountTallies, plans_rejudgeAll, plans_contributeAll, plans_recountTargets]

theorem recountTallies_sound {s : State} (h : Sound s) : Sound s.recountTallies := by
  have plans := plans_recountTallies s
  have kept : s.recountTallies.graph = s.graph ∧ s.recountTallies.cabin = s.cabin ∧
      s.recountTallies.programme = s.programme ∧ s.recountTallies.screen = s.screen := by
    rw [State.recountTallies]
    simp only [rejudgeAll_keeps, contributeAll_keeps]
    exact ⟨rfl, rfl, rfl, rfl⟩
  obtain ⟨graph, cabin, programme, screen⟩ := kept
  have live := isSome_stationAt_of_plans plans
  have exists_ := isSome_targetAt_of_plans plans
  have place := effective_of_plans plans
  obtain ⟨figures, unassigned⟩ := figures_contributeAll s.recountTargets (s.cabin.cabins.map (·.2))
  rw [effective_of_plans (plans_recountTargets s)] at figures unassigned
  have tally : ∀ g p, s.recountTallies.tally g p = s.tally g p := fun g p => by rw [State.tally, place, cabin]; rfl
  have claims : ∀ k, s.recountTallies.claimsOnTarget k = s.claimsOnTarget k := fun k => by
    simp only [State.claimsOnTarget, cabin, programme, screen]
  refine ⟨h.sorted.of_views (by rw [graph]) (Table.wf_of_view plans) (by rw [cabin]) (by rw [programme])
    (by rw [screen]), h.deck.of_views (by rw [graph]) (by rw [graph]) (by rw [graph]) plans (by rw [cabin])
      (by rw [screen]), cabinNames_of_views live (by rw [cabin]) h.targets.cabins,
    venues_of_views (isVenue_of_plans plans) (by rw [programme]) h.targets.venues,
    screenNames_of_views live exists_ (by rw [screen]) h.targets.screens, fun j k a b ha hb same => ?_,
    fun k n hn => ?_, fun g k n hn => ?_, fun k st hk => ?_, ?_⟩
  · have ea := letterAt_of_plans plans j
    have eb := letterAt_of_plans plans k
    rw [ha] at ea
    rw [hb] at eb
    obtain ⟨a', ha', ea⟩ := Option.map_eq_some_iff.mp ea.symm
    obtain ⟨b', hb', eb⟩ := Option.map_eq_some_iff.mp eb.symm
    exact h.targets.letters j k a' b' ha' hb' (ea.trans (same.trans eb.symm))
  · rw [State.recountTallies, refsAt_rejudgeAll, refsAt_contributeAll, refsAt_recountTargets] at hn
    obtain ⟨x, _, rfl⟩ := Option.map_eq_some_iff.mp hn
    exact (claims k).symm
  · rw [State.recountTallies, figureAt_rejudgeAll, figures, State.figureAt, stationAt_recountTargets] at hn
    rw [tally, State.tally]
    obtain ⟨m, hm, rfl⟩ := Option.map_eq_some_iff.mp hn
    obtain ⟨st', hst', rfl⟩ := Option.map_eq_some_iff.mp hm
    obtain ⟨st, _, rfl⟩ := Option.map_eq_some_iff.mp hst'
    cases g <;> simp [Station.figure, Station.emptied]
  · rw [State.recountTallies, stationAt_rejudgeAll] at hk
    obtain ⟨st', _, rfl⟩ := Option.map_eq_some_iff.mp hk
    rfl
  · rw [tally, State.tally]
    show (s.recountTargets.contributeAll (s.cabin.cabins.map (·.2))).target.unassigned = _
    rw [unassigned]
    simp [State.recountTargets]

/-! ### RESTART(WARM) (R186) -/

theorem restartMaps_keeps (s : State) :
    s.restartMaps.graph = s.graph ∧ s.restartMaps.target = s.target ∧ s.restartMaps.cabin = s.cabin ∧
    s.restartMaps.programme = s.programme ∧ s.restartMaps.screen = s.screen := by
  unfold State.restartMaps
  and_intros <;> refine foldl_keeps _ _ (fun u m => ?_) _ _
  all_goals simp

@[simp] theorem books_restartMaps (s : State) : s.restartMaps.books = s.books := by
  obtain ⟨graph, target, cabin, programme, screen⟩ := restartMaps_keeps s
  simp only [State.books, graph, target, cabin, programme, screen]

@[simp] theorem books_restartTrunks (s : State) : s.restartTrunks.books = s.books := rfl

@[simp] theorem books_refillPlateQueues (s : State) : s.refillPlateQueues.books = s.books := by simp [State.books]

@[simp] theorem books_restartClock (s : State) : s.restartClock.books = s.books := rfl

@[simp] theorem books_startBuild (s : State) : s.startBuild.books = s.books := by simp [State.books]

@[simp] theorem books_judgeStandDown (s : State) : s.judgeStandDown.books = s.books := by simp [State.books]

@[simp] theorem books_pickAll (s : State) : s.pickAll.books = s.books := by simp [State.books]

@[simp] theorem books_beginPeriod (s : State) (l : Fin 4) : (s.beginPeriod l).books = s.books := by
  simp [State.books]

/-- The screens and links afresh, before the enabled links begin their periods. -/
def State.screensAfresh (s : State) : State :=
  { s with screen := { s.screen with
      links := s.screen.links.map Link.restart, screens := Table.mapAll s.screen.screens Screen.unfound } }

theorem books_screensAfresh (s : State) : s.screensAfresh.books = s.books := by
  have screens : Table.view Screen.stake s.screensAfresh.screen.screens =
      Table.view Screen.stake s.screen.screens := Table.view_mapAll _ _ _ fun _ => by rfl
  rw [State.books, screens]
  rfl

@[simp] theorem books_restartScreens (s : State) : s.restartScreens.books = s.books := by
  refine Eq.trans ?_ (books_screensAfresh s)
  refine foldl_keeps State.books _ (fun u l => ?_) allLinks s.screensAfresh
  split
  · exact books_beginPeriod u l
  · rfl

/-- The Service Port's part of a warm restart. -/
@[simp] theorem books_withPort (s : State) (p : ServicePort) : ({ s with port := p } : State).books = s.books := rfl

theorem warmRestart_sound {s : State} (h : Sound s) : Sound s.warmRestart := by
  refine (recountTallies_sound (recountGraph_sound h)).of_books ?_
  rw [State.warmRestart]
  simp only [books_judgeStandDown, books_startBuild, books_withPort, books_restartScreens, books_restartClock,
    books_refillPlateQueues, books_restartTrunks, books_restartMaps]

end Sys2Proof.Machine
end

section
/-! The requests on nodes and edges keep a sound state sound (R1, R2, R5 to R10, R16). -/

namespace Sys2Proof.Machine

/-! ### Nodes (R1, R2) -/

/-- The state with another table of nodes. -/
def State.withNodes (s : State) (t : Table Node) : State := { s with graph := { s.graph with nodes := t } }

@[simp] theorem node_withNodes (s : State) (t : Table Node) (n : Nat) : (s.withNodes t).node n = Table.get t n := rfl

/-- Other nodes, each right. -/
theorem Sound.withNodes {s : State} (h : Sound s) (t : Table Node) (right : ∀ n, (s.withNodes t).nodeRight n) :
    Sound (s.withNodes t) :=
  ⟨⟨h.sorted.edges, h.sorted.targets, h.sorted.cabins, h.sorted.entries, h.sorted.screens⟩,
    ⟨h.deck.twoEnds, right, h.deck.lifts, h.deck.degrees⟩, h.targets.of_views rfl rfl rfl rfl⟩

/-- A new node has no claim. -/
def NodeBody.node (b : NodeBody) : Node := { deck := b.deck, zone := b.zone, degree := 0, refs := 0 }

/-- The record of a held node after a NODE_PUT. -/
def NodeBody.amends (b : NodeBody) (x : Node) : Node := { x with deck := b.deck, zone := b.zone }

theorem modNode_eq (s : State) (n : Nat) (f : Node → Node) :
    s.modNode n f = s.withNodes (Table.modify s.graph.nodes n f) := rfl

theorem nodePut_sound (b : NodeBody) {s : State} (h : Sound s) : Sound (nodePut b s).1 := by
  rw [nodePut]
  refine sound_ite (fun _ => h) fun _ => ?_
  split
  · rename_i free
    refine h.withNodes (Table.put s.graph.nodes b.id b.node) fun n => ?_
    have none : s.claimsOnNode b.id = 0 := (h.deck.nodes b.id).1 free
    have noEnds : s.endsAt b.id = 0 := Nat.le_zero.mp (none ▸ endsAt_le_claimsOnNode s b.id)
    rw [State.nodeRight, node_withNodes, Table.get_put]
    split
    · rename_i e
      subst e
      refine ⟨fun gone => by simp at gone, fun x hx => ?_⟩
      cases hx
      exact ⟨noEnds.symm, none.symm⟩
    · exact h.deck.nodes n
  · have amended : Sound (s.modNode b.id b.amends) := by
      rw [modNode_eq]
      refine h.withNodes _ fun n => ?_
      rw [State.nodeRight, node_withNodes, Table.get_modify]
      split
      · refine ⟨fun gone => (h.deck.nodes n).1 (Option.map_eq_none_iff.mp gone), fun x hx => ?_⟩
        obtain ⟨y, hy, rfl⟩ := Option.map_eq_some_iff.mp hx
        exact (h.deck.nodes n).2 y hy
      · exact h.deck.nodes n
    dsimp only
    split
    · exact amended
    · exact amended.of_books (books_mark _ _)

theorem nodeRetire_sound (id : Nat) {s : State} (h : Sound s) : Sound (nodeRetire id s).1 := by
  rw [nodeRetire]
  refine sound_ite (fun _ => h) fun _ => ?_
  split
  · exact h
  · rename_i x live
    refine sound_ite (fun _ => h) fun refs => ?_
    refine h.withNodes (Table.del s.graph.nodes id) fun n => ?_
    rw [State.nodeRight, node_withNodes, Table.get_del]
    split
    · rename_i e
      subst e
      refine ⟨fun _ => ?_, fun x hx => by simp at hx⟩
      show s.claimsOnNode n = 0
      rw [← ((h.deck.nodes n).2 x live).2]
      exact Nat.eq_zero_of_not_pos refs
    · exact h.deck.nodes n

/-! ### What an edge counts at a node -/

def Edge.endsOn (n : Nat) (e : Edge) : Nat := if e.hasEnd n then 1 else 0

def Edge.lifts (e : Edge) : Nat := if e.openLift then 1 else 0

theorem endsAt_eq_total (s : State) (n : Nat) : s.endsAt n = Table.total (Edge.endsOn n) s.graph.edges :=
  Table.count_eq_total _ _

theorem openLifts_eq_total (t : Table Edge) : Table.count t Edge.openLift = Table.total Edge.lifts t :=
  Table.count_eq_total _ _

/-- A node's record with edge ends lost and won. -/
def Node.moved (lost won : Nat) (x : Node) : Node :=
  { x with degree := x.degree - lost + won, refs := x.refs - lost + won }

theorem map_moved_zero (o : Option Node) : o.map (Node.moved 0 0) = o := by
  cases o <;> rfl

theorem node_addEnd (s : State) (m n : Nat) :
    (s.addEnd m).node n = (s.node n).map (Node.moved 0 (if m = n then 1 else 0)) := by
  rw [State.addEnd, node_modNode]
  congr 1
  funext x
  by_cases e : n = m
  · simp [e, Node.moved]
  · simp [e, Ne.symm e, Node.moved]

theorem node_dropEnd (s : State) (m n : Nat) :
    (s.dropEnd m).node n = (s.node n).map (Node.moved (if m = n then 1 else 0) 0) := by
  rw [State.dropEnd, node_modNode]
  congr 1
  funext x
  by_cases e : n = m
  · simp [e, Node.moved]
  · simp [e, Ne.symm e, Node.moved]

/-- The ends of an edge of two ends, one by one. -/
theorem endsOn_eq {e : Edge} (two : e.endA ≠ e.endB) (n : Nat) :
    e.endsOn n = (if e.endA = n then 1 else 0) + if e.endB = n then 1 else 0 := by
  rw [Edge.endsOn, Edge.hasEnd]
  by_cases a : e.endA = n
  · have b : e.endB ≠ n := fun b => two (a.trans b.symm)
    simp [a, b]
  · simp [a]

theorem node_addEnds {e : Edge} (two : e.endA ≠ e.endB) (s : State) (n : Nat) :
    ((s.addEnd e.endA).addEnd e.endB).node n = (s.node n).map (Node.moved 0 (e.endsOn n)) := by
  rw [node_addEnd, node_addEnd, Option.map_map, endsOn_eq two]
  congr 1
  funext x
  simp [Node.moved, Nat.add_assoc]

theorem node_dropEnds {e : Edge} (two : e.endA ≠ e.endB) (s : State) (n : Nat) :
    ((s.dropEnd e.endA).dropEnd e.endB).node n = (s.node n).map (Node.moved (e.endsOn n) 0) := by
  rw [node_dropEnd, node_dropEnd, Option.map_map, endsOn_eq two]
  congr 1
  funext x
  simp [Node.moved, Nat.sub_sub]

theorem node_keptOrDropEnd (c : Bool) (s : State) (m n : Nat) :
    (if c then s else s.dropEnd m).node n = (s.node n).map (Node.moved (if !c && decide (m = n) then 1 else 0) 0) := by
  cases c with
  | true => exact (map_moved_zero _).symm
  | false => simp [node_dropEnd]

theorem node_keptOrAddEnd (c : Bool) (s : State) (m n : Nat) :
    (if c then s else s.addEnd m).node n = (s.node n).map (Node.moved 0 (if !c && decide (m = n) then 1 else 0)) := by
  cases c with
  | true => exact (map_moved_zero _).symm
  | false => simp [node_addEnd]

/-- The ends of an edge that are no ends of another. -/
def Edge.endsOnly (n : Nat) (e other : Edge) : Nat := if e.hasEnd n && !other.hasEnd n then 1 else 0

theorem endsOnly_eq {e : Edge} (two : e.endA ≠ e.endB) (other : Edge) (n : Nat) :
    e.endsOnly n other = (if !other.hasEnd e.endA && decide (e.endA = n) then 1 else 0) +
      if !other.hasEnd e.endB && decide (e.endB = n) then 1 else 0 := by
  rw [Edge.endsOnly, Edge.hasEnd]
  by_cases a : e.endA = n
  · have b : e.endB ≠ n := fun b => two (a.trans b.symm)
    simp [a, b]
  · by_cases b : e.endB = n
    · simp [a, b]
    · simp [a, b]

/-- An edge that changes its ends moves the degree and the reference count of each end that it leaves or reaches
(R5). -/
theorem node_moveEnds {old new : Edge} (oldTwo : old.endA ≠ old.endB) (newTwo : new.endA ≠ new.endB) (s : State)
    (n : Nat) : (s.moveEnds old new).node n = (s.node n).map (Node.moved (old.endsOnly n new) (new.endsOnly n old)) := by
  rw [State.moveEnds]
  rw [node_keptOrAddEnd, node_keptOrAddEnd, node_keptOrDropEnd, node_keptOrDropEnd, endsOnly_eq oldTwo,
    endsOnly_eq newTwo, Option.map_map, Option.map_map, Option.map_map]
  congr 1
  funext x
  simp only [Function.comp, Node.moved, Nat.sub_zero, Nat.add_zero, Nat.sub_sub, Nat.add_assoc]

/-! ### One edge's record changes, comes or goes -/

/-- Degrees, reference counts and the open-lift count follow the two records, and all else that is recorded stays. -/
structure EdgeReplaced (s t : State) (id : Nat) (old new : Option Edge) : Prop where
  target : t.target = s.target
  cabin : t.cabin = s.cabin
  programme : t.programme = s.programme
  screen : t.screen = s.screen
  sorted : Table.wf t.graph.edges = true
  now : ∀ k, t.edge k = if k = id then new else s.edge k
  was : s.edge id = old
  replaced : Table.Replaces s.graph.edges t.graph.edges old new
  degrees : ∀ n, Moves (s.nodeDegree n) (t.nodeDegree n) (old.elim 0 (Edge.endsOn n)) (new.elim 0 (Edge.endsOn n))
  nodeRefs : ∀ n, Moves (s.nodeRefs n) (t.nodeRefs n) (old.elim 0 (Edge.endsOn n)) (new.elim 0 (Edge.endsOn n))
  lifts : Moves (some s.graph.openLifts) (some t.graph.openLifts) (old.elim 0 Edge.lifts) (new.elim 0 Edge.lifts)
  ends : ∀ e, new = some e → e.endA ≠ e.endB ∧ (s.node e.endA).isSome ∧ (s.node e.endB).isSome
  room : ∀ n, t.endsAt n ≤ Config.endsPerNode

theorem Sound.edgeReplaced {s t : State} (h : Sound s) {id : Nat} {old new : Option Edge}
    (c : EdgeReplaced s t id old new) : Sound t := by
  have bound : ∀ f : Edge → Nat, old.elim 0 f ≤ Table.total f s.graph.edges := fun f => by
    rw [← c.was]
    exact Table.elim_le_total f _ id h.sorted.edges
  have ends : ∀ n, t.endsAt n + old.elim 0 (Edge.endsOn n) = s.endsAt n + new.elim 0 (Edge.endsOn n) := fun n => by
    rw [endsAt_eq_total, endsAt_eq_total]
    exact c.replaced (Edge.endsOn n)
  have endsBound : ∀ n, old.elim 0 (Edge.endsOn n) ≤ s.endsAt n := fun n => by
    rw [endsAt_eq_total]
    exact bound (Edge.endsOn n)
  have claims : ∀ n, t.claimsOnNode n + old.elim 0 (Edge.endsOn n) =
      s.claimsOnNode n + new.elim 0 (Edge.endsOn n) := fun n => by
    have moved := ends n
    simp only [State.claimsOnNode, c.target, c.cabin, c.screen]
    omega
  refine ⟨⟨c.sorted, c.target ▸ h.sorted.targets, c.cabin ▸ h.sorted.cabins, c.programme ▸ h.sorted.entries,
    c.screen ▸ h.sorted.screens⟩, ⟨fun k e he => ?_, fun n => ?_, ?_, c.room⟩,
    h.targets.of_views c.target (by rw [c.cabin]) (by rw [c.programme]) (by rw [c.screen])⟩
  · rw [c.now] at he
    split at he
    · exact (c.ends e he).1
    · exact h.deck.twoEnds k e he
  · obtain ⟨free, degree, refs⟩ := (nodeRight_iff s n).mp (h.deck.nodes n)
    refine (nodeRight_iff t n).mpr ⟨fun gone => ?_, (c.degrees n).right degree (ends n) (endsBound n),
      (c.nodeRefs n).right refs (claims n) ((endsBound n).trans (endsAt_le_claimsOnNode s n))⟩
    have was : s.nodeRefs n = none := by
      have := (c.nodeRefs n).live
      rw [gone] at this
      simpa using this.symm
    have none : s.node n = none := by simpa [State.nodeRefs] using was
    have won : new.elim 0 (Edge.endsOn n) = 0 := by
      cases e : new with
      | none => rfl
      | some x =>
        obtain ⟨_, a, b⟩ := c.ends x e
        have apart : x.hasEnd n = false := by
          rw [Edge.hasEnd, Bool.or_eq_false_iff, decide_eq_false_iff_not, decide_eq_false_iff_not]
          exact ⟨fun e => by simp [e, none] at a, fun e => by simp [e, none] at b⟩
        simp [Edge.endsOn, apart]
    have := claims n
    have := free was
    omega
  · have right : ∀ n, some s.graph.openLifts = some n → n = Table.total Edge.lifts s.graph.edges := fun n e => by
      rw [← openLifts_eq_total, ← h.deck.lifts]
      exact (Option.some.inj e).symm
    rw [openLifts_eq_total]
    exact c.lifts.right right (c.replaced Edge.lifts) (bound Edge.lifts) _ rfl

end Sys2Proof.Machine
end

section
/-! The requests on edges keep a sound state sound (R5 to R10, R16). -/

namespace Sys2Proof.Machine

/-! ### The raise and the build that every change of an edge ends with -/

@[simp] theorem graphRaise_graph (s : State) (stepFree : Bool) :
    (s.graphRaise stepFree).graph = (s.raiseGens stepFree).graph := (takeRaise_keeps _ _).1

@[simp] theorem books_graphRaise (s : State) (stepFree : Bool) : (s.graphRaise stepFree).books = s.books := by
  simp only [State.books, graphRaise_graph, graphRaise_keeps]
  rfl

/-- The state with another table of edges. -/
def State.withEdges (s : State) (t : Table Edge) : State := { s with graph := { s.graph with edges := t } }

@[simp] theorem node_withEdges (s : State) (t : Table Edge) (n : Nat) : (s.withEdges t).node n = s.node n := rfl

/-! ### The open-lift count (R16) -/

theorem openLifts_liftRises (s : State) (c : Bool) :
    (s.liftRises c).graph.openLifts = s.graph.openLifts + if c then 1 else 0 := by
  cases c <;> rfl

theorem openLifts_liftFalls (s : State) (c : Bool) :
    (s.liftFalls c).graph.openLifts = s.graph.openLifts - if c then 1 else 0 := by
  cases c <;> rfl

@[simp] theorem liftRises_nodes (s : State) (c : Bool) :
    (s.liftRises c).graph.nodes = s.graph.nodes ∧ (s.liftRises c).graph.edges = s.graph.edges := by
  cases c <;> exact ⟨rfl, rfl⟩

@[simp] theorem liftFalls_nodes (s : State) (c : Bool) :
    (s.liftFalls c).graph.nodes = s.graph.nodes ∧ (s.liftFalls c).graph.edges = s.graph.edges := by
  cases c <;> exact ⟨rfl, rfl⟩

@[simp] theorem node_liftRises (s : State) (c : Bool) (n : Nat) : (s.liftRises c).node n = s.node n := by
  rw [State.node, (liftRises_nodes s c).1]
  rfl

@[simp] theorem node_liftFalls (s : State) (c : Bool) (n : Nat) : (s.liftFalls c).node n = s.node n := by
  rw [State.node, (liftFalls_nodes s c).1]
  rfl

@[simp] theorem moveEnds_edges (s : State) (old new : Edge) :
    (s.moveEnds old new).graph.edges = s.graph.edges ∧
    (s.moveEnds old new).graph.openLifts = s.graph.openLifts := by
  rw [State.moveEnds]
  and_intros <;> split <;> split <;> split <;> split <;> rfl

/-! ### Room for edge ends (R8) -/

theorem endsOfOthers_eq (s : State) (id n : Nat) :
    s.endsOfOthers id n = Table.total (Edge.endsOn n) (Table.del s.graph.edges id) := by
  refine Eq.trans ?_ (Table.count_eq_total (Table.del s.graph.edges id) fun e => e.hasEnd n)
  rw [State.endsOfOthers, Table.count, Table.del, List.filter_filter]
  simp only [Bool.and_comm]

theorem endsOfOthers_add {s : State} (sorted : Table.wf s.graph.edges = true) (id n : Nat) :
    s.endsOfOthers id n + (s.edge id).elim 0 (Edge.endsOn n) = s.endsAt n := by
  rw [endsOfOthers_eq, endsAt_eq_total]
  exact Table.total_del _ _ _ sorted

/-- An edge put where each of its ends has room leaves room everywhere. -/
theorem room_of_put {s t : State} (h : Sound s) {id : Nat} {e : Edge}
    (replaced : Table.Replaces s.graph.edges t.graph.edges (s.edge id) (some e))
    (roomA : s.endsOfOthers id e.endA < Config.endsPerNode) (roomB : s.endsOfOthers id e.endB < Config.endsPerNode)
    (n : Nat) : t.endsAt n ≤ Config.endsPerNode := by
  have others := endsOfOthers_add h.sorted.edges id n
  have ends := replaced (Edge.endsOn n)
  rw [← endsAt_eq_total, ← endsAt_eq_total, Option.elim_some] at ends
  have before := h.deck.degrees n
  have one : e.endsOn n ≤ 1 := by rw [Edge.endsOn]; split <;> omega
  by_cases at_ : e.hasEnd n = true
  · have few : s.endsOfOthers id n < Config.endsPerNode := by
      rw [Edge.hasEnd, Bool.or_eq_true, decide_eq_true_eq, decide_eq_true_eq] at at_
      rcases at_ with rfl | rfl
      · exact roomA
      · exact roomB
    omega
  · have none : e.endsOn n = 0 := by simp [Edge.endsOn, at_]
    omega

/-! ### Degrees and reference counts that follow an edge (R5) -/

theorem moves_of_moved {s t : State} {n lost won : Nat} (h : t.node n = (s.node n).map (Node.moved lost won)) :
    Moves (s.nodeDegree n) (t.nodeDegree n) lost won ∧ Moves (s.nodeRefs n) (t.nodeRefs n) lost won := by
  rw [State.nodeDegree, State.nodeDegree, State.nodeRefs, State.nodeRefs, h, Option.map_map, Option.map_map]
  cases s.node n with
  | none => exact ⟨⟨rfl, fun _ _ e => by simp at e⟩, ⟨rfl, fun _ _ e => by simp at e⟩⟩
  | some x =>
    refine ⟨⟨rfl, fun a b ha hb le => ?_⟩, ⟨rfl, fun a b ha hb le => ?_⟩⟩ <;>
      simp only [Option.map_some, Option.some.injEq, Function.comp, Node.moved] at ha hb <;> omega

/-- The ends that an edge has and another has not, and the ends of both. -/
theorem endsOnly_add (old new : Edge) (n : Nat) :
    old.endsOnly n new ≤ old.endsOn n ∧ old.endsOn n + new.endsOnly n old = old.endsOnly n new + new.endsOn n := by
  rw [Edge.endsOnly, Edge.endsOnly, Edge.endsOn, Edge.endsOn]
  cases old.hasEnd n <;> cases new.hasEnd n <;> decide

/-! ### EDGE_PUT (R6, R7) -/

/-- The state of an EDGE_PUT that creates, before the raise. -/
def State.edgeTaken (s : State) (id : Nat) (e : Edge) : State :=
  (((s.withEdges (Table.put s.graph.edges id e)).addEnd e.endA).addEnd e.endB).liftRises e.openLift

theorem createEdge_eq (s : State) (id : Nat) (e : Edge) :
    s.createEdge id e = ((s.edgeTaken id e).graphRaise (decide (e.kind ≠ .stair))).startBuild := rfl

theorem edgeTaken_edges (s : State) (id : Nat) (e : Edge) :
    (s.edgeTaken id e).graph.edges = Table.put s.graph.edges id e := (liftRises_nodes _ _).2

theorem node_edgeTaken {e : Edge} (two : e.endA ≠ e.endB) (s : State) (id n : Nat) :
    (s.edgeTaken id e).node n = (s.node n).map (Node.moved 0 (e.endsOn n)) := by
  rw [State.edgeTaken, node_liftRises, node_addEnds two, node_withEdges]

theorem openLifts_edgeTaken (s : State) (id : Nat) (e : Edge) :
    (s.edgeTaken id e).graph.openLifts = s.graph.openLifts + e.lifts := openLifts_liftRises _ _

theorem edgeTaken_replaces {s : State} (h : Sound s) {id : Nat} {e : Edge} (free : s.edge id = none)
    (two : e.endA ≠ e.endB) (liveA : (s.node e.endA).isSome) (liveB : (s.node e.endB).isSome)
    (roomA : s.endsOfOthers id e.endA < Config.endsPerNode) (roomB : s.endsOfOthers id e.endB < Config.endsPerNode) :
    EdgeReplaced s (s.edgeTaken id e) id none (some e) := by
  have edges := edgeTaken_edges s id e
  have replaced : Table.Replaces s.graph.edges (s.edgeTaken id e).graph.edges (s.edge id) (some e) := by
    rw [edges]
    exact Table.replaces_put _ _ _ h.sorted.edges
  exact {
    target := by simp [State.edgeTaken, State.withEdges]
    cabin := by simp [State.edgeTaken, State.withEdges]
    programme := by simp [State.edgeTaken, State.withEdges]
    screen := by simp [State.edgeTaken, State.withEdges]
    sorted := by rw [edges]; exact Table.wf_put _ _ _ h.sorted.edges
    now := fun k => by rw [State.edge, edges, Table.get_put]; rfl
    was := free
    replaced := free ▸ replaced
    degrees := fun n => (moves_of_moved (node_edgeTaken two s id n)).1
    nodeRefs := fun n => (moves_of_moved (node_edgeTaken two s id n)).2
    lifts := by rw [openLifts_edgeTaken]; exact Moves.add (some _) _
    ends := fun x hx => by cases hx; exact ⟨two, liveA, liveB⟩
    room := room_of_put h replaced roomA roomB }

/-- The state of an EDGE_PUT that amends, before the raise. -/
def State.edgeMoved (s : State) (id : Nat) (old e : Edge) : State :=
  (((s.withEdges (Table.put s.graph.edges id e)).moveEnds old e).liftFalls old.openLift).liftRises e.openLift

theorem amendEdge_eq (s : State) (id : Nat) (old e : Edge) :
    s.amendEdge id old e =
      ((s.edgeMoved id old e).graphRaise (!(decide (old.kind = .stair) && decide (e.kind = .stair)))).startBuild := rfl

theorem edgeMoved_edges (s : State) (id : Nat) (old e : Edge) :
    (s.edgeMoved id old e).graph.edges = Table.put s.graph.edges id e := by
  rw [State.edgeMoved, (liftRises_nodes _ _).2, (liftFalls_nodes _ _).2, (moveEnds_edges _ _ _).1]
  rfl

theorem node_edgeMoved {old e : Edge} (oldTwo : old.endA ≠ old.endB) (two : e.endA ≠ e.endB) (s : State)
    (id n : Nat) :
    (s.edgeMoved id old e).node n = (s.node n).map (Node.moved (old.endsOnly n e) (e.endsOnly n old)) := by
  rw [State.edgeMoved, node_liftRises, node_liftFalls, node_moveEnds oldTwo two, node_withEdges]

theorem openLifts_edgeMoved (s : State) (id : Nat) (old e : Edge) :
    (s.edgeMoved id old e).graph.openLifts = s.graph.openLifts - old.lifts + e.lifts := by
  rw [State.edgeMoved, openLifts_liftRises, openLifts_liftFalls, (moveEnds_edges _ _ _).2]
  rfl

theorem edgeMoved_replaces {s : State} (h : Sound s) {id : Nat} {old e : Edge} (was : s.edge id = some old)
    (two : e.endA ≠ e.endB) (liveA : (s.node e.endA).isSome) (liveB : (s.node e.endB).isSome)
    (roomA : s.endsOfOthers id e.endA < Config.endsPerNode) (roomB : s.endsOfOthers id e.endB < Config.endsPerNode) :
    EdgeReplaced s (s.edgeMoved id old e) id (some old) (some e) := by
  have edges := edgeMoved_edges s id old e
  have node := node_edgeMoved (h.deck.twoEnds id old was) two s id
  have replaced : Table.Replaces s.graph.edges (s.edgeMoved id old e).graph.edges (s.edge id) (some e) := by
    rw [edges]
    exact Table.replaces_put _ _ _ h.sorted.edges
  exact {
    target := by simp [State.edgeMoved, State.withEdges]
    cabin := by simp [State.edgeMoved, State.withEdges]
    programme := by simp [State.edgeMoved, State.withEdges]
    screen := by simp [State.edgeMoved, State.withEdges]
    sorted := by rw [edges]; exact Table.wf_put _ _ _ h.sorted.edges
    now := fun k => by rw [State.edge, edges, Table.get_put]; rfl
    was := was
    replaced := was ▸ replaced
    degrees := fun n => (moves_of_moved (node n)).1.widen (endsOnly_add old e n).1 (endsOnly_add old e n).2
    nodeRefs := fun n => (moves_of_moved (node n)).2.widen (endsOnly_add old e n).1 (endsOnly_add old e n).2
    lifts := by
      rw [openLifts_edgeMoved]
      exact ((Moves.sub (some _) _).trans (Moves.add _ _)).widen (Nat.le_of_eq (Nat.add_zero _)) (by simp)
    ends := fun x hx => by cases hx; exact ⟨two, liveA, liveB⟩
    room := room_of_put h replaced roomA roomB }

theorem edgePut_sound (b : EdgeBody) {s : State} (h : Sound s) : Sound (edgePut b s).1 := by
  rw [edgePut]
  split
  · exact h
  · rename_i e _
    refine sound_ite (fun _ => h) fun two => sound_ite (fun _ => h) fun live => sound_ite (fun _ => h) fun roomA =>
      sound_ite (fun _ => h) fun roomB => ?_
    rw [not_or] at live
    have liveA : (s.node e.endA).isSome := by
      rw [Option.isSome_iff_ne_none]
      simpa using live.1
    have liveB : (s.node e.endB).isSome := by
      rw [Option.isSome_iff_ne_none]
      simpa using live.2
    split
    · rename_i free
      dsimp only
      rw [createEdge_eq]
      exact (h.edgeReplaced (edgeTaken_replaces h free two liveA liveB (Nat.lt_of_not_le roomA)
        (Nat.lt_of_not_le roomB))).of_books (by simp)
    · rename_i old was
      dsimp only
      rw [amendEdge_eq]
      exact (h.edgeReplaced (edgeMoved_replaces h was two liveA liveB (Nat.lt_of_not_le roomA)
        (Nat.lt_of_not_le roomB))).of_books (by simp)

/-! ### EDGE_SET_PASS (R9) -/

/-- The state of an EDGE_SET_PASS, before the raise. -/
def State.passSet (s : State) (id : Nat) (e : Edge) (p : Passability) : State :=
  ((s.withEdges (Table.modify s.graph.edges id fun e => { e with pass := p })).liftRises
    (decide (e.kind = .lift) && !e.crewOnly && decide (p = .opened))).liftFalls
    (decide (e.kind = .lift) && !e.crewOnly && decide (p = .closed))

theorem setPass_eq (s : State) (id : Nat) (e : Edge) (p : Passability) :
    s.setPass id e p = ((s.passSet id e p).graphRaise (decide (e.kind ≠ .stair))).startBuild := rfl

theorem passSet_tables (s : State) (id : Nat) (e : Edge) (p : Passability) :
    (s.passSet id e p).graph.edges = Table.modify s.graph.edges id (fun e => { e with pass := p }) ∧
    (s.passSet id e p).graph.nodes = s.graph.nodes := by
  rw [State.passSet, (liftFalls_nodes _ _).2, (liftFalls_nodes _ _).1, (liftRises_nodes _ _).2,
    (liftRises_nodes _ _).1]
  exact ⟨rfl, rfl⟩

/-- The open-lift count follows the passability: what the old edge counted goes, and what the new one counts comes. -/
theorem openLifts_passSet (s : State) (id : Nat) {e : Edge} {p : Passability} (differs : e.pass ≠ p) :
    (s.passSet id e p).graph.openLifts = s.graph.openLifts - e.lifts + Edge.lifts { e with pass := p } := by
  rw [State.passSet, openLifts_liftFalls, openLifts_liftRises, Edge.lifts, Edge.lifts, Edge.openLift, Edge.openLift]
  show s.graph.openLifts + _ - _ = _
  cases p with
  | opened =>
    have was : e.pass = .closed := by
      cases q : e.pass with
      | opened => exact absurd q differs
      | closed => rfl
    simp [was]
  | closed =>
    have was : e.pass = .opened := by
      cases q : e.pass with
      | opened => rfl
      | closed => exact absurd q differs
    simp [was]

theorem passSet_replaces {s : State} (h : Sound s) {id : Nat} {e : Edge} (was : s.edge id = some e) {p : Passability}
    (differs : e.pass ≠ p) : EdgeReplaced s (s.passSet id e p) id (some e) (some { e with pass := p }) := by
  obtain ⟨edges, nodes⟩ := passSet_tables s id e p
  have held : Table.get s.graph.edges id = some e := was
  have replaced := Table.replaces_modify s.graph.edges id (fun e => { e with pass := p }) h.sorted.edges
  rw [held, Option.map_some, ← edges] at replaced
  have node : ∀ n, (s.passSet id e p).node n = s.node n := fun n => by rw [State.node, nodes]; rfl
  have ends := ((deckRight_iff h.sorted).mp h.deck).1.1 id e was
  exact {
    target := by simp [State.passSet, State.withEdges]
    cabin := by simp [State.passSet, State.withEdges]
    programme := by simp [State.passSet, State.withEdges]
    screen := by simp [State.passSet, State.withEdges]
    sorted := by rw [edges, Table.wf_modify]; exact h.sorted.edges
    now := fun k => by
      rw [State.edge, edges, Table.get_modify]
      split
      · rename_i same
        rw [same, held]
        rfl
      · rfl
    was := was
    replaced := replaced
    degrees := fun n => by rw [State.nodeDegree, State.nodeDegree, node]; exact Moves.same _ _
    nodeRefs := fun n => by rw [State.nodeRefs, State.nodeRefs, node]; exact Moves.same _ _
    lifts := by
      rw [openLifts_passSet s id differs]
      exact ((Moves.sub (some _) _).trans (Moves.add _ _)).widen (Nat.le_of_eq (Nat.add_zero _)) (by simp)
    ends := fun x hx => by cases hx; exact ends
    room := fun n => by
      have same := replaced (Edge.endsOn n)
      rw [← endsAt_eq_total, ← endsAt_eq_total] at same
      have stays : s.endsAt n = (s.passSet id e p).endsAt n := (Nat.add_right_cancel same).symm
      exact stays ▸ h.deck.degrees n }

theorem edgeSetPass_sound (b : Nat × Nat) {s : State} (h : Sound s) : Sound (edgeSetPass b s).1 := by
  rw [edgeSetPass]
  split
  · exact h
  · rename_i p _
    refine sound_ite (fun _ => h) fun _ => ?_
    split
    · exact h
    · rename_i e was
      refine sound_ite (fun _ => h) fun differs => ?_
      dsimp only
      rw [setPass_eq]
      exact (h.edgeReplaced (passSet_replaces h was differs)).of_books (by simp)

/-! ### EDGE_RETIRE (R10) -/

/-- The state of an EDGE_RETIRE, before the raise. -/
def State.edgeGone (s : State) (id : Nat) (e : Edge) : State :=
  (((s.withEdges (Table.del s.graph.edges id)).dropEnd e.endA).dropEnd e.endB).liftFalls e.openLift

theorem removeEdge_eq (s : State) (id : Nat) (e : Edge) :
    s.removeEdge id e = ((s.edgeGone id e).graphRaise (decide (e.kind ≠ .stair))).startBuild := rfl

theorem edgeGone_edges (s : State) (id : Nat) (e : Edge) :
    (s.edgeGone id e).graph.edges = Table.del s.graph.edges id := (liftFalls_nodes _ _).2

theorem node_edgeGone {e : Edge} (two : e.endA ≠ e.endB) (s : State) (id n : Nat) :
    (s.edgeGone id e).node n = (s.node n).map (Node.moved (e.endsOn n) 0) := by
  rw [State.edgeGone, node_liftFalls, node_dropEnds two, node_withEdges]

theorem openLifts_edgeGone (s : State) (id : Nat) (e : Edge) :
    (s.edgeGone id e).graph.openLifts = s.graph.openLifts - e.lifts := openLifts_liftFalls _ _

theorem edgeGone_replaces {s : State} (h : Sound s) {id : Nat} {e : Edge} (was : s.edge id = some e) :
    EdgeReplaced s (s.edgeGone id e) id (some e) none := by
  have edges := edgeGone_edges s id e
  have node := node_edgeGone (h.deck.twoEnds id e was) s id
  have replaced := Table.replaces_del s.graph.edges id h.sorted.edges
  rw [show Table.get s.graph.edges id = some e from was, ← edges] at replaced
  exact {
    target := by simp [State.edgeGone, State.withEdges]
    cabin := by simp [State.edgeGone, State.withEdges]
    programme := by simp [State.edgeGone, State.withEdges]
    screen := by simp [State.edgeGone, State.withEdges]
    sorted := by rw [edges]; exact Table.wf_del _ _ h.sorted.edges
    now := fun k => by rw [State.edge, edges, Table.get_del]; rfl
    was := was
    replaced := replaced
    degrees := fun n => (moves_of_moved (node n)).1
    nodeRefs := fun n => (moves_of_moved (node n)).2
    lifts := by rw [openLifts_edgeGone]; exact Moves.sub (some _) _
    ends := fun x hx => (nomatch hx)
    room := fun n => by
      have fewer := replaced (Edge.endsOn n)
      rw [← endsAt_eq_total, ← endsAt_eq_total] at fewer
      have before := h.deck.degrees n
      simp only [Option.elim_some, Option.elim_none] at fewer
      omega }

theorem edgeRetire_sound (id : Nat) {s : State} (h : Sound s) : Sound (edgeRetire id s).1 := by
  rw [edgeRetire]
  refine sound_ite (fun _ => h) fun _ => ?_
  split
  · exact h
  · rename_i e was
    dsimp only
    rw [removeEdge_eq]
    exact (h.edgeReplaced (edgeGone_replaces h was)).of_books (by simp)

end Sys2Proof.Machine
end

section
/-! What leaves the books alone: the operations of the trunks, the links, the maps and the port, and the settings. -/

namespace Sys2Proof.Machine

/-! ### Updates and shared operations -/

@[simp] theorem books_beginRequest (s : State) : s.beginRequest.books = s.books := rfl
@[simp] theorem books_placeAnswer (s : State) (tag : Byte) (r : Reply) : (s.placeAnswer tag r).books = s.books := rfl
@[simp] theorem books_withPending (s : State) (cs : List Instr) : (s.withPending cs).books = s.books := rfl
@[simp] theorem books_tick (s : State) : s.tick.books = s.books := rfl
@[simp] theorem books_drive (s : State) (out : List Byte) : (s.drive out).books = s.books := rfl
@[simp] theorem books_raiseNotice (s : State) (n : Notice) : (s.raiseNotice n).books = s.books := rfl
@[simp] theorem books_modTrunk (s : State) (i : Fin 16) (f : Trunk → Trunk) : (s.modTrunk i f).books = s.books := rfl
@[simp] theorem books_modLink (s : State) (l : Fin 4) (f : Link → Link) : (s.modLink l f).books = s.books := rfl
@[simp] theorem books_modMap (s : State) (m : MapName) (f : RouteMap → RouteMap) :
    (s.modMap m f).books = s.books := rfl
@[simp] theorem books_setCursor (s : State) (t : TableName) (k : Nat) : (s.setCursor t k).books = s.books := rfl

@[simp] theorem books_settle (s : State) : s.settle.books = s.books := by rw [State.settle, books_pickAll, books_startBuild]

theorem books_modCabin (s : State) (c : Nat) (f : Cabin → Cabin) (h : ∀ x, (f x).stake = x.stake) :
    (s.modCabin c f).books = s.books := by
  simp [State.books, stakes_modCabin s c f h]

/-! ### Trunks and plates -/

@[simp] theorem books_owePlate (s : State) (c : Nat) : (s.owePlate c).books = s.books := by simp [State.books]

@[simp] theorem books_holdExpires (s : State) (i : Fin 16) : (s.holdExpires i).books = s.books := by
  simp [State.books]

@[simp] theorem books_loses (s : State) (i : Fin 16) (b : Bool) : (s.loses i b).books = s.books := by
  simp [State.books]

@[simp] theorem books_writeDone (s : State) (c : Nat) (g : Gen) : (s.writeDone c g).books = s.books := by
  simp [State.books]

@[simp] theorem books_writeFailed (s : State) (c : Nat) : (s.writeFailed c).books = s.books := by
  simp [State.books]

@[simp] theorem books_endSurveyStep (s : State) (i : Fin 16) (a : Nat) (b : Bool) (how : SurveyEnd) :
    (s.endSurveyStep i a b how).books = s.books := by simp [State.books]

theorem books_endWrite (s : State) (i : Fin 16) (effect : State → Nat → Face → State)
    (keeps : ∀ u c face, (effect u c face).books = u.books) : (s.endWrite i effect).books = s.books := by
  rw [State.endWrite]
  split
  · rw [books_pickAll, keeps, books_modTrunk]
  · rw [books_pickAll, books_modTrunk]
  · rfl
  · rfl
  · rfl

/-! ### Reports of the cabins (R74 to R77) -/

theorem takePrivacy_keeps (v : Privacy) (s : State) (c : Nat) (x : Cabin) :
    (State.takePrivacy v s c x).graph = s.graph ∧ (State.takePrivacy v s c x).target = s.target ∧
    (State.takePrivacy v s c x).programme = s.programme ∧ (State.takePrivacy v s c x).screen = s.screen := by
  rw [State.takePrivacy]
  split
  · exact ⟨rfl, rfl, rfl, rfl⟩
  · cases x.plateState <;> simp [State.settlePrivacy]

@[simp] theorem books_takePrivacy (v : Privacy) (s : State) (c : Nat) (x : Cabin) :
    (State.takePrivacy v s c x).books = s.books := by
  obtain ⟨graph, target, programme, screen⟩ := takePrivacy_keeps v s c x
  simp [State.books, graph, target, programme, screen]

@[simp] theorem books_takeServiceCall (s : State) (c : Nat) (x : Cabin) :
    (s.takeServiceCall c x).books = s.books := by
  have blocks : (s.takeServiceCall c x).graph = s.graph ∧ (s.takeServiceCall c x).target = s.target ∧
      (s.takeServiceCall c x).programme = s.programme ∧ (s.takeServiceCall c x).screen = s.screen := by
    rw [State.takeServiceCall]
    split <;> exact ⟨rfl, rfl, rfl, rfl⟩
  obtain ⟨graph, target, programme, screen⟩ := blocks
  simp [State.books, graph, target, programme, screen]

@[simp] theorem books_takeToolWrite (s : State) (c : Nat) (x : Cabin) : (s.takeToolWrite c x).books = s.books := by
  have blocks : (s.takeToolWrite c x).graph = s.graph ∧ (s.takeToolWrite c x).target = s.target ∧
      (s.takeToolWrite c x).programme = s.programme ∧ (s.takeToolWrite c x).screen = s.screen := by
    rw [State.takeToolWrite]
    cases x.plateState <;> simp [State.oweAgain]
  obtain ⟨graph, target, programme, screen⟩ := blocks
  simp [State.books, graph, target, programme, screen]

/-! ### Links and screens -/

@[simp] theorem books_nextPeriod (s : State) (l : Fin 4) : (s.nextPeriod l).books = s.books := by simp [State.books]

@[simp] theorem books_runLink (s : State) (l : Fin 4) : (s.runLink l).books = s.books := by simp [State.books]

@[simp] theorem books_answered (s : State) (n : Nat) : (s.answered n).books = s.books := by simp [State.books]

@[simp] theorem books_rejoin (s : State) (n : Nat) (p : Packet) : (s.rejoin n p).books = s.books := by
  simp [State.books]

@[simp] theorem books_takeAccept (s : State) (n : Nat) (p : Packet) : (s.takeAccept n p).books = s.books := by
  simp [State.books]

@[simp] theorem books_takeDescriptor (s : State) (n : Nat) (d : Descriptor) : (s.takeDescriptor n d).books = s.books := by
  simp [State.books]

@[simp] theorem books_descriptorFlag (s : State) (n : Nat) (b : Byte) : (s.descriptorFlag n b).books = s.books := by
  simp [State.books]

@[simp] theorem books_takeMiss (s : State) (n : Nat) (p : Packet) : (s.takeMiss n p).books = s.books := by
  simp [State.books]

theorem books_endExchange (s : State) (l : Fin 4) (effect : State → Nat → Packet → State)
    (keeps : ∀ u n p, (effect u n p).books = u.books) : (s.endExchange l effect).books = s.books := by
  rw [State.endExchange]
  split
  · rfl
  · dsimp only
    rw [books_runLink]
    split
    · rfl
    · rw [keeps, books_modLink]

theorem books_tellMuster {s before : State} (h : s.books = before.books) : (s.tellMuster before).books = before.books := by
  rw [State.tellMuster]
  split
  · rw [books_judgeStandDown, h]
  · exact h

theorem books_acceptArrives (s : State) (l : Fin 4) (address flags slot : Byte) (gen : Word16) :
    (s.acceptArrives l address flags slot gen).books = s.books :=
  books_endExchange s l _ fun u n p => by
    dsimp only
    rw [books_descriptorFlag]
    split <;> simp

theorem books_rejectArrives (s : State) (l : Fin 4) (flags : Byte) : (s.rejectArrives l flags).books = s.books :=
  books_endExchange s l _ fun u n p => by simp

theorem books_descriptorArrives (s : State) (l : Fin 4) (address flags lines : Byte) (rendered : Word16) (cls : Byte) :
    (s.descriptorArrives l address flags lines rendered cls).books = s.books :=
  books_endExchange s l _ fun u n p => by
    dsimp only
    rw [books_descriptorFlag]
    split
    · simp
    · split <;> simp

theorem books_missArrives (s : State) (l : Fin 4) : (s.missArrives l).books = s.books :=
  books_endExchange s l _ books_takeMiss

/-! ### Maps -/

theorem books_completeBuild (s : State) (b : Build) : (s.completeBuild b).books = s.books := by
  rw [State.completeBuild]
  dsimp only
  split
  · rw [books_raiseNotice, books_startBuild, books_mark]
    rfl
  · rw [books_startBuild, books_mark]
    rfl

theorem books_graphTakesTransition (s : State) (old : MusterState) : (s.graphTakesTransition old).books = s.books := by
  have hurried : s.hurryStations.books = s.books := rfl
  rw [State.graphTakesTransition]
  split <;> split <;> simp [hurried]

/-! ### Settings (R184) -/

@[simp] theorem books_switchTrunk (s : State) (i : Fin 16) (on : Bool) : (s.switchTrunk i on).books = s.books := by
  rw [State.switchTrunk]
  split
  · rfl
  · split
    · rfl
    · simp [State.books]

@[simp] theorem books_switchLink (s : State) (l : Fin 4) (on : Bool) : (s.switchLink l on).books = s.books := by
  rw [State.switchLink]
  split
  · rfl
  · split <;> simp [State.books]

theorem books_applySetting (s : State) (code value : Nat) : (s.applySetting code value).books = s.books := by
  unfold State.applySetting
  split
  · exact foldl_keeps State.books _ (fun u l => books_switchLink u l _) _ s
  · rfl
  · rfl
  · rfl
  · rfl
  · exact foldl_keeps State.books _ (fun u i => books_switchTrunk u i _) _ s
  · rfl
  · rfl
  · rfl
  · exact books_mark _ _
  · rfl
  · rfl
  · rfl

theorem books_configure (s : State) (changes : List (Nat × Nat)) : (s.configure changes).books = s.books := by
  have applied : ∀ u : State, (applyOrder.foldl (fun s c =>
      match changes.find? fun r => decide (r.1 = c) with
      | none => s
      | some r => s.applySetting c r.2) u).books = u.books := by
    refine foldl_keeps State.books _ (fun u c => ?_) applyOrder
    split
    · rfl
    · exact books_applySetting u c _
  rw [State.configure]
  split
  · rw [books_judgeStandDown, books_pickAll]
    exact applied s
  · rw [books_pickAll]
    exact applied s

end Sys2Proof.Machine
end

section
/-! Every step keeps a sound state sound, command by command, and the obligation that says so. -/

namespace Sys2Proof.Machine

/-! ### Requests -/

theorem judgeRequest_sound {α : Type} {op : Owner α} (keeps : ∀ b {u : State}, Sound u → Sound (op b u).1)
    (parsed : Option α) (changing : Bool) {s : State} (h : Sound s) : Sound (judgeRequest parsed changing op s).1 := by
  cases parsed with
  | none => exact h
  | some b =>
    rw [judgeRequest, handOver]
    exact sound_ite (fun _ => h) fun _ => keeps b h

/-- A request whose owner keeps a sound state sound. -/
theorem serve_sound {α : Type} {op : Owner α} (keeps : ∀ b {u : State}, Sound u → Sound (op b u).1) (tag : Byte)
    (parsed : Option α) (changing : Bool) {s : State} (h : Sound s) : Sound (serve tag parsed changing op s) :=
  (judgeRequest_sound keeps parsed changing (h.of_books (books_beginRequest s))).of_books (books_placeAnswer _ _ _)

theorem reading_sound {α : Type} (f : α → State → Reply) (b : α) {s : State} (h : Sound s) :
    Sound (reading f b s).1 := h

/-! ### Requests on the port, the plates and the muster state -/

theorem configSet_sound (b : ConfigBody) {s : State} (h : Sound s) : Sound (configSet b s).1 := by
  rw [configSet]
  split
  · exact h
  · exact sound_ite (fun _ => h) fun _ => h.of_books (books_configure s _)

theorem noticeClear_sound (n : Nat) {s : State} (h : Sound s) : Sound (noticeClear n s).1 := by
  rw [noticeClear]
  exact sound_ite (fun _ => h) fun _ => h.of_books rfl

theorem cursorSet_sound (b : Nat × Nat) {s : State} (h : Sound s) : Sound (cursorSet b s).1 := by
  rw [cursorSet]
  split
  · exact h
  · exact sound_ite (fun _ => h) fun _ => h.of_books rfl

theorem readNext_sound (b : Unit) {s : State} (h : Sound s) : Sound (readNext b s).1 := by
  rw [readNext]
  split <;> exact h.of_books rfl

theorem loadBegin_sound (b : Nat × Nat) {s : State} (h : Sound s) : Sound (loadBegin b s).1 := by
  rw [loadBegin]
  split
  · exact h
  · exact sound_ite (fun _ => h) fun _ => h.of_books rfl

theorem putRecord_sound (t : TableName) (body : List Byte) {s : State} (h : Sound s) :
    Sound (putRecord t body s).1 := by
  cases t with
  | node => exact judgeRequest_sound nodePut_sound _ _ h
  | edge => exact judgeRequest_sound edgePut_sound _ _ h
  | target => exact judgeRequest_sound targetPut_sound _ _ h
  | cabin => exact judgeRequest_sound cabinPut_sound _ _ h
  | entry => exact judgeRequest_sound eventPut_sound _ _ h
  | screen => exact judgeRequest_sound screenPut_sound _ _ h

theorem books_countRecord (s : State) (l : Load) : (s.countRecord l).books = s.books := by
  rw [State.countRecord]
  dsimp only
  split <;> rfl

theorem loadRecord_sound (body : List Byte) {s : State} (h : Sound s) : Sound (loadRecord body s).1 := by
  rw [loadRecord]
  split
  · exact h
  · exact (putRecord_sound _ body h).of_books (books_countRecord _ _)

theorem loadAbort_sound (b : Unit) {s : State} (h : Sound s) : Sound (loadAbort b s).1 := by
  rw [loadAbort]
  split
  · exact h
  · exact h.of_books rfl

theorem plateRetry_sound (b : Nat × Nat) {s : State} (h : Sound s) : Sound (plateRetry b s).1 := by
  rw [plateRetry]
  refine sound_ite (fun _ => ?_) fun _ => h
  split
  · exact h
  · exact sound_ite (fun _ => h.of_books (by simp)) fun _ => h

theorem serviceTake_sound (b : Unit) {s : State} (h : Sound s) : Sound (serviceTake b s).1 := by
  rw [serviceTake]
  split
  · exact h
  · rename_i slot rest _
    have taken : Sound (({ s with cabin := { s.cabin with service := rest } } : State).modCabin slot fun c =>
        { c with service := false }) :=
      h.of_books (books_modCabin _ _ _ fun _ => by rfl)
    dsimp only
    split <;> exact taken

/-- The state of a transition once the deck graph, the cabins and the programme have taken it, with what became of
the entries. -/
def State.transitionTaken (s : State) (new : MusterState) (cause : LastCause) : State × EntryChanges :=
  (((({ s with muster := s.muster.enter new cause } : State).raiseNotice .musterChange).graphTakesTransition
    s.musterNow).cabinsTakeTransition s.musterNow).programmeTakesTransition s.musterNow

theorem transition_eq (s : State) (new : MusterState) (cause : LastCause) :
    s.transition new cause =
      (let t := (s.transitionTaken new cause).1
       (t.mark ((transitionCauses new).or (t.entryCauses (s.transitionTaken new cause).2.venues))).settle.judgeStandDown) :=
  rfl

theorem transition_sound {s : State} (h : Sound s) (new : MusterState) (cause : LastCause) :
    Sound (s.transition new cause) := by
  have entered : Sound (({ s with muster := s.muster.enter new cause } : State).raiseNotice .musterChange) :=
    h.of_books rfl
  have deck := entered.of_books (books_graphTakesTransition _ s.musterNow)
  have programme := programmeTakesTransition_sound (cabinsTakeTransition_sound deck s.musterNow) s.musterNow
  have taken : Sound (s.transitionTaken new cause).1 := programme
  rw [transition_eq]
  refine taken.of_books ?_
  rw [books_judgeStandDown, books_settle, books_mark]

theorem startMuster_sound {s : State} (h : Sound s) (new : MusterState) : Sound (s.startMuster new).1 := by
  rw [State.startMuster]
  dsimp only
  exact transition_sound h new .request

theorem musterStart_sound (kind : Nat) {s : State} (h : Sound s) : Sound (musterStart kind s).1 := by
  unfold musterStart
  split
  · exact startMuster_sound h _
  · exact startMuster_sound h _
  · exact startMuster_sound h _
  · exact h
  · exact startMuster_sound h _
  · exact startMuster_sound h _
  · exact startMuster_sound h _
  · exact h
  · exact h

theorem endMuster_sound {s : State} (h : Sound s) : Sound s.endMuster.1 := by
  rw [State.endMuster]
  refine sound_ite (fun _ => h) fun _ => ?_
  dsimp only
  exact transition_sound h .standDown .request

theorem musterEnd_sound (b : Unit) {s : State} (h : Sound s) : Sound (musterEnd b s).1 := by
  rw [musterEnd]
  split
  · exact h
  · exact endMuster_sound h
  · exact endMuster_sound h
  · exact h

theorem restartRequest_sound {s : State} (h : Sound s) (tag : Byte) (body : List Byte) :
    Sound (s.restartRequest tag body) := by
  rw [State.restartRequest]
  split
  · exact warmRestart_sound (h.of_books (books_beginRequest s))
  · exact serve_sound (reading_sound _) _ _ _ h

/-! ### Events -/

theorem resetWith_sound (s : State) (cause : ResetCause) : Sound (s.resetWith cause) := by
  obtain ⟨tables, graph, degrees, targets, _⟩ := resetMeetsTheInvariants
  exact (sound_of_inv tables graph degrees targets).of_books rfl

theorem completeStandDown_sound {s : State} (h : Sound s) : Sound s.completeStandDown := by
  have taken : Sound { s with muster := { s.muster with completion := false } } := h.of_books rfl
  rw [State.completeStandDown]
  dsimp only
  split
  · exact transition_sound taken _ _
  · exact taken

theorem filterExpires_sound {s : State} (h : Sound s) : Sound s.filterExpires := by
  have taken : Sound { s with muster := { s.muster with asserted := s.muster.rawLow, filterTimer := stopped } } :=
    h.of_books rfl
  rw [State.filterExpires]
  dsimp only
  split
  · split
    · exact transition_sound taken _ _
    · exact transition_sound taken _ _
    · exact transition_sound taken _ _
    · exact taken
  · exact taken

theorem cabinAt_of_cabinOf {s : State} (sorted : Table.wf s.cabin.cabins = true) {e : ReportEntry} {slot : Nat}
    {c : Cabin} (found : s.cabinOf e = some (slot, c)) : s.cabinAt slot = some c := by
  rw [State.cabinOf, State.cabinByPlate] at found
  exact (Table.get_of_find sorted found).1

/-- A report that has left the queue, applied to the cabin it names. -/
theorem consume_sound {s : State} (h : Sound s) (e : ReportEntry) (rest : List ReportEntry)
    {effect : State → Nat → Cabin → State}
    (keeps : ∀ {u : State} {slot c}, Sound u → u.cabinAt slot = some c → Sound (effect u slot c)) :
    Sound (s.consume e rest effect) := by
  have left : Sound { s with plate := { s.plate with inbound := rest } } := h.of_books rfl
  rw [State.consume]
  refine Sound.of_books ?_ (books_pickAll _)
  split
  · exact left
  · rename_i slot c found
    exact keeps left (cabinAt_of_cabinOf left.sorted.cabins found)

/-! ### Events that leave the books alone -/

/-- What a command makes of a state, if it goes on. -/
def Keeps (o : Host.Outcome State Fault Refusal) : Prop := ∀ t, o = .next t → Sound t

theorem keeps_next {s : State} (h : Sound s) : Keeps (.next s) := fun t go => by
  cases go
  exact h

theorem keeps_of_books {s t : State} (h : Sound s) (same : t.books = s.books) : Keeps (.next t) :=
  keeps_next (h.of_books same)

theorem books_ite {c : Prop} [Decidable c] {a b s : State} (yes : a.books = s.books) (no : b.books = s.books) :
    (if c then a else b).books = s.books := by
  split
  · exact yes
  · exact no

theorem badFrame_keeps {s : State} (h : Sound s) (bytes : List Byte) : Keeps (execBadFrame bytes s) := by
  refine keeps_of_books h ?_
  split
  · rfl
  · split <;> rfl

theorem unknownRequest_keeps {s : State} (h : Sound s) (tag code : Byte) : Keeps (execUnknownRequest tag code s) := by
  refine keeps_of_books h ?_
  split <;> rfl

theorem entryCountTimerExpiry_keeps {s : State} (h : Sound s) : Keeps (execEntryCountTimerExpiry s) := by
  refine keeps_of_books h ?_
  split <;> rfl

theorem surveyTimerExpiry_keeps {s : State} (h : Sound s) (i : Fin 16) : Keeps (execSurveyTimerExpiry i s) := by
  refine keeps_of_books h ?_
  split
  · rfl
  · rw [books_pickAll, books_modTrunk]

theorem broadcastCompletion_keeps {s : State} (h : Sound s) (i : Fin 16) : Keeps (execBroadcastCompletion i s) := by
  refine keeps_of_books h ?_
  split
  · exact books_ite (by simp) (by simp)
  · rfl
  · rfl
  · rfl

theorem surveyStepEnd_keeps {s : State} (h : Sound s) (i : Fin 16) (how : SurveyEnd) :
    Keeps (execSurveyStepEnd i how s) := by
  refine keeps_of_books h ?_
  split
  · simp
  · rfl
  · rfl
  · rfl

theorem periodTimerExpiry_keeps {s : State} (h : Sound s) (l : Fin 4) : Keeps (execPeriodTimerExpiry l s) := by
  refine keeps_of_books h ?_
  split
  · rfl
  · exact books_nextPeriod s l

theorem buildCompletion_keeps {s : State} (h : Sound s) : Keeps (execBuildCompletion s) := by
  refine keeps_of_books h ?_
  split
  · rfl
  · exact books_completeBuild s _

/-! ### Events that move claims or counts -/

theorem alarmInFilterExpiry_keeps {s : State} (h : Sound s) : Keeps (execAlarmInFilterExpiry s) := by
  refine keeps_next ?_
  split
  · exact h
  · exact filterExpires_sound h

theorem drillTimerExpiry_keeps {s : State} (h : Sound s) : Keeps (execDrillTimerExpiry s) := by
  refine keeps_next ?_
  split
  · exact transition_sound h _ _
  · exact h
  · exact h
  · exact h
  · exact h

theorem standDownCompletion_keeps {s : State} (h : Sound s) : Keeps (execStandDownCompletion s) := by
  refine keeps_next ?_
  split
  · exact completeStandDown_sound h
  · exact h

theorem privacy_keeps {s : State} (h : Sound s) : Keeps (execPrivacy s) := by
  refine keeps_next ?_
  split
  · exact consume_sound h _ _ fun hu _ => hu.of_books (books_takePrivacy _ _ _ _)
  · exact h

theorem serviceCall_keeps {s : State} (h : Sound s) : Keeps (execServiceCall s) := by
  refine keeps_next ?_
  split
  · exact consume_sound h _ _ fun hu _ => hu.of_books (books_takeServiceCall _ _ _)
  · exact h

theorem sweepClear_keeps {s : State} (h : Sound s) : Keeps (execSweepClear s) := by
  refine keeps_next ?_
  split
  · exact consume_sound h _ _ fun hu live => takeSweep_sound hu _ live
  · exact h

theorem toolWrite_keeps {s : State} (h : Sound s) : Keeps (execToolWrite s) := by
  refine keeps_next ?_
  split
  · exact consume_sound h _ _ fun hu _ => hu.of_books (books_takeToolWrite _ _ _)
  · exact h

/-! ### Every command -/

theorem request_keeps {α : Type} {op : Owner α} (keeps : ∀ b {u : State}, Sound u → Sound (op b u).1) {s : State}
    (h : Sound s) (tag : Byte) (parsed : Option α) (changing : Bool) :
    Keeps (.next (serve tag parsed changing op s)) := keeps_next (serve_sound keeps tag parsed changing h)

theorem exec_keeps (i : Instr) {s : State} (h : Sound s) : Keeps (exec i s) := by
  cases i with
  | identify tag body => exact request_keeps (reading_sound _) h _ _ _
  | portStatus tag body => exact request_keeps (reading_sound _) h _ _ _
  | configGet tag body => exact request_keeps (reading_sound _) h _ _ _
  | configSet tag body => exact request_keeps configSet_sound h _ _ _
  | noticeClear tag body => exact request_keeps noticeClear_sound h _ _ _
  | restart tag body => exact keeps_next (restartRequest_sound h tag body)
  | cursorSet tag body => exact request_keeps cursorSet_sound h _ _ _
  | readNext tag body => exact request_keeps readNext_sound h _ _ _
  | loadBegin tag body => exact request_keeps loadBegin_sound h _ _ _
  | loadRecord tag body => exact request_keeps loadRecord_sound h _ _ _
  | loadAbort tag body => exact request_keeps loadAbort_sound h _ _ _
  | nodePut tag body => exact request_keeps nodePut_sound h _ _ _
  | nodeRetire tag body => exact request_keeps nodeRetire_sound h _ _ _
  | nodeGet tag body => exact request_keeps (reading_sound _) h _ _ _
  | edgePut tag body => exact request_keeps edgePut_sound h _ _ _
  | edgeSetPass tag body => exact request_keeps edgeSetPass_sound h _ _ _
  | edgeRetire tag body => exact request_keeps edgeRetire_sound h _ _ _
  | edgeGet tag body => exact request_keeps (reading_sound _) h _ _ _
  | routeAsk tag body => exact request_keeps (reading_sound _) h _ _ _
  | targetPut tag body => exact request_keeps targetPut_sound h _ _ _
  | targetRetire tag body => exact request_keeps targetRetire_sound h _ _ _
  | targetGet tag body => exact request_keeps (reading_sound _) h _ _ _
  | stationBlock tag body => exact request_keeps (stationSet_sound true) h _ _ _
  | stationUnblock tag body => exact request_keeps (stationSet_sound false) h _ _ _
  | cabinPut tag body => exact request_keeps cabinPut_sound h _ _ _
  | cabinAmend tag body => exact request_keeps cabinAmend_sound h _ _ _
  | cabinRetire tag body => exact request_keeps cabinRetire_sound h _ _ _
  | cabinGet tag body => exact request_keeps (reading_sound _) h _ _ _
  | plateRetry tag body => exact request_keeps plateRetry_sound h _ _ _
  | serviceTake tag body => exact request_keeps serviceTake_sound h _ _ _
  | trunkGet tag body => exact request_keeps (reading_sound _) h _ _ _
  | eventPut tag body => exact request_keeps eventPut_sound h _ _ _
  | eventAmend tag body => exact request_keeps eventAmend_sound h _ _ _
  | eventCancel tag body => exact request_keeps eventCancel_sound h _ _ _
  | eventRetire tag body => exact request_keeps eventRetire_sound h _ _ _
  | eventGet tag body => exact request_keeps (reading_sound _) h _ _ _
  | clockSet tag body => exact request_keeps clockSet_sound h _ _ _
  | clockGet tag body => exact request_keeps (reading_sound _) h _ _ _
  | screenPut tag body => exact request_keeps screenPut_sound h _ _ _
  | screenAmend tag body => exact request_keeps screenAmend_sound h _ _ _
  | screenRetire tag body => exact request_keeps screenRetire_sound h _ _ _
  | screenGet tag body => exact request_keeps (reading_sound _) h _ _ _
  | noticeSet tag body => exact request_keeps noticeSet_sound h _ _ _
  | musterStart tag body => exact request_keeps musterStart_sound h _ _ _
  | musterEnd tag body => exact request_keeps musterEnd_sound h _ _ _
  | musterStatus tag body => exact request_keeps (reading_sound _) h _ _ _
  | readAnswer x => exact keeps_of_books h rfl
  | portOverrun => exact keeps_of_books h rfl
  | badFrame bytes => exact badFrame_keeps h bytes
  | unknownRequest tag code => exact unknownRequest_keeps h tag code
  | powerOnReset => exact keeps_next (resetWith_sound s _)
  | pinReset => exact keeps_next (resetWith_sound s _)
  | alarmInChange low => exact keeps_of_books h rfl
  | alarmInFilterExpiry => exact alarmInFilterExpiry_keeps h
  | drillTimerExpiry => exact drillTimerExpiry_keeps h
  | entryCountTimerExpiry => exact entryCountTimerExpiry_keeps h
  | secondTimerExpiry => exact keeps_next (secondPasses_sound h)
  | standDownCompletion => exact standDownCompletion_keeps h
  | buildCompletion => exact buildCompletion_keeps h
  | surveyTimerExpiry i => exact surveyTimerExpiry_keeps h i
  | holdTimerExpiry i => exact keeps_of_books h (books_ite (by simp) rfl)
  | idleGuardExpiry i => exact keeps_of_books h (books_ite (by simp) rfl)
  | stuckTimerExpiry i => exact keeps_of_books h (books_ite (by simp) rfl)
  | otherTalkerOpen i => exact keeps_of_books h rfl
  | otherTalkerClose i => exact keeps_of_books h (by simp)
  | hold i a => exact keeps_of_books h (books_ite rfl rfl)
  | holdRelease i => exact keeps_of_books h (books_ite rfl (by simp))
  | arbitrationLoss i a => exact keeps_of_books h (books_ite (by simp) rfl)
  | recoveringWiresHigh i => exact keeps_of_books h (books_ite rfl rfl)
  | faultWiresHigh i => exact keeps_of_books h (books_ite rfl rfl)
  | writeCompletion i => exact keeps_of_books h (books_endWrite s i _ fun u c face => books_writeDone u c face.gen)
  | writeRefused i => exact keeps_of_books h (books_endWrite s i _ fun u c _ => books_writeFailed u c)
  | broadcastCompletion i => exact broadcastCompletion_keeps h i
  | surveyStepEnd i how => exact surveyStepEnd_keeps h i how
  | privacy => exact privacy_keeps h
  | serviceCall => exact serviceCall_keeps h
  | sweepClear => exact sweepClear_keeps h
  | toolWrite => exact toolWrite_keeps h
  | periodTimerExpiry l => exact periodTimerExpiry_keeps h l
  | accept l address flags slot gen =>
    exact keeps_of_books h (books_tellMuster (books_acceptArrives s l address flags slot gen))
  | reject l address flags slot gen => exact keeps_of_books h (books_rejectArrives s l flags)
  | descriptor l address flags lines languages panelClass =>
    exact keeps_of_books h (books_descriptorArrives s l address flags lines languages panelClass)
  | corruptAnswer l => exact keeps_of_books h (books_tellMuster (books_missArrives s l))
  | answerWindowExpiry l => exact keeps_of_books h (books_ite (books_tellMuster (books_missArrives s l)) rfl)
  | answerLimitExpiry l => exact keeps_of_books h (books_ite (books_tellMuster (books_missArrives s l)) rfl)
  | trunkWireChange i c d => exact keeps_of_books h (by simp)
  | screenAnswerBegin l => exact keeps_of_books h (books_ite rfl rfl)

theorem step_keeps {s : State} (h : Sound s) : Keeps (step s) := by
  rw [step]
  split
  · exact keeps_of_books h (books_tick s)
  · exact exec_keeps _ (h.of_books (books_withPending s _))

/-- Settles O56: the books of a state whose tables are canonical are sound exactly if the invariants hold
(`sound_of_inv`, `Sound.inv`), and every command keeps them sound. -/
theorem stepsKeepClaimsAndCounts : Obligations.StepsKeepClaimsAndCounts := by
  intro s t tables graph degrees targets go
  exact (step_keeps (sound_of_inv tables graph degrees targets) t go).inv

end Sys2Proof.Machine
end

section
/-! NODE_PUT and NODE_RETIRE, by their checks and by what they change (R1, R2). -/

namespace Sys2Proof.Machine

/-! ### The answer of a request that changes records -/

/-- A state is given by its blocks. -/
theorem eq_of_blocks {s t : State} (graph : s.graph = t.graph) (route : s.route = t.route) (target : s.target = t.target)
    (cabin : s.cabin = t.cabin) (plate : s.plate = t.plate) (programme : s.programme = t.programme)
    (screen : s.screen = t.screen) (muster : s.muster = t.muster) (port : s.port = t.port) (fresh : s.fresh = t.fresh)
    (pending : s.pending = t.pending) : s = t := by
  cases s
  cases t
  simp only at *
  subst graph route target cabin plate programme screen muster port fresh pending
  rfl

/-- The state with the Service Port of another. -/
def State.withPortOf (u s : State) : State := { u with port := s.port }

/-- What an owner makes of a request's records, seen from the state before the request: the answer alone comes on
top. -/
theorem serve_moved {α : Type} (tag : Byte) (b : α) (op : Owner α) (s : State) {u : State} {r : Reply}
    (ready : s.loading = false) (made : op b s.beginRequest = (u, r)) (port : u.port = s.beginRequest.port)
    (fresh : u.fresh = s.fresh) :
    serve tag (some b) true op s = s.answering (u.withPortOf s) tag r.result r.body := by
  rw [serve_changed tag b true op s (by simp [ready]) (by rw [made, port]; rfl) (by rw [made, fresh]), made]
  simp only [State.answering, State.withPortOf, port]
  rfl

/-- Marks depend on the screens and links alone. -/
theorem MarkedBy.of_screen {s t s' t' : State} {p : Causes} (h : MarkedBy s t p) (before : s'.screen = s.screen)
    (after : t'.screen = t.screen) : MarkedBy s' t' p := by
  have screenBefore : s'.screenAt = s.screenAt := funext fun n => by rw [State.screenAt, before]; rfl
  have screenAfter : t'.screenAt = t.screenAt := funext fun n => by rw [State.screenAt, after]; rfl
  have linkBefore : s'.link = s.link := funext fun l => by rw [State.link, before]; rfl
  have linkAfter : t'.link = t.link := funext fun l => by rw [State.link, after]; rfl
  have reach : p.reach s' = p.reach s := by
    funext r
    rw [Causes.reach, screenBefore]
    rfl
  simpa only [MarkedBy, QueuesGrow, screenBefore, screenAfter, linkBefore, linkAfter, reach] using h

/-! ### NODE_PUT (R1) -/

/-- Every field of a NODE_PUT is in its range (R1). -/
def NodeBody.Fits (b : NodeBody) : Prop := b.id ≤ 1023 ∧ b.deck ≤ 19 ∧ 1 ≤ b.zone ∧ b.zone ≤ 12

theorem nodePut_range_iff (b : NodeBody) :
    (Config.nodeSlots ≤ b.id ∨ Config.maxDeck < b.deck ∨ b.zone = 0 ∨ Config.maxZone < b.zone) ↔ ¬b.Fits := by
  rw [NodeBody.Fits, show Config.nodeSlots = 1024 from rfl, show Config.maxDeck = 19 from rfl,
    show Config.maxZone = 12 from rfl]
  omega

theorem nodePut_refused {b : NodeBody} (out : ¬b.Fits) (s : State) : nodePut b s = (s, .refuse .badField) := by
  rw [nodePut, if_pos ((nodePut_range_iff b).mpr out)]

theorem nodePut_creates {b : NodeBody} (fits : b.Fits) {s : State} (free : s.node b.id = none) :
    nodePut b s = (s.withNodes (Table.put s.graph.nodes b.id b.node), .done (u8 Outcome.created.code)) := by
  rw [nodePut, if_neg (fun out => (nodePut_range_iff b).mp out fits), free]
  rfl

theorem nodePut_amends {b : NodeBody} (fits : b.Fits) {s : State} {x : Node} (live : s.node b.id = some x) :
    nodePut b s = (if x.deck = b.deck ∧ x.zone = b.zone then s.modNode b.id b.amends
      else (s.modNode b.id b.amends).mark placeCauses, .done (u8 Outcome.amended.code)) := by
  rw [nodePut, if_neg (fun out => (nodePut_range_iff b).mp out fits), live]
  rfl

/-- A NODE_PUT that amends: the record, and marks if the deck or the zone changed. -/
theorem nodePut_amends_blocks {b : NodeBody} {s u : State} {x : Node} (live : s.node b.id = some x)
    (sorted : Table.wf s.screen.screens = true)
    (made : u = if x.deck = b.deck ∧ x.zone = b.zone then s.modNode b.id b.amends
      else (s.modNode b.id b.amends).mark placeCauses) :
    u = { s with graph := { s.graph with nodes := u.graph.nodes }, screen := u.screen } ∧
    (∀ n, u.node n = if n = b.id then some (b.amends x) else s.node n) ∧
    if x.deck = b.deck ∧ x.zone = b.zone then u.screen = s.screen else MarkedBy s u placeCauses := by
  have graph : u.graph = (s.modNode b.id b.amends).graph := by
    rw [made]
    split <;> simp
  refine ⟨?_, fun n => ?_, ?_⟩
  · refine eq_of_blocks (by rw [graph]; rfl) ?_ ?_ ?_ ?_ ?_ rfl ?_ ?_ ?_ ?_ <;> rw [made] <;> split <;> simp
  · rw [State.node, graph]
    show (s.modNode b.id b.amends).node n = _
    rw [node_modNode]
    split
    · rename_i e
      rw [e, live]
      rfl
    · exact congrFun Option.map_id (s.node n)
  · split
    · rename_i same
      rw [made, if_pos same]
      rfl
    · rename_i differs
      rw [made, if_neg differs]
      exact (mark_marks (s.modNode b.id b.amends) placeCauses sorted).of_screen rfl rfl

/-! ### NODE_RETIRE (R2) -/

theorem nodeRetire_refused {id : Nat} (out : 1023 < id) (s : State) : nodeRetire id s = (s, .refuse .badField) := by
  rw [nodeRetire, if_pos (show Config.nodeSlots ≤ id from out)]

theorem nodeRetire_of_range {id : Nat} (within : id ≤ 1023) (s : State) :
    nodeRetire id s = match s.node id with
      | none => (s, .refuse .notFound)
      | some x =>
        if 0 < x.refs then (s, { result := .inUse, body := u16 x.refs ++ u8 x.degree })
        else (s.withNodes (Table.del s.graph.nodes id), .done []) := by
  rw [nodeRetire, if_neg (show ¬Config.nodeSlots ≤ id from Nat.not_le.mpr (Nat.lt_succ_of_le within))]
  rfl

/-! ### The obligation -/

/-- NODE_PUT by the range of its fields and the slot it names (R1). -/
theorem execNodePut_meets (s : State) (tag i1 i0 d z : Byte) (ready : s.loading = false)
    (sorted : Table.wf s.screen.screens = true) :
    let b : NodeBody := { id := rd16 i1 i0, deck := d.toNat, zone := z.toNat }
    let i := Instr.nodePut tag [i1, i0, d, z]
    (¬b.Fits → exec i s = .next (s.answering s tag .badField [])) ∧
    (b.Fits → s.node b.id = none →
      ∃ t, exec i s = .next (s.answering t tag .done [0#8]) ∧
        t = { s with graph := { s.graph with nodes := t.graph.nodes } } ∧
        ∀ n, t.node n = if n = b.id then some b.node else s.node n) ∧
    (∀ x, b.Fits → s.node b.id = some x →
      ∃ t, exec i s = .next (s.answering t tag .done [1#8]) ∧
        t = { s with graph := { s.graph with nodes := t.graph.nodes }, screen := t.screen } ∧
        (∀ n, t.node n = if n = b.id then some (b.amends x) else s.node n) ∧
        if x.deck = b.deck ∧ x.zone = b.zone then t.screen = s.screen else MarkedBy s t placeCauses) := by
  intro b i
  have taken : exec i s = .next (serve tag (some b) true nodePut s) := rfl
  refine ⟨fun out => ?_, fun fits free => ?_, fun x fits live => ?_⟩
  · rw [taken, serve_same tag b true nodePut s (.refuse .badField) (by simp [ready]) (nodePut_refused out _)]
    rfl
  · refine ⟨s.withNodes (Table.put s.graph.nodes b.id b.node), ?_, rfl, fun n => Table.get_put _ _ _ _⟩
    rw [taken, serve_moved tag b nodePut s ready (nodePut_creates fits free) rfl rfl]
    rfl
  · obtain ⟨u, hu⟩ : ∃ u, u = if x.deck = b.deck ∧ x.zone = b.zone then s.beginRequest.modNode b.id b.amends
        else (s.beginRequest.modNode b.id b.amends).mark placeCauses := ⟨_, rfl⟩
    have made := nodePut_amends fits (s := s.beginRequest) live
    rw [← hu] at made
    obtain ⟨blocks, nodes, marks⟩ := nodePut_amends_blocks (s := s.beginRequest) live sorted hu
    refine ⟨u.withPortOf s, ?_, congrArg (fun u => u.withPortOf s) blocks, nodes, ?_⟩
    · rw [taken, serve_moved tag b nodePut s ready made (by rw [blocks]) (by rw [blocks]; rfl)]
      rfl
    · split
      · rename_i same
        rwa [if_pos same] at marks
      · rename_i differs
        rw [if_neg differs] at marks
        exact marks.of_screen rfl rfl

/-- NODE_RETIRE by the range of its id, the slot it names and the claims on it (R2). -/
theorem execNodeRetire_meets (s : State) (tag i1 i0 : Byte) (ready : s.loading = false) :
    let id := rd16 i1 i0
    let i := Instr.nodeRetire tag [i1, i0]
    (1023 < id → exec i s = .next (s.answering s tag .badField [])) ∧
    (id ≤ 1023 → s.node id = none → exec i s = .next (s.answering s tag .notFound [])) ∧
    (∀ x, id ≤ 1023 → s.node id = some x → 0 < x.refs →
      exec i s = .next (s.answering s tag .inUse (u16 x.refs ++ u8 x.degree))) ∧
    (∀ x, id ≤ 1023 → s.node id = some x → x.refs = 0 →
      ∃ t, exec i s = .next (s.answering t tag .done []) ∧
        t = { s with graph := { s.graph with nodes := t.graph.nodes } } ∧
        ∀ n, t.node n = if n = id then none else s.node n) := by
  intro id i
  have taken : exec i s = .next (serve tag (some id) true nodeRetire s) := rfl
  have same : ∀ r, nodeRetire id s.beginRequest = (s.beginRequest, r) →
      exec i s = .next (s.answering s tag r.result r.body) := fun r refused => by
    rw [taken, serve_same tag id true nodeRetire s r (by simp [ready]) refused]
  refine ⟨fun out => same _ (nodeRetire_refused out _), fun within free => same (.refuse .notFound) ?_,
    fun x within live claimed => same { result := .inUse, body := u16 x.refs ++ u8 x.degree } ?_,
    fun x within live unclaimed => ?_⟩
  · rw [nodeRetire_of_range within, show s.beginRequest.node id = none from free]
  · rw [nodeRetire_of_range within, show s.beginRequest.node id = some x from live]
    exact if_pos claimed
  · have made : nodeRetire id s.beginRequest =
        (s.beginRequest.withNodes (Table.del s.graph.nodes id), .done []) := by
      rw [nodeRetire_of_range within, show s.beginRequest.node id = some x from live]
      exact if_neg (Nat.not_lt.mpr (Nat.le_of_eq unclaimed))
    refine ⟨s.withNodes (Table.del s.graph.nodes id), ?_, rfl, fun n => Table.get_del _ _ _⟩
    rw [taken, serve_moved tag id nodeRetire s ready made rfl rfl]
    rfl

/-- Settles O1: both requests by their checks; what is put changes one slot, and marks if a held node's deck or zone
changed (`mark_marks`). -/
theorem nodesArePutAndRetired : Obligations.NodesArePutAndRetired :=
  ⟨execNodePut_meets, execNodeRetire_meets⟩

end Sys2Proof.Machine
end

section
/-! What a raise does to the maps and the rebuild queue, said once: the maps that it reaches go out of date one after
another, and then a build starts (R17, R26, R27, R29). -/

namespace Sys2Proof.Machine

/-! ### Maps by name -/

theorem slot_injective {m n : MapName} (h : m.slot = n.slot) : m = n := by
  rw [← mapOfSlot_slot m, h, mapOfSlot_slot]

theorem mapAt_modMap (s : State) (m n : MapName) (f : RouteMap → RouteMap) :
    (s.modMap m f).mapAt n = (s.mapAt n).map fun r => if n = m then f r else r := by
  rw [State.mapAt, State.modMap, Table.get_modify]
  by_cases e : n = m
  · simp [e, State.mapAt]
  · have apart : n.slot ≠ m.slot := fun same => e (slot_injective same)
    simp [e, apart, State.mapAt]

theorem mem_liveMaps {s : State} (sorted : Table.wf s.route.maps = true) (m : MapName) :
    m ∈ s.liveMaps ↔ (s.mapAt m).isSome := by
  rw [State.liveMaps, List.mem_map, Option.isSome_iff_exists]
  constructor
  · rintro ⟨r, hr, rfl⟩
    refine ⟨r.2, ?_⟩
    rw [State.mapAt, slot_mapOfSlot]
    exact (Table.get_iff_mem _ sorted _ _).mpr hr
  · rintro ⟨r, hr⟩
    exact ⟨(m.slot, r), (Table.get_iff_mem _ sorted _ _).mp hr, mapOfSlot_slot m⟩

theorem mapBefore_of_lt {j k : Nat} (h : j < k) : mapBefore (mapOfSlot j) (mapOfSlot k) := by
  rw [mapBefore, mapOfSlot, mapOfSlot]
  dsimp only
  by_cases same : j / 2 = k / 2
  · have even : j % 2 = 0 := by omega
    have odd : ¬k % 2 = 0 := by omega
    exact .inr ⟨same, by rw [if_pos even], by rw [if_neg odd]⟩
  · exact .inl (by omega)

/-- The live maps stand in ascending target id, GENERAL before STEP_FREE. -/
theorem liveMaps_pairwise {s : State} (sorted : Table.wf s.route.maps = true) : s.liveMaps.Pairwise mapBefore := by
  rw [State.liveMaps, ← Function.comp_def mapOfSlot, ← List.map_map, List.pairwise_map]
  exact ((Table.wf_iff _).mp sorted).imp fun lt => mapBefore_of_lt lt

theorem ne_of_mapBefore {m n : MapName} (h : mapBefore m n) : m ≠ n := by
  rintro rfl
  rcases h with lt | ⟨_, general, stepFree⟩
  · exact Nat.lt_irrefl _ lt
  · rw [general] at stepFree
    cases stepFree

/-! ### The class in which a map joins (R26) -/

theorem classOf_eq (s : State) (m : MapName) : s.classOf m = if s.joinsUrgent m then .urgent else .ordinary := by
  have proper : s.musterNow.proper = (decide (s.muster.state = .drill) || decide (s.muster.state = .alarm)) := by
    rw [State.musterNow]
    cases s.muster.state <;> rfl
  rw [State.classOf, proper]
  rfl

theorem joinsUrgent_of_blocks {s t : State} (target : t.target = s.target) (muster : t.muster = s.muster) :
    t.joinsUrgent = s.joinsUrgent := by
  funext m
  rw [State.joinsUrgent, stationAt_of_target target, muster]
  rfl

/-- Joining at the tail: of URGENT for the maps that hurry, and of ORDINARY for the others. -/
theorem joinTail_route (s : State) (m : MapName) :
    (s.joinTail m).route = { s.route with
      urgent := s.route.urgent ++ [m].filter s.joinsUrgent
      ordinary := s.route.ordinary ++ [m].filter fun m => !s.joinsUrgent m } := by
  rw [State.joinTail, classOf_eq]
  cases e : s.joinsUrgent m <;> simp [e]

theorem joinHead_route (s : State) (m : MapName) :
    (s.joinHead m).route = { s.route with
      urgent := [m].filter s.joinsUrgent ++ s.route.urgent
      ordinary := ([m].filter fun m => !s.joinsUrgent m) ++ s.route.ordinary } := by
  rw [State.joinHead, classOf_eq]
  cases e : s.joinsUrgent m <;> simp [e]

/-! ### Maps that go out of date one after another (R29) -/

/-- A map's record once it is out of date. -/
def RouteMap.outdated (r : RouteMap) : RouteMap :=
  match r.state with
  | .current => { r with state := .stale }
  | .building => r.waiting
  | .stale => r
  | .empty => r

/-- Whether a map is CURRENT. -/
def State.isCurrent (s : State) (m : MapName) : Bool := (s.mapAt m).any fun r => decide (r.state = .current)

/-- The map of the build record, if it is one of a list. -/
def State.buildIn (s : State) (ms : List MapName) : List MapName :=
  match s.route.build with
  | some b => if b.map ∈ ms then [b.map] else []
  | none => []

/-- From `u` to `v` some maps have gone out of date: the build of one has been abandoned to the head of its class,
and the CURRENT ones have fallen to the tail of theirs, in order. -/
structure Outdated (u v : State) (ms : List MapName) : Prop where
  build : v.route.build = u.route.build.filter fun b => decide (b.map ∉ ms)
  urgent : v.route.urgent =
    (u.buildIn ms).filter u.joinsUrgent ++ u.route.urgent ++ (ms.filter u.isCurrent).filter u.joinsUrgent
  ordinary : v.route.ordinary =
    ((u.buildIn ms).filter fun m => !u.joinsUrgent m) ++ u.route.ordinary ++
      (ms.filter u.isCurrent).filter fun m => !u.joinsUrgent m
  maps : ∀ m, v.mapAt m = (u.mapAt m).map fun r => if m ∈ ms then r.outdated else r
  hurry : v.joinsUrgent = u.joinsUrgent

/-- Exactly the map of the build record is BUILDING (R27). -/
def State.buildsOne (s : State) : Prop :=
  (∀ m r, s.mapAt m = some r → (r.state = .building ↔ ∃ g, s.route.build = some { map := m, gen := g })) ∧
  ∀ b, s.route.build = some b → (s.mapAt b.map).isSome

theorem outdated_nil (u : State) : Outdated u u [] := by
  have none : u.buildIn [] = [] := by
    rw [State.buildIn]
    split <;> rfl
  refine ⟨?_, by simp [none], by simp [none], fun m => ?_, rfl⟩
  · cases u.route.build <;> simp [Option.filter]
  · cases u.mapAt m <;> simp

theorem buildIn_append (u : State) (ms : List MapName) (m : MapName)
    (other : ∀ b, u.route.build = some b → b.map ≠ m) : u.buildIn (ms ++ [m]) = u.buildIn ms := by
  rw [State.buildIn, State.buildIn]
  split
  · rename_i b e
    simp [other b e]
  · rfl

theorem filter_build_append (u : State) (ms : List MapName) (m : MapName)
    (other : ∀ b, u.route.build = some b → b.map ≠ m) :
    (u.route.build.filter fun b => decide (b.map ∉ ms ++ [m])) = u.route.build.filter fun b => decide (b.map ∉ ms) := by
  cases e : u.route.build with
  | none => rfl
  | some b => simp [Option.filter, other b e]

/-- The maps once one more is out of date. -/
theorem maps_append {u v w : State} {ms : List MapName} {m : MapName} {r : RouteMap} (new : m ∉ ms)
    (held : u.mapAt m = some r) (before : ∀ n, v.mapAt n = (u.mapAt n).map fun r => if n ∈ ms then r.outdated else r)
    (after : ∀ n, w.mapAt n = (v.mapAt n).map fun q => if n = m then r.outdated else q) (n : MapName) :
    w.mapAt n = (u.mapAt n).map fun r => if n ∈ ms ++ [m] then r.outdated else r := by
  rw [after, before, Option.map_map]
  by_cases e : n = m
  · subst e
    simp [held]
  · congr 1
    funext q
    simp [e]

/-- A map whose record going out of date does not change. -/
theorem maps_append_same {u v : State} {ms : List MapName} {m : MapName}
    (same : ∀ r, u.mapAt m = some r → r.outdated = r)
    (before : ∀ n, v.mapAt n = (u.mapAt n).map fun r => if n ∈ ms then r.outdated else r) (n : MapName) :
    v.mapAt n = (u.mapAt n).map fun r => if n ∈ ms ++ [m] then r.outdated else r := by
  rw [before]
  cases e : u.mapAt n with
  | none => rfl
  | some q =>
    by_cases at_ : n = m
    · subst at_
      simp [same q e]
    · simp [at_]

/-- A map that is not BUILDING is not that of the build record. -/
theorem other_of_not_building {u : State} (one : u.buildsOne) {m : MapName}
    (idle : ∀ r, u.mapAt m = some r → r.state ≠ .building) (b : Build) (e : u.route.build = some b) : b.map ≠ m := by
  rintro rfl
  obtain ⟨r, live⟩ := Option.isSome_iff_exists.mp (one.2 b e)
  exact idle r live ((one.1 b.map r live).mpr ⟨b.gen, e⟩)

/-- A map that waits already keeps its place. -/
theorem outdated_waiting {u v : State} (one : u.buildsOne) {ms : List MapName} {m : MapName} (h : Outdated u v ms)
    (waits : ∀ r, u.mapAt m = some r → r.state = .stale ∨ r.state = .empty) : Outdated u v (ms ++ [m]) := by
  have other := other_of_not_building one (m := m) fun r live building => by
    rcases waits r live with e | e <;> rw [e] at building <;> cases building
  have idle : u.isCurrent m = false := by
    rw [State.isCurrent, Option.any_eq_false]
    intro r live
    rcases waits r live with e | e <;> simp [e]
  refine ⟨by rw [filter_build_append u ms m other]; exact h.build, ?_, ?_, maps_append_same (fun r live => ?_) h.maps,
    h.hurry⟩
  · rw [buildIn_append u ms m other, List.filter_append, show [m].filter u.isCurrent = [] by simp [idle],
      List.append_nil]
    exact h.urgent
  · rw [buildIn_append u ms m other, List.filter_append, show [m].filter u.isCurrent = [] by simp [idle],
      List.append_nil]
    exact h.ordinary
  · rw [RouteMap.outdated]
    rcases waits r live with e | e <;> rw [e]

/-- A CURRENT map falls to the tail of its class. -/
theorem outdated_fallen {u v : State} (one : u.buildsOne) {ms : List MapName} {m : MapName} (new : m ∉ ms)
    (h : Outdated u v ms) {r : RouteMap} (held : u.mapAt m = some r) (current : r.state = .current) :
    Outdated u ((v.modMap m fun r => { r with state := .stale }).joinTail m) (ms ++ [m]) := by
  have other := other_of_not_building one (m := m) fun q live building => by
    rw [held, Option.some.injEq] at live
    rw [← live, current] at building
    cases building
  have falls : [m].filter u.isCurrent = [m] := by simp [State.isCurrent, held, current]
  have route := joinTail_route (v.modMap m fun r => { r with state := .stale }) m
  rw [show (v.modMap m fun r => { r with state := .stale }).joinsUrgent = u.joinsUrgent from h.hurry] at route
  refine ⟨?_, ?_, ?_, maps_append new held h.maps fun n => ?_, ?_⟩
  · rw [route, filter_build_append u ms m other]
    exact h.build
  · rw [route, buildIn_append u ms m other, List.filter_append, falls, List.filter_append, ← List.append_assoc]
    exact congrArg (· ++ [m].filter u.joinsUrgent) h.urgent
  · rw [route, buildIn_append u ms m other, List.filter_append, falls, List.filter_append, ← List.append_assoc]
    exact congrArg (· ++ [m].filter fun m => !u.joinsUrgent m) h.ordinary
  · have maps : ((v.modMap m fun r => { r with state := .stale }).joinTail m).mapAt n =
        (v.modMap m fun r => { r with state := .stale }).mapAt n := by rw [State.mapAt, route]; rfl
    have now : v.mapAt m = some r := by rw [h.maps, held]; simp [new]
    rw [maps, mapAt_modMap]
    by_cases e : n = m
    · subst e
      simp [now, RouteMap.outdated, current]
    · simp [e]
  · exact (joinsUrgent_of_blocks (joinTail_keeps _ _).2.1 (joinTail_keeps _ _).2.2.2.2.2.2.1).trans h.hurry

/-- The build of a map is abandoned to the head of its class. -/
theorem outdated_abandoned {u v : State} (one : u.buildsOne) {ms : List MapName} {m : MapName} (new : m ∉ ms)
    (h : Outdated u v ms) {r : RouteMap} (held : u.mapAt m = some r) (building : r.state = .building) :
    Outdated u (v.abandon m) (ms ++ [m]) := by
  obtain ⟨g, flying⟩ := (one.1 m r held).mp building
  have idle : [m].filter u.isCurrent = [] := by simp [State.isCurrent, held, building]
  have before : u.buildIn ms = [] := by simp [State.buildIn, flying, new]
  have given : u.buildIn (ms ++ [m]) = [m] := by simp [State.buildIn, flying]
  have route : (v.abandon m).route = { v.route with
      maps := Table.modify v.route.maps m.slot RouteMap.waiting, build := none
      urgent := [m].filter u.joinsUrgent ++ v.route.urgent
      ordinary := ([m].filter fun m => !u.joinsUrgent m) ++ v.route.ordinary } := by
    rw [← h.hurry]
    exact joinHead_route (State.modMap { v with route := { v.route with build := none } } m RouteMap.waiting) m
  refine ⟨?_, ?_, ?_, maps_append new held h.maps fun n => ?_, ?_⟩
  · rw [route, flying]
    simp [Option.filter]
  · rw [route, given, List.filter_append, idle, List.append_nil, List.append_assoc]
    exact congrArg ([m].filter u.joinsUrgent ++ ·) (by rw [h.urgent, before]; rfl)
  · rw [route, given, List.filter_append, idle, List.append_nil, List.append_assoc]
    exact congrArg (([m].filter fun m => !u.joinsUrgent m) ++ ·) (by rw [h.ordinary, before]; rfl)
  · have maps : (v.abandon m).mapAt n = (v.modMap m RouteMap.waiting).mapAt n := by rw [State.mapAt, route]; rfl
    have now : v.mapAt m = some r := by rw [h.maps, held]; simp [new]
    rw [maps, mapAt_modMap]
    by_cases e : n = m
    · subst e
      simp [now, RouteMap.outdated, building]
    · simp [e]
  · exact (joinsUrgent_of_blocks (abandon_keeps _ _).2.1 (abandon_keeps _ _).2.2.2.2.2.2.1).trans h.hurry

theorem outdated_step {u v : State} (one : u.buildsOne) {ms : List MapName} {m : MapName} (new : m ∉ ms)
    (h : Outdated u v ms) : Outdated u (v.outdate m) (ms ++ [m]) := by
  have now : v.mapAt m = u.mapAt m := by
    rw [h.maps]
    cases u.mapAt m <;> simp [new]
  rw [State.outdate, now]
  cases held : u.mapAt m with
  | none => exact outdated_waiting one h fun r live => by rw [held] at live; cases live
  | some r =>
    have waiting : r.state = .stale ∨ r.state = .empty → Outdated u v (ms ++ [m]) := fun waits =>
      outdated_waiting one h fun q live => by
        rw [held, Option.some.injEq] at live
        rwa [← live]
    cases state : r.state with
    | current => simpa only [state] using outdated_fallen one new h held state
    | building => simpa only [state] using outdated_abandoned one new h held state
    | stale => simpa only [state] using waiting (.inl state)
    | empty => simpa only [state] using waiting (.inr state)

/-- Maps that go out of date, each once. -/
theorem outdated_foldl {u : State} (one : u.buildsOne) (ms : List MapName) (once : ms.Nodup) :
    Outdated u (ms.foldl State.outdate u) ms := by
  induction ms using List.reverseRecOn with
  | nil => exact outdated_nil u
  | append_singleton ms m ih =>
    rw [List.foldl_append, List.foldl_cons, List.foldl_nil]
    have apart := List.nodup_append.mp once
    exact outdated_step one (fun mem => apart.2.2 m mem m List.mem_cons_self rfl) (ih apart.1)

end Sys2Proof.Machine
end

section
/-! The build that starts once maps are out of date, and what a raise does from end to end (R17, R26, R27, R29). -/

namespace Sys2Proof.Machine

/-! ### The build that starts (R27) -/

theorem startBuild_busy {v : State} {b : Build} (busy : v.route.build = some b) : v.startBuild = v := by
  rw [State.startBuild, busy]

/-- An idle engine starts the head of URGENT, else of ORDINARY. -/
theorem startBuild_idle {v : State} (idle : v.route.build = none) :
    v.startBuild.route.build = (v.route.urgent ++ v.route.ordinary).head?.map
      (fun m => { map := m, gen := v.genOf m.profile }) ∧
    v.startBuild.route.urgent = v.route.urgent.tail ∧
    v.startBuild.route.ordinary = (if v.route.urgent = [] then v.route.ordinary.tail else v.route.ordinary) := by
  rw [State.startBuild, idle]
  cases urgent : v.route.urgent with
  | cons m us => exact ⟨rfl, rfl, rfl⟩
  | nil =>
    cases ordinary : v.route.ordinary with
    | cons m os => exact ⟨rfl, urgent, rfl⟩
    | nil => exact ⟨idle, urgent, ordinary⟩

/-- The record of a map once it is begun, whatever else of the Route Engine changes with it. -/
theorem mapAt_begun {v w : State} (same : w.route.maps = v.route.maps) (m n : MapName) :
    (w.modMap m fun r => { r with state := .building }).mapAt n =
      (v.mapAt n).map fun r => { r with state := if m = n then .building else r.state } := by
  have held : w.mapAt n = v.mapAt n := by rw [State.mapAt, same]; rfl
  rw [mapAt_modMap, held]
  congr 1
  funext r
  by_cases e : n = m
  · rw [if_pos e, if_pos e.symm]
  · rw [if_neg e, if_neg (Ne.symm e)]

/-- A build that starts makes its map BUILDING, and no other. -/
theorem mapAt_startBuild {v : State} (n : MapName)
    (building : ∀ b r, v.route.build = some b → b.map = n → v.mapAt n = some r → r.state = .building) :
    v.startBuild.mapAt n = (v.mapAt n).map fun r => { r with
      state := if v.startBuild.route.build.any fun b => decide (b.map = n) then .building else r.state } := by
  cases flying : v.route.build with
  | some b =>
    rw [startBuild_busy flying, flying]
    cases live : v.mapAt n with
    | none => rfl
    | some r =>
      by_cases e : b.map = n
      · have now := building b r flying e live
        simp [← now]
      · simp [e]
  | none =>
    rw [State.startBuild, flying]
    cases urgent : v.route.urgent with
    | cons m us =>
      refine (mapAt_begun (v := v) rfl m n).trans ?_
      simp [State.modMap]
    | nil =>
      cases ordinary : v.route.ordinary with
      | cons m os =>
        refine (mapAt_begun (v := v) rfl m n).trans ?_
        simp [State.modMap]
      | nil => simp [flying]

/-! ### The maps of a test go out of date -/

/-- The state that a map takes when it goes out of date. -/
def RouteMap.stateAfter (out : Bool) (r : RouteMap) : MapState :=
  if out && decide (r.state = .current) then .stale
  else if out && decide (r.state = .building) then (if r.contentHeld then .stale else .empty)
  else r.state

theorem stateAfter_false (r : RouteMap) : r.stateAfter false = r.state := rfl

theorem outdated_eq (r : RouteMap) : r.outdated = { r with state := r.stateAfter true } := by
  obtain ⟨state, contentHeld, builtGen, entries⟩ := r
  cases state <;> rfl

theorem mem_liveMaps_filter {u : State} (sorted : Table.wf u.route.maps = true) (test : MapName → Bool) {m : MapName}
    (live : (u.mapAt m).isSome) : m ∈ u.liveMaps.filter test ↔ test m = true := by
  rw [List.mem_filter, mem_liveMaps sorted, and_iff_right live]

/-- A map's record once the maps of a test are out of date. -/
theorem record_outdated {u : State} (sorted : Table.wf u.route.maps = true) (out : MapName → Bool) {m : MapName}
    {r : RouteMap} (live : u.mapAt m = some r) :
    (if m ∈ u.liveMaps.filter out then r.outdated else r) = { r with state := r.stateAfter (out m) } := by
  have listed := mem_liveMaps_filter sorted out (m := m) (by rw [live]; rfl)
  cases reached : out m with
  | true => rw [if_pos (listed.mpr reached), outdated_eq]
  | false =>
    have absent : m ∉ u.liveMaps.filter out := by rw [listed, reached]; exact Bool.false_ne_true
    rw [if_neg absent, stateAfter_false]

/-- The map of the build record, if the test names it. -/
theorem buildIn_liveMaps {u : State} (sorted : Table.wf u.route.maps = true) (one : u.buildsOne) (out : MapName → Bool) :
    u.buildIn (u.liveMaps.filter out) = match u.route.build with
      | some b => if out b.map then [b.map] else []
      | none => [] := by
  rw [State.buildIn]
  cases e : u.route.build with
  | none => rfl
  | some b => simp only [mem_liveMaps_filter sorted out (one.2 b e)]

/-- The CURRENT maps among those of a test. -/
theorem mem_fallen {u : State} (sorted : Table.wf u.route.maps = true) (out : MapName → Bool) (m : MapName) :
    m ∈ (u.liveMaps.filter out).filter u.isCurrent ↔ out m = true ∧ ∃ r, u.mapAt m = some r ∧ r.state = .current := by
  rw [List.mem_filter, List.mem_filter, mem_liveMaps sorted, State.isCurrent]
  cases u.mapAt m <;> simp

/-- The maps of a test go out of date, and a build starts. -/
theorem mapsOutdated_of_outdate {s u : State} (route : u.route = s.route) (sorted : Table.wf s.route.maps = true)
    (one : s.buildsOne) (out : MapName → Bool) :
    MapsOutdated s ((u.liveMaps.filter out).foldl State.outdate u).startBuild s.route.urgent s.route.ordinary out
      false := by
  have mapAt : ∀ m, u.mapAt m = s.mapAt m := fun m => by rw [State.mapAt, route]; rfl
  have one' : u.buildsOne := by simpa only [State.buildsOne, mapAt, route] using one
  have sorted' : Table.wf u.route.maps = true := by rw [route]; exact sorted
  have ascending : (u.liveMaps.filter out).Pairwise mapBefore := (liveMaps_pairwise sorted').filter _
  have h := outdated_foldl one' (u.liveMaps.filter out) (ascending.imp ne_of_mapBefore)
  generalize (u.liveMaps.filter out).foldl State.outdate u = v at h
  have hurry : v.startBuild.joinsUrgent = u.joinsUrgent :=
    (joinsUrgent_of_blocks (startBuild_keeps v).2.1 (startBuild_keeps v).2.2.2.2.2.2.1).trans h.hurry
  have gens : v.startBuild.genOf = v.genOf := by
    funext p
    unfold State.genOf
    rw [(startBuild_keeps v).1]
  have build := h.build
  have urgent := h.urgent
  have ordinary := h.ordinary
  rw [buildIn_liveMaps sorted' one' out, route, ← hurry] at urgent ordinary
  rw [route] at build
  have kept : ∀ b, v.route.build = some b → s.route.build = some b ∧ out b.map = false := fun b flying => by
    rw [build, Option.filter_eq_some_iff, decide_eq_true_eq] at flying
    obtain ⟨was, absent⟩ := flying
    rw [mem_liveMaps_filter sorted' out (one'.2 b (by rw [route]; exact was)), Bool.not_eq_true] at absent
    exact ⟨was, absent⟩
  refine ⟨⟨(u.liveMaps.filter out).filter u.isCurrent, ascending.filter _, fun m => ?_, fun b flying stays => ?_,
    fun falls => ?_⟩, fun m => ?_⟩
  · rw [mem_fallen sorted', mapAt]
  · have busy : v.route.build = some b := by
      rw [build, flying, Option.filter_some, if_pos]
      rw [decide_eq_true_eq, mem_liveMaps_filter sorted' out (one'.2 b (by rw [route]; exact flying)), stays]
      exact Bool.false_ne_true
    have same := startBuild_busy busy
    exact ⟨by rw [same]; exact busy, by rw [congrArg (·.route.urgent) same]; exact urgent, by rw [congrArg (·.route.ordinary) same]; exact ordinary⟩
  · have idle : v.route.build = none := by
      cases flying : v.route.build with
      | none => rfl
      | some b =>
        obtain ⟨was, stays⟩ := kept b flying
        rw [falls b was] at stays
        cases stays
    obtain ⟨started, urgentLeft, ordinaryLeft⟩ := startBuild_idle idle
    rw [urgent] at started urgentLeft ordinaryLeft
    rw [ordinary, ← gens] at started
    rw [ordinary] at ordinaryLeft
    exact ⟨started, urgentLeft, ordinaryLeft⟩
  · have record : v.mapAt m = (s.mapAt m).map fun r => { r with state := r.stateAfter (out m) } := by
      rw [h.maps, mapAt]
      cases live : s.mapAt m with
      | none => rfl
      | some r => exact congrArg some (record_outdated sorted' out ((mapAt m).trans live))
    rw [mapAt_startBuild m, record, Option.map_map]
    · simp only [Bool.and_false]
      rfl
    · rintro b r flying rfl live
      obtain ⟨was, stays⟩ := kept b flying
      rw [record, stays] at live
      obtain ⟨q, held, rfl⟩ := Option.map_eq_some_iff.mp live
      exact (one.1 b.map q held).mpr ⟨b.gen, was⟩

end Sys2Proof.Machine
end

section
/-! The requests on edges, by their checks and by what they change (R5 to R10, R14, R17). -/

namespace Sys2Proof.Machine

/-! ### What a raise does (R14, R17) -/

theorem RouteInv.buildsOne {s : State} (h : RouteInv s) : s.buildsOne := by
  obtain ⟨_, _, _, _, _, one, live, _⟩ := h
  exact ⟨one, fun b flying => (live b flying).1⟩

/-- A change of the graph that raises reaches the maps of the raised profiles, and a build starts. -/
theorem raiseTaken {s u : State} (h : RouteInv s) (route : u.route = s.route) (stepFree : Bool) :
    RaiseTakenBy s (u.graphRaise stepFree).startBuild stepFree := by
  have reached : (fun m : MapName => decide (m.profile = .general) || stepFree) =
      fun m => raisedProfile stepFree m.profile := by
    funext m
    cases m.profile <;> rfl
  have taken := mapsOutdated_of_outdate (u := u.raiseGens stepFree) route h.1 h.buildsOne
    fun m => raisedProfile stepFree m.profile
  rw [← reached] at taken
  rw [RaiseTakenBy, ← reached]
  exact taken

/-- The Service Port does not enter into a raise. -/
theorem RaiseTakenBy.withPortOf {s t : State} {stepFree : Bool} (h : RaiseTakenBy s t stepFree) (u : State) :
    RaiseTakenBy s (t.withPortOf u) stepFree := h

/-! ### Changes of the graph before the raise -/

/-- The two generations. -/
def State.gens (s : State) : Gen × Gen := (s.graph.genGeneral, s.graph.genStepFree)

/-- A state that differs from another in the graph alone, and not in its generations. -/
structure State.GraphOf (u s : State) : Prop where
  blocks : u = { s with graph := u.graph }
  gens : u.gens = s.gens

@[simp] theorem gens_liftRises (s : State) (c : Bool) : (s.liftRises c).gens = s.gens := by cases c <;> rfl

@[simp] theorem gens_liftFalls (s : State) (c : Bool) : (s.liftFalls c).gens = s.gens := by cases c <;> rfl

@[simp] theorem gens_moveEnds (s : State) (old new : Edge) : (s.moveEnds old new).gens = s.gens := by
  rw [State.moveEnds]
  split <;> split <;> split <;> split <;> rfl

theorem edgeTaken_graphOf (s : State) (id : Nat) (e : Edge) : (s.edgeTaken id e).GraphOf s where
  blocks := by
    refine eq_of_blocks rfl ?_ ?_ ?_ ?_ ?_ ?_ ?_ ?_ ?_ ?_ <;> simp [State.edgeTaken, State.withEdges]
  gens := gens_liftRises _ _

theorem edgeMoved_graphOf (s : State) (id : Nat) (old e : Edge) : (s.edgeMoved id old e).GraphOf s where
  blocks := by
    refine eq_of_blocks rfl ?_ ?_ ?_ ?_ ?_ ?_ ?_ ?_ ?_ ?_ <;> simp [State.edgeMoved, State.withEdges]
  gens := by
    rw [State.edgeMoved, gens_liftRises, gens_liftFalls, gens_moveEnds]
    rfl

theorem passSet_graphOf (s : State) (id : Nat) (e : Edge) (p : Passability) : (s.passSet id e p).GraphOf s where
  blocks := by
    refine eq_of_blocks rfl ?_ ?_ ?_ ?_ ?_ ?_ ?_ ?_ ?_ ?_ <;> simp [State.passSet, State.withEdges]
  gens := by
    rw [State.passSet, gens_liftFalls, gens_liftRises]
    rfl

theorem edgeGone_graphOf (s : State) (id : Nat) (e : Edge) : (s.edgeGone id e).GraphOf s where
  blocks := by
    refine eq_of_blocks rfl ?_ ?_ ?_ ?_ ?_ ?_ ?_ ?_ ?_ ?_ <;> simp [State.edgeGone, State.withEdges]
  gens := gens_liftFalls _ _

/-- A raise, and the build that starts, move the generations and the Route Engine alone. -/
theorem raise_blocks (u : State) (stepFree : Bool) :
    (u.graphRaise stepFree).startBuild = { u with
      graph := (u.graphRaise stepFree).startBuild.graph, route := (u.graphRaise stepFree).startBuild.route } := by
  refine eq_of_blocks rfl rfl ?_ ?_ ?_ ?_ ?_ ?_ ?_ ?_ ?_ <;> simp

theorem raise_graph {s u : State} (kept : u.gens = s.gens) (stepFree : Bool) :
    (u.graphRaise stepFree).startBuild.graph = { u.graph with
      genGeneral := s.graph.genGeneral + 1#16
      genStepFree := if stepFree then s.graph.genStepFree + 1#16 else s.graph.genStepFree } := by
  obtain ⟨general, stepFreeGen⟩ := Prod.mk.inj kept
  rw [(startBuild_keeps _).1, graphRaise_graph, ← general, ← stepFreeGen]
  rfl

/-- A request that changes the graph and raises: its answer ends with the generations, and nothing but the graph and
the Route Engine moves. -/
theorem serve_raised {α : Type} (tag : Byte) (b : α) (op : Owner α) {s u : State} {head : List Byte} {stepFree : Bool}
    (ready : s.loading = false) (inv : RouteInv s) (kept : u.GraphOf s.beginRequest)
    (made : op b s.beginRequest = ((u.graphRaise stepFree).startBuild,
      .done (head ++ (u.graphRaise stepFree).startBuild.gensBytes))) :
    ∃ t, serve tag (some b) true op s = s.answering t tag .done (head ++ t.gensBytes) ∧
      t = { s with graph := t.graph, route := t.route } ∧
      t.graph = { u.graph with
        genGeneral := s.graph.genGeneral + 1#16
        genStepFree := if stepFree then s.graph.genStepFree + 1#16 else s.graph.genStepFree } ∧
      RaiseTakenBy s t stepFree := by
  have graph := raise_graph kept.gens stepFree
  have taken := raiseTaken inv (show u.route = s.route by rw [kept.blocks]; rfl) stepFree
  have blocks := raise_blocks u stepFree
  generalize (u.graphRaise stepFree).startBuild = v at graph taken blocks made
  replace blocks : v = { s.beginRequest with graph := v.graph, route := v.route } :=
    blocks.trans (congrArg (fun w : State => { w with graph := v.graph, route := v.route }) kept.blocks)
  refine ⟨v.withPortOf s, ?_, congrArg (fun u => u.withPortOf s) blocks, graph, taken.withPortOf s⟩
  rw [serve_moved tag b op s ready made (by rw [blocks]) (by rw [blocks]; rfl)]
  rfl

/-! ### The edge that a body gives (R6, check 1) -/

theorem edgeKind_ofCode (k : EdgeKind) : EdgeKind.ofCode k.code = some k := by cases k <;> rfl

theorem direction_ofCode (d : Direction) : Direction.ofCode d.code = some d := by cases d <;> rfl

theorem exists_edgeKind {n : Nat} : (∃ k : EdgeKind, k.code = n) ↔ n ≤ 2 := by
  constructor
  · rintro ⟨k, rfl⟩
    cases k <;> decide
  · intro h
    interval_cases n
    exacts [⟨.walk, rfl⟩, ⟨.stair, rfl⟩, ⟨.lift, rfl⟩]

theorem exists_direction {n : Nat} : (∃ d : Direction, d.code = n) ↔ n ≤ 9 := by
  constructor
  · rintro ⟨d, rfl⟩
    cases d <;> decide
  · intro h
    interval_cases n
    exacts [⟨.fore, rfl⟩, ⟨.foreStbd, rfl⟩, ⟨.starboard, rfl⟩, ⟨.aftStbd, rfl⟩, ⟨.aft, rfl⟩, ⟨.aftPort, rfl⟩,
      ⟨.port, rfl⟩, ⟨.forePort, rfl⟩, ⟨.up, rfl⟩, ⟨.down, rfl⟩]

theorem edgeKind_of_ofCode {n : Nat} {k : EdgeKind} (h : EdgeKind.ofCode n = some k) : k.code = n := by
  unfold EdgeKind.ofCode at h
  split at h <;> cases h <;> rfl

theorem direction_of_ofCode {n : Nat} {d : Direction} (h : Direction.ofCode n = some d) : d.code = n := by
  unfold Direction.ofCode at h
  split at h <;> cases h <;> rfl

/-- A body in range gives its edge. -/
theorem edge_of_gives {b : EdgeBody} {e : Edge} (fits : b.InRange) (gives : b.Gives e) : b.edge = some e := by
  obtain ⟨idFits, aFits, bFits, lengthLow, lengthHigh, _, _, _, flagsFit⟩ := fits
  obtain ⟨endA, endB, length, kind, leaveA, leaveB, pass, crewOnly⟩ := gives
  have closed : e.pass = if b.flags.testBit 0 then .closed else .opened := by
    split
    · rename_i bit
      exact pass.mpr bit
    · rename_i bit
      cases p : e.pass with
      | opened => rfl
      | closed => exact absurd (pass.mp p) bit
  rw [EdgeBody.edge, ← kind, ← leaveA, ← leaveB, edgeKind_ofCode, direction_ofCode, direction_ofCode]
  dsimp only
  rw [if_pos (by simp only [Config.edgeSlots, Config.nodeSlots, Config.maxLength]; omega), ← endA, ← endB, ← length,
    ← closed, ← crewOnly]

theorem exists_gives {b : EdgeBody} (fits : b.InRange) : ∃ e, b.Gives e := by
  obtain ⟨_, _, _, _, _, kindFits, leaveAFits, leaveBFits, _⟩ := fits
  obtain ⟨kind, hk⟩ := exists_edgeKind.mpr kindFits
  obtain ⟨leaveA, ha⟩ := exists_direction.mpr leaveAFits
  obtain ⟨leaveB, hb⟩ := exists_direction.mpr leaveBFits
  refine ⟨{ endA := b.endA, endB := b.endB, length := b.length, kind, leaveA, leaveB,
            pass := if b.flags.testBit 0 then .closed else .opened, crewOnly := b.flags.testBit 1 },
    rfl, rfl, rfl, hk, ha, hb, ?_, rfl⟩
  cases b.flags.testBit 0 <;> simp

theorem edge_of_not_inRange {b : EdgeBody} (out : ¬b.InRange) : b.edge = none := by
  unfold EdgeBody.edge
  split
  · rename_i kind leaveA leaveB hk ha hb
    refine if_neg fun fits => out ?_
    obtain ⟨idFits, aFits, bFits, lengthLow, lengthHigh, flagsFit⟩ := fits
    exact ⟨Nat.le_of_lt_succ idFits, Nat.le_of_lt_succ aFits, Nat.le_of_lt_succ bFits, lengthLow, lengthHigh,
      exists_edgeKind.mp ⟨kind, edgeKind_of_ofCode hk⟩, exists_direction.mp ⟨leaveA, direction_of_ofCode ha⟩,
      exists_direction.mp ⟨leaveB, direction_of_ofCode hb⟩, Nat.le_of_lt_succ flagsFit⟩
  · rfl

/-! ### EDGE_PUT (R6, R7, R8) -/

/-- The first three checks of EDGE_PUT (R6). -/
def EdgeBody.Fits (b : EdgeBody) (s : State) : Prop :=
  b.InRange ∧ b.endA ≠ b.endB ∧ (s.node b.endA).isSome ∧ (s.node b.endB).isSome

/-- The state of an EDGE_PUT that passes its checks, before the raise. -/
def State.edgePlaced (s : State) (id : Nat) (e : Edge) : State :=
  match s.edge id with
  | none => s.edgeTaken id e
  | some old => s.edgeMoved id old e

/-- Whether an EDGE_PUT raises STEP_FREE: unless the edge is a STAIR, and was one if it was live (R14). -/
def State.putRaises (s : State) (id : Nat) (e : Edge) : Bool :=
  !(decide (e.kind = .stair) && (s.edge id).all fun o => decide (o.kind = .stair))

theorem edgePut_refused {b : EdgeBody} {s : State} (out : ¬b.Fits s) : edgePut b s = (s, .refuse .badField) := by
  by_cases fits : b.InRange
  · obtain ⟨e, gives⟩ := exists_gives fits
    rw [edgePut, edge_of_gives fits gives]
    dsimp only
    rw [gives.1, gives.2.1]
    split
    · rfl
    · rename_i two
      refine if_pos ?_
      by_contra live
      rw [not_or, Option.isNone_iff_eq_none, Option.isNone_iff_eq_none, ← ne_eq, ← ne_eq,
        ← Option.isSome_iff_ne_none, ← Option.isSome_iff_ne_none] at live
      exact out ⟨fits, two, live⟩
  · rw [edgePut, edge_of_not_inRange fits]

/-- An EDGE_PUT that passes the first three checks takes the degree test, and then changes the edge. -/
theorem edgePut_of_fits {b : EdgeBody} {s : State} {e : Edge} (fits : b.Fits s) (gives : b.Gives e) :
    edgePut b s =
      if 8 ≤ s.endsOfOthers b.id b.endA then (s, degreeReply false b.endA)
      else if 8 ≤ s.endsOfOthers b.id b.endB then (s, degreeReply true b.endB)
      else
        let v := ((s.edgePlaced b.id e).graphRaise (s.putRaises b.id e)).startBuild
        (v, .done ([if (s.edge b.id).isSome then 1#8 else 0#8] ++ v.gensBytes)) := by
  obtain ⟨range, two, liveA, liveB⟩ := fits
  have live : ¬((s.node b.endA).isNone ∨ (s.node b.endB).isNone) := by
    rw [Option.isSome_iff_ne_none] at liveA liveB
    rw [not_or, Option.isNone_iff_eq_none, Option.isNone_iff_eq_none]
    exact ⟨liveA, liveB⟩
  rw [edgePut, edge_of_gives range gives]
  dsimp only
  rw [gives.1, gives.2.1, if_neg two, if_neg live, State.edgePlaced, State.putRaises]
  cases s.edge b.id with
  | none =>
    simp only [createEdge_eq, Option.all_none, Bool.and_true, ← decide_not]
    rfl
  | some old =>
    simp only [amendEdge_eq, Option.all_some, Bool.and_comm]
    rfl

theorem edgePlaced_graphOf (s : State) (id : Nat) (e : Edge) : (s.edgePlaced id e).GraphOf s := by
  rw [State.edgePlaced]
  split
  · exact edgeTaken_graphOf s id e
  · exact edgeMoved_graphOf s id _ e

theorem edge_edgePlaced (s : State) (id : Nat) (e : Edge) (k : Nat) :
    (s.edgePlaced id e).edge k = if k = id then some e else s.edge k := by
  have edges : (s.edgePlaced id e).graph.edges = Table.put s.graph.edges id e := by
    rw [State.edgePlaced]
    split
    · exact edgeTaken_edges s id e
    · exact edgeMoved_edges s id _ e
  rw [State.edge, edges, Table.get_put]
  rfl

/-- The degrees and reference counts follow the ends that the edge loses and wins (R5). -/
theorem node_edgePlaced {s : State} {e : Edge} (ends : ∀ k o, s.edge k = some o → o.endA ≠ o.endB)
    (two : e.endA ≠ e.endB) (id n : Nat) :
    (s.edgePlaced id e).node n = (s.node n).map (Node.moved
      (if ((s.edge id).any fun o => o.hasEnd n) && !e.hasEnd n then 1 else 0)
      (if e.hasEnd n && !(s.edge id).any fun o => o.hasEnd n then 1 else 0)) := by
  rw [State.edgePlaced]
  cases was : s.edge id with
  | none =>
    refine (node_edgeTaken two s id n).trans ?_
    simp [Edge.endsOn]
  | some old => exact node_edgeMoved (ends id old was) two s id n

theorem openLifts_edgePlaced (s : State) (id : Nat) (e : Edge) :
    (s.edgePlaced id e).graph.openLifts = s.graph.openLifts - (if (s.edge id).any Edge.openLift then 1 else 0) +
      if e.openLift then 1 else 0 := by
  rw [State.edgePlaced]
  cases s.edge id with
  | none => exact openLifts_edgeTaken s id e
  | some old => exact openLifts_edgeMoved s id old e

/-- EDGE_PUT's checks in their order. -/
theorem execEdgePut_refuses (s : State) (tag : Byte) (body : List Byte) (b : EdgeBody) (ready : s.loading = false)
    (parsed : parseEdge body = some b) :
    let i := Instr.edgePut tag body
    (¬b.Fits s → exec i s = .next (s.answering s tag .badField [])) ∧
    (b.Fits s → 8 ≤ s.endsOfOthers b.id b.endA →
      exec i s = .next (s.answering s tag .degree ([0#8] ++ u16 b.endA))) ∧
    (b.Fits s → s.endsOfOthers b.id b.endA < 8 → 8 ≤ s.endsOfOthers b.id b.endB →
      exec i s = .next (s.answering s tag .degree ([1#8] ++ u16 b.endB))) := by
  intro i
  have same : ∀ r, edgePut b s.beginRequest = (s.beginRequest, r) →
      exec i s = .next (s.answering s tag r.result r.body) := fun r refused => by
    show Host.Outcome.next (serve tag (parseEdge body) true edgePut s) = _
    rw [parsed, serve_same tag b true edgePut s r (by simp [ready]) refused]
  refine ⟨fun out => same (.refuse .badField) (edgePut_refused out), fun fits full => ?_, fun fits room full => ?_⟩
  · obtain ⟨e, gives⟩ := exists_gives fits.1
    refine same (degreeReply false b.endA) ?_
    rw [edgePut_of_fits (s := s.beginRequest) fits gives]
    exact if_pos full
  · obtain ⟨e, gives⟩ := exists_gives fits.1
    refine same (degreeReply true b.endB) ?_
    rw [edgePut_of_fits (s := s.beginRequest) fits gives]
    exact (if_neg (Nat.not_le.mpr room)).trans (if_pos full)

/-- What an EDGE_PUT that passes its checks answers, changes and raises. -/
theorem execEdgePut_accepts (s : State) (tag : Byte) (body : List Byte) (b : EdgeBody) (e : Edge)
    (ready : s.loading = false) (parsed : parseEdge body = some b) (fits : b.Fits s) (gives : b.Gives e)
    (roomA : s.endsOfOthers b.id b.endA < 8) (roomB : s.endsOfOthers b.id b.endB < 8)
    (ends : ∀ k o, s.edge k = some o → o.endA ≠ o.endB) (route : RouteInv s) :
    let old := s.edge b.id
    let was (n : Nat) : Bool := old.any fun o => o.hasEnd n
    ∃ t, exec (.edgePut tag body) s = .next (s.answering t tag .done
        ([if old.isSome then 1#8 else 0#8] ++ t.gensBytes)) ∧
      t = { s with graph := t.graph, route := t.route } ∧
      (∀ id, t.edge id = if id = b.id then some e else s.edge id) ∧
      (∀ n, t.node n = (s.node n).map (Node.moved
        (if was n && !e.hasEnd n then 1 else 0) (if e.hasEnd n && !was n then 1 else 0))) ∧
      t.graph.openLifts = s.graph.openLifts - (if old.any Edge.openLift then 1 else 0) +
        (if e.openLift then 1 else 0) ∧
      t.graph.genGeneral = s.graph.genGeneral + 1#16 ∧
      t.graph.genStepFree = (if s.putRaises b.id e then s.graph.genStepFree + 1#16 else s.graph.genStepFree) ∧
      RaiseTakenBy s t (s.putRaises b.id e) := by
  intro old was
  have made := edgePut_of_fits (s := s.beginRequest) fits gives
  rw [if_neg (show ¬8 ≤ s.beginRequest.endsOfOthers b.id b.endA from Nat.not_le.mpr roomA),
    if_neg (show ¬8 ≤ s.beginRequest.endsOfOthers b.id b.endB from Nat.not_le.mpr roomB)] at made
  have two : e.endA ≠ e.endB := by rw [gives.1, gives.2.1]; exact fits.2.1
  obtain ⟨t, served, blocks, graph, raised⟩ :=
    serve_raised tag b edgePut ready route (edgePlaced_graphOf s.beginRequest b.id e) made
  refine ⟨t, ?_, blocks, fun k => ?_, fun n => ?_, ?_, by rw [graph], by rw [graph]; rfl, raised⟩
  · show Host.Outcome.next (serve tag (parseEdge body) true edgePut s) = _
    rw [parsed, served]
    rfl
  · rw [State.edge, graph]
    exact edge_edgePlaced s.beginRequest b.id e k
  · rw [State.node, graph]
    exact node_edgePlaced (s := s.beginRequest) ends two b.id n
  · rw [graph]
    exact openLifts_edgePlaced s.beginRequest b.id e

/-- Settles O4: the checks in their order (`edgePut_of_fits`); an edge that is placed moves the ends it loses and wins,
the open-lift count and the generations, and the raise reaches the maps (`raiseTaken`). -/
theorem edgePutChecksThenMovesCountsAndGenerations : Obligations.EdgePutChecksThenMovesCountsAndGenerations := by
  refine ⟨execEdgePut_refuses, ?_⟩
  intro s tag body b e ready parsed range gives two liveA liveB roomA roomB graph route
  exact execEdgePut_accepts s tag body b e ready parsed ⟨range, two, liveA, liveB⟩ gives roomA roomB
    (fun k o live => (graph.1 k o live).1) route

end Sys2Proof.Machine
end

section
/-! EDGE_SET_PASS and EDGE_RETIRE, by their checks and by what they change (R9, R10, R14). -/

namespace Sys2Proof.Machine

/-- A STAIR raises no STEP_FREE generation (R14). -/
theorem ite_not_stair (k : EdgeKind) (g h : Gen) :
    (if decide (k ≠ .stair) then g else h) = if k = .stair then h else g := by
  cases k <;> rfl

/-! ### EDGE_SET_PASS (R9) -/

/-- The passability that a byte in range gives. -/
def passOf (v : Byte) : Passability := if v = 0#8 then .opened else .closed

theorem passability_ofCode_of_range {v : Byte} (fits : v.toNat ≤ 1) : Passability.ofCode v.toNat = some (passOf v) := by
  have cases : v = 0#8 ∨ v = 1#8 := by bv_omega
  rcases cases with rfl | rfl <;> rfl

theorem passability_ofCode_of_out {n : Nat} (out : 1 < n) : Passability.ofCode n = none := by
  match n, out with
  | n + 2, _ => rfl

theorem edgeSetPass_refused {b : Nat × Nat} (out : 3071 < b.1 ∨ 1 < b.2) (s : State) :
    edgeSetPass b s = (s, .refuse .badField) := by
  rw [edgeSetPass]
  rcases out with idOut | valueOut
  · split
    · rfl
    · exact if_pos idOut
  · rw [passability_ofCode_of_out valueOut]

theorem edgeSetPass_of_range {id : Nat} {v : Byte} (idFits : id ≤ 3071) (fits : v.toNat ≤ 1) (s : State) :
    edgeSetPass (id, v.toNat) s = match s.edge id with
      | none => (s, .refuse .notFound)
      | some e =>
        if e.pass = passOf v then (s, .done ([2#8] ++ s.gensBytes))
        else (s.setPass id e (passOf v), .done ([3#8] ++ (s.setPass id e (passOf v)).gensBytes)) := by
  rw [edgeSetPass, passability_ofCode_of_range fits]
  exact if_neg (show ¬Config.edgeSlots ≤ id from Nat.not_le.mpr (Nat.lt_succ_of_le idFits))

theorem edge_passSet {s : State} {id : Nat} {e : Edge} (live : s.edge id = some e) (p : Passability) (k : Nat) :
    (s.passSet id e p).edge k = if k = id then some { e with pass := p } else s.edge k := by
  rw [State.edge, (passSet_tables s id e p).1, Table.get_modify]
  by_cases at_ : k = id
  · rw [if_pos at_, if_pos at_, at_, show Table.get s.graph.edges id = some e from live]
    rfl
  · rw [if_neg at_, if_neg at_]
    rfl

/-- Only a LIFT that is not crew-only counts, and it counts while it is OPEN (R16). -/
theorem openLifts_passSet_eq (s : State) (id : Nat) {e : Edge} {p : Passability} (differs : e.pass ≠ p) :
    (s.passSet id e p).graph.openLifts =
      if e.kind = .lift ∧ e.crewOnly = false then
        (if p = .opened then s.graph.openLifts + 1 else s.graph.openLifts - 1)
      else s.graph.openLifts := by
  rw [openLifts_passSet s id differs, Edge.lifts, Edge.lifts, Edge.openLift, Edge.openLift]
  by_cases counts : e.kind = .lift ∧ e.crewOnly = false
  · rw [if_pos counts, counts.1, counts.2]
    cases was : e.pass <;> cases p
    · exact absurd was differs
    · rfl
    · rfl
    · exact absurd was differs
  · have never : (decide (e.kind = .lift) && !e.crewOnly) = false := by
      rw [Bool.and_eq_false_iff]
      simpa [Classical.or_iff_not_imp_left] using counts
    rw [if_neg counts]
    simp [Bool.and_right_comm, never]

/-- What an EDGE_SET_PASS that changes the passability answers, changes and raises. -/
theorem execEdgeSetPass_changes (s : State) (tag i1 i0 v : Byte) (e : Edge) (ready : s.loading = false)
    (route : RouteInv s) (idFits : rd16 i1 i0 ≤ 3071) (fits : v.toNat ≤ 1) (live : s.edge (rd16 i1 i0) = some e)
    (differs : e.pass ≠ passOf v) :
    ∃ t, exec (.edgeSetPass tag [i1, i0, v]) s = .next (s.answering t tag .done ([3#8] ++ t.gensBytes)) ∧
      t = { s with
            graph := { s.graph with
              edges := t.graph.edges, openLifts := t.graph.openLifts,
              genGeneral := s.graph.genGeneral + 1#16,
              genStepFree := if e.kind = .stair then s.graph.genStepFree else s.graph.genStepFree + 1#16 },
            route := t.route } ∧
      (∀ k, t.edge k = if k = rd16 i1 i0 then some { e with pass := passOf v } else s.edge k) ∧
      t.graph.openLifts = (if e.kind = .lift ∧ e.crewOnly = false then
        (if passOf v = .opened then s.graph.openLifts + 1 else s.graph.openLifts - 1)
        else s.graph.openLifts) ∧
      RaiseTakenBy s t (decide (e.kind ≠ .stair)) := by
  have made : edgeSetPass (rd16 i1 i0, v.toNat) s.beginRequest =
      (s.beginRequest.setPass (rd16 i1 i0) e (passOf v),
        .done ([3#8] ++ (s.beginRequest.setPass (rd16 i1 i0) e (passOf v)).gensBytes)) := by
    rw [edgeSetPass_of_range idFits fits, show s.beginRequest.edge (rd16 i1 i0) = some e from live]
    exact if_neg differs
  obtain ⟨t, served, blocks, graph, raised⟩ :=
    serve_raised tag _ edgeSetPass ready route (passSet_graphOf s.beginRequest _ e (passOf v)) made
  have nodes := (passSet_tables s.beginRequest (rd16 i1 i0) e (passOf v)).2
  refine ⟨t, congrArg Host.Outcome.next served, ?_, fun k => ?_, ?_, raised⟩
  · refine blocks.trans (congrArg (fun g : GraphStore => { s with graph := g, route := t.route }) ?_)
    rw [graph]
    dsimp only
    rw [nodes, ite_not_stair]
    rfl
  · rw [State.edge, graph]
    exact edge_passSet (s := s.beginRequest) live (passOf v) k
  · rw [graph]
    exact openLifts_passSet_eq s.beginRequest _ differs

/-- EDGE_SET_PASS's checks, and a passability that stays. -/
theorem execEdgeSetPass_checks (s : State) (tag i1 i0 v : Byte) (ready : s.loading = false) :
    let id := rd16 i1 i0
    let i := Instr.edgeSetPass tag [i1, i0, v]
    (3071 < id ∨ 1 < v.toNat → exec i s = .next (s.answering s tag .badField [])) ∧
    (id ≤ 3071 → v.toNat ≤ 1 → s.edge id = none → exec i s = .next (s.answering s tag .notFound [])) ∧
    ∀ e, id ≤ 3071 → v.toNat ≤ 1 → s.edge id = some e → e.pass = passOf v →
      exec i s = .next (s.answering s tag .done ([2#8] ++ s.gensBytes)) := by
  intro id i
  have same : ∀ r, edgeSetPass (id, v.toNat) s.beginRequest = (s.beginRequest, r) →
      exec i s = .next (s.answering s tag r.result r.body) := fun r refused =>
    congrArg Host.Outcome.next (serve_same tag _ true edgeSetPass s r (by simp [ready]) refused)
  refine ⟨fun out => same (.refuse .badField) (edgeSetPass_refused out _),
    fun idFits fits free => same (.refuse .notFound) ?_,
    fun e idFits fits live unchanged => same (.done ([2#8] ++ s.gensBytes)) ?_⟩
  · rw [edgeSetPass_of_range idFits fits, show s.beginRequest.edge id = none from free]
  · rw [edgeSetPass_of_range idFits fits, show s.beginRequest.edge id = some e from live]
    exact if_pos unchanged

/-! ### EDGE_RETIRE (R10) -/

theorem edgeRetire_refused {id : Nat} (out : 3071 < id) (s : State) : edgeRetire id s = (s, .refuse .badField) := by
  rw [edgeRetire, if_pos (show Config.edgeSlots ≤ id from out)]

theorem edgeRetire_of_range {id : Nat} (fits : id ≤ 3071) (s : State) :
    edgeRetire id s = match s.edge id with
      | none => (s, .refuse .notFound)
      | some e => (s.removeEdge id e, .done ([] ++ (s.removeEdge id e).gensBytes)) := by
  rw [edgeRetire, if_neg (show ¬Config.edgeSlots ≤ id from Nat.not_le.mpr (Nat.lt_succ_of_le fits))]
  rfl

theorem moved_endsOn (e : Edge) (n : Nat) :
    Node.moved (e.endsOn n) 0 =
      fun x => if e.hasEnd n then { x with degree := x.degree - 1, refs := x.refs - 1 } else x := by
  funext x
  rw [Node.moved, Edge.endsOn]
  cases e.hasEnd n <;> rfl

/-- EDGE_RETIRE by its checks, and by what it frees and raises. -/
theorem execEdgeRetire_meets (s : State) (tag i1 i0 : Byte) (ready : s.loading = false)
    (ends : ∀ k o, s.edge k = some o → o.endA ≠ o.endB) (route : RouteInv s) :
    let id := rd16 i1 i0
    let i := Instr.edgeRetire tag [i1, i0]
    (3071 < id → exec i s = .next (s.answering s tag .badField [])) ∧
    (id ≤ 3071 → s.edge id = none → exec i s = .next (s.answering s tag .notFound [])) ∧
    ∀ e, id ≤ 3071 → s.edge id = some e →
      ∃ t, exec i s = .next (s.answering t tag .done t.gensBytes) ∧
        t = { s with graph := t.graph, route := t.route } ∧
        (∀ k, t.edge k = if k = id then none else s.edge k) ∧
        (∀ n, t.node n = (s.node n).map fun x =>
          if e.hasEnd n then { x with degree := x.degree - 1, refs := x.refs - 1 } else x) ∧
        t.graph.openLifts = (if e.openLift then s.graph.openLifts - 1 else s.graph.openLifts) ∧
        t.graph.genGeneral = s.graph.genGeneral + 1#16 ∧
        t.graph.genStepFree = (if e.kind = .stair then s.graph.genStepFree else s.graph.genStepFree + 1#16) ∧
        RaiseTakenBy s t (decide (e.kind ≠ .stair)) := by
  intro id i
  have same : ∀ r, edgeRetire id s.beginRequest = (s.beginRequest, r) →
      exec i s = .next (s.answering s tag r.result r.body) := fun r refused =>
    congrArg Host.Outcome.next (serve_same tag id true edgeRetire s r (by simp [ready]) refused)
  refine ⟨fun out => same (.refuse .badField) (edgeRetire_refused out _), fun fits free => same (.refuse .notFound) ?_,
    fun e fits live => ?_⟩
  · rw [edgeRetire_of_range fits, show s.beginRequest.edge id = none from free]
  · have made := edgeRetire_of_range fits s.beginRequest
    rw [show s.beginRequest.edge id = some e from live] at made
    obtain ⟨t, served, blocks, graph, raised⟩ :=
      serve_raised tag id edgeRetire ready route (edgeGone_graphOf s.beginRequest id e) made
    refine ⟨t, congrArg Host.Outcome.next served, blocks, fun k => ?_, fun n => ?_, ?_, by rw [graph], ?_, raised⟩
    · rw [State.edge, graph]
      show Table.get (s.beginRequest.edgeGone id e).graph.edges k = _
      rw [edgeGone_edges, Table.get_del]
      rfl
    · rw [State.node, graph]
      refine (node_edgeGone (ends id e live) s.beginRequest id n).trans ?_
      rw [moved_endsOn]
      rfl
    · rw [graph]
      refine (openLifts_edgeGone s.beginRequest id e).trans ?_
      rw [Edge.lifts]
      split <;> rfl
    · rw [graph]
      exact ite_not_stair e.kind _ _

/-- Settles O5: each request by its checks; what it changes of the graph (`edge_passSet`, `node_edgeGone`), and the
raise that reaches the maps (`raiseTaken`). -/
theorem edgesAreOpenedClosedAndRetired : Obligations.EdgesAreOpenedClosedAndRetired := by
  refine ⟨fun s tag i1 i0 v ready route => ?_, fun s tag i1 i0 ready graph route =>
    execEdgeRetire_meets s tag i1 i0 ready (fun k o live => (graph.1 k o live).1) route⟩
  obtain ⟨out, free, unchanged⟩ := execEdgeSetPass_checks s tag i1 i0 v ready
  refine ⟨out, free, fun e idFits fits live => ?_⟩
  by_cases same : e.pass = passOf v
  · exact (if_pos same).mpr (unchanged e idFits fits live same)
  · exact (if_neg same).mpr (execEdgeSetPass_changes s tag i1 i0 v e ready route idFits fits live same)

end Sys2Proof.Machine
end

section
/-! Where each map stands: its record, its places in the rebuild queue and its build. The invariants of R20, R25, R27
and R35 say of each map that these agree, and each operation of the Route Engine moves one map. -/

namespace Sys2Proof.Machine

/-! ### Where a map stands -/

/-- The generation recorded for the build of a map, if it is being built. -/
def State.buildOf (s : State) (m : MapName) : Option Gen :=
  s.route.build.bind fun b => if b.map = m then some b.gen else none

theorem buildOf_eq_some {s : State} {m : MapName} {g : Gen} :
    s.buildOf m = some g ↔ s.route.build = some { map := m, gen := g } := by
  rw [State.buildOf, Option.bind_eq_some_iff]
  constructor
  · rintro ⟨⟨n, h⟩, flying, e⟩
    split at e
    · rename_i same
      cases same
      cases e
      exact flying
    · cases e
  · exact fun flying => ⟨_, flying, if_pos rfl⟩

theorem buildOf_of_build {s t : State} (h : t.route.build = s.route.build) (m : MapName) : t.buildOf m = s.buildOf m := by
  rw [State.buildOf, h]
  rfl

theorem buildOf_of_idle {s : State} (idle : s.route.build = none) (m : MapName) : s.buildOf m = none := by
  rw [State.buildOf, idle]
  rfl

/-- Two maps are not built at once. -/
theorem buildOf_other {s : State} {m n : MapName} {g : Gen} (flying : s.buildOf m = some g) (other : n ≠ m) :
    s.buildOf n = none := by
  rw [State.buildOf, buildOf_eq_some.mp flying]
  exact if_neg fun e => other e.symm

/-- A map's record, how often it stands in the rebuild queue, and the generation of its build. -/
structure Standing where
  record : Option RouteMap
  queued : Nat
  build : Option Gen

def State.standing (s : State) (m : MapName) : Standing :=
  { record := s.mapAt m, queued := s.rebuildQueue.count m, build := s.buildOf m }

@[simp] theorem standing_record (s : State) (m : MapName) : (s.standing m).record = s.mapAt m := rfl
@[simp] theorem standing_queued (s : State) (m : MapName) : (s.standing m).queued = s.rebuildQueue.count m := rfl
@[simp] theorem standing_build (s : State) (m : MapName) : (s.standing m).build = s.buildOf m := rfl

theorem standing_of_route {s t : State} (h : t.route = s.route) : t.standing = s.standing := by
  funext m
  simp only [State.standing, State.mapAt, State.rebuildQueue, State.buildOf, h]

/-- A map stands right by its state: it waits in the queue once, it is in the build record, or it is CURRENT with what
a build would give now; `full` asks for its entries too, and `off` exempts it from the present generation. -/
def Standing.Right (full off : Prop) (gen : Gen) (entries : Table MapEntry) (x : Standing) : Prop :=
  match x.record with
  | none => x.queued = 0 ∧ x.build = none
  | some r =>
    match r.state with
    | .stale => x.queued = 1 ∧ x.build = none
    | .empty => x.queued = 1 ∧ x.build = none
    | .building => x.queued = 0 ∧ ∃ g, x.build = some g ∧ (off ∨ g = gen)
    | .current => x.queued = 0 ∧ x.build = none ∧ (off ∨ (r.builtGen = some gen ∧ (full → r.entries = entries)))

/-- Every map stands right, but that those of a test may be out of date. -/
structure Charted (full : Prop) (off : MapName → Prop) (s : State) : Prop where
  sorted : Table.wf s.route.maps = true
  right : ∀ m, (s.standing m).Right full (off m) (s.genOf m.profile) (s.buildResult m)

theorem Standing.Right.mono {full off off' : Prop} {gen gen' : Gen} {entries entries' : Table MapEntry} {x : Standing}
    (h : x.Right full off gen entries) (wider : off → off')
    (same : off' ∨ (gen' = gen ∧ (full → entries' = entries))) : x.Right full off' gen' entries' := by
  obtain ⟨record, queued, build⟩ := x
  cases record with
  | none => exact h
  | some r =>
    obtain ⟨state, contentHeld, builtGen, held⟩ := r
    cases state with
    | stale => exact h
    | empty => exact h
    | building =>
      obtain ⟨out, g, flying, dated⟩ := h
      refine ⟨out, g, flying, ?_⟩
      rcases same with o | ⟨rfl, _⟩
      · exact .inl o
      · exact dated.imp wider id
    | current =>
      obtain ⟨out, idle, dated⟩ := h
      refine ⟨out, idle, ?_⟩
      rcases same with o | ⟨rfl, results⟩
      · exact .inl o
      · exact dated.imp wider fun ⟨built, contents⟩ => ⟨built, fun f => (contents f).trans (results f).symm⟩

/-- A map that is not live stands right, however the test is. -/
theorem Standing.Right.of_dead {full off off' : Prop} {gen : Gen} {entries : Table MapEntry} {x : Standing}
    (h : x.Right full off gen entries) (dead : x.record = none) : x.Right full off' gen entries := by
  obtain ⟨record, queued, build⟩ := x
  cases dead
  exact h

/-- A map that waits stands right by its one place in the queue. -/
theorem Standing.right_of_waiting {full off : Prop} {gen : Gen} {entries : Table MapEntry} {x : Standing} {r : RouteMap}
    (record : x.record = some r) (waits : r.state = .stale ∨ r.state = .empty) :
    x.Right full off gen entries ↔ x.queued = 1 ∧ x.build = none := by
  obtain ⟨_, queued, build⟩ := x
  cases record
  rcases waits with e | e <;> simp only [Standing.Right, e]

theorem Standing.right_of_building {full off : Prop} {gen : Gen} {entries : Table MapEntry} {x : Standing} {r : RouteMap}
    (record : x.record = some r) (building : r.state = .building) :
    x.Right full off gen entries ↔ x.queued = 0 ∧ ∃ g, x.build = some g ∧ (off ∨ g = gen) := by
  obtain ⟨_, queued, build⟩ := x
  cases record
  simp only [Standing.Right, building]

theorem Standing.right_of_current {full off : Prop} {gen : Gen} {entries : Table MapEntry} {x : Standing} {r : RouteMap}
    (record : x.record = some r) (current : r.state = .current) :
    x.Right full off gen entries ↔
      x.queued = 0 ∧ x.build = none ∧ (off ∨ (r.builtGen = some gen ∧ (full → r.entries = entries))) := by
  obtain ⟨_, queued, build⟩ := x
  cases record
  simp only [Standing.Right, current]

/-! ### The invariants, map by map -/

/-- The maps of the live targets are live (R20). -/
def State.mapsLive (s : State) : Prop := ∀ m, (s.mapAt m).isSome = (s.targetAt m.target).isSome

/-- The engine is idle only with an empty queue (R27). -/
def State.engineBusy (s : State) : Prop := s.route.build = none → s.rebuildQueue = []

/-- What a step keeps: the agreement of the maps, and their contents if `full`. -/
def State.MapsAgree (full : Prop) (s : State) : Prop := RouteInv s ∧ (full → ContentInv s)

theorem RouteInv.standing_right {full : Prop} {s : State} (h : RouteInv s) (contents : full → ContentInv s)
    (m : MapName) : (s.standing m).Right full False (s.genOf m.profile) (s.buildResult m) := by
  obtain ⟨_, _, once, waiting, _, building, flying, built⟩ := h
  have absent : ∀ r, s.mapAt m = some r → r.state ≠ .stale → r.state ≠ .empty → s.rebuildQueue.count m = 0 :=
    fun r live stale empty => List.count_eq_zero.mpr fun mem => by
      obtain ⟨q, live', waits⟩ := (waiting m).mp mem
      cases live.symm.trans live'
      exact waits.elim stale empty
  have grounded : (∀ r, s.mapAt m = some r → r.state ≠ .building) → s.buildOf m = none := fun not =>
    Option.eq_none_iff_forall_ne_some.mpr fun g e => by
      have e := buildOf_eq_some.mp e
      obtain ⟨r, live⟩ := Option.isSome_iff_exists.mp (flying _ e).1
      exact not r live ((building m r live).mpr ⟨g, e⟩)
  cases live : s.mapAt m with
  | none =>
    have out : m ∉ s.rebuildQueue := fun mem => by
      obtain ⟨r, live', _⟩ := (waiting m).mp mem
      cases live.symm.trans live'
    have idle := grounded fun r e => by cases live.symm.trans e
    simp only [Standing.Right, State.standing, live]
    exact ⟨List.count_eq_zero.mpr out, idle⟩
  | some r =>
    have here : (s.standing m).record = some r := live
    have still : r.state ≠ .building → s.buildOf m = none := fun not => grounded fun q e => by
      cases live.symm.trans e
      exact not
    have queued : r.state = .stale ∨ r.state = .empty → s.rebuildQueue.count m = 1 := fun waits =>
      List.count_eq_one_of_mem once ((waiting m).mpr ⟨r, live, waits⟩)
    cases state : r.state with
    | stale =>
      exact (Standing.right_of_waiting here (.inl state)).mpr ⟨queued (.inl state), still (by simp [state])⟩
    | empty =>
      exact (Standing.right_of_waiting here (.inr state)).mpr ⟨queued (.inr state), still (by simp [state])⟩
    | building =>
      obtain ⟨g, e⟩ := (building m r live).mp state
      exact (Standing.right_of_building here state).mpr
        ⟨absent r live (by simp [state]) (by simp [state]), g, buildOf_eq_some.mpr e, .inr (flying _ e).2⟩
    | current =>
      exact (Standing.right_of_current here state).mpr
        ⟨absent r live (by simp [state]) (by simp [state]), still (by simp [state]),
          .inr ⟨built m r live state, fun f => contents f m r live state⟩⟩

/-- The invariants hold exactly if every map stands right, the maps of the live targets are live, and the engine is
busy while maps wait. -/
theorem mapsAgree_iff {full : Prop} {s : State} :
    s.MapsAgree full ↔ Charted full (fun _ => False) s ∧ s.mapsLive ∧ s.engineBusy := by
  constructor
  · rintro ⟨route, contents⟩
    obtain ⟨sorted, live, _, _, idle, _⟩ := id route
    exact ⟨⟨sorted, route.standing_right contents⟩, live, idle⟩
  rintro ⟨h, live, idle⟩
  have record : ∀ m r, s.mapAt m = some r → (s.standing m).record = some r := fun _ _ e => e
  have current : ∀ m r, s.mapAt m = some r → r.state = .current →
      r.builtGen = some (s.genOf m.profile) ∧ (full → r.entries = s.buildResult m) := fun m r e state =>
    ((Standing.right_of_current (record m r e) state).mp (h.right m)).2.2.resolve_left id
  have counted : ∀ m, s.rebuildQueue.count m =
      if ∃ r, s.mapAt m = some r ∧ (r.state = .stale ∨ r.state = .empty) then 1 else 0 := fun m => by
    have right := h.right m
    cases e : s.mapAt m with
    | none =>
      simp only [Standing.Right, State.standing, e] at right
      simp [right.1]
    | some r =>
      cases state : r.state with
      | stale => simpa [state] using ((Standing.right_of_waiting (record m r e) (.inl state)).mp right).1
      | empty => simpa [state] using ((Standing.right_of_waiting (record m r e) (.inr state)).mp right).1
      | building => simpa [state] using ((Standing.right_of_building (record m r e) state).mp right).1
      | current => simpa [state] using ((Standing.right_of_current (record m r e) state).mp right).1
  have building : ∀ m r, s.mapAt m = some r → (r.state = .building ↔ ∃ g, s.route.build = some { map := m, gen := g }) :=
    fun m r e => by
      simp only [← buildOf_eq_some]
      have right := h.right m
      cases state : r.state with
      | stale =>
        have idle : s.buildOf m = none := ((Standing.right_of_waiting (record m r e) (.inl state)).mp right).2
        simp [idle]
      | empty =>
        have idle : s.buildOf m = none := ((Standing.right_of_waiting (record m r e) (.inr state)).mp right).2
        simp [idle]
      | building =>
        obtain ⟨_, g, flying, _⟩ := (Standing.right_of_building (record m r e) state).mp right
        exact iff_of_true rfl ⟨g, flying⟩
      | current =>
        have idle : s.buildOf m = none := ((Standing.right_of_current (record m r e) state).mp right).2.1
        simp [idle]
  refine ⟨⟨h.sorted, live, List.nodup_iff_count_le_one.mpr fun m => ?_, fun m => ?_, idle, building, fun b e => ?_,
    fun m r e state => (current m r e state).1⟩, fun f m r e state => (current m r e state).2 f⟩
  · rw [counted]
    split <;> omega
  · rw [← List.count_pos_iff, counted]
    split
    · exact iff_of_true Nat.one_pos ‹_›
    · exact iff_of_false (Nat.lt_irrefl 0) ‹_›
  · have flying : s.buildOf b.map = some b.gen := buildOf_eq_some.mpr e
    have right := h.right b.map
    cases live : s.mapAt b.map with
    | none =>
      simp only [Standing.Right, State.standing, live, flying] at right
      cases right.2
    | some r =>
      obtain ⟨_, g, same, dated⟩ := (Standing.right_of_building (record _ r live) ((building _ r live).mpr ⟨_, e⟩)).mp right
      cases flying.symm.trans same
      exact ⟨rfl, dated.resolve_left id⟩

/-- What is read of the maps is a matter of the Route Engine, the generations and what a build would give. -/
theorem Charted.of_route {full : Prop} {off off' : MapName → Prop} {s t : State} (h : Charted full off s)
    (route : t.route = s.route) (wider : ∀ m, off m → off' m)
    (same : ∀ m, off' m ∨ (t.genOf m.profile = s.genOf m.profile ∧ (full → t.buildResult m = s.buildResult m))) :
    Charted full off' t where
  sorted := by rw [route]; exact h.sorted
  right m := by
    rw [standing_of_route route]
    exact (h.right m).mono (wider m) (same m)

/-- The test is of no matter for maps that are not live. -/
theorem Charted.of_dead {full : Prop} {off : MapName → Prop} {s : State} (h : Charted full off s)
    (dead : ∀ m, off m → s.mapAt m = none) : Charted full (fun _ => False) s where
  sorted := h.sorted
  right m := by
    by_cases out : off m
    · exact (h.right m).of_dead (dead m out)
    · exact (h.right m).mono (fun o => absurd o out) (.inr ⟨rfl, fun _ => rfl⟩)

/-! ### One map moves -/

/-- From `u` to `v` one map comes to stand as given, and no other moves. -/
structure OneMoves (u v : State) (m : MapName) (x : Standing) : Prop where
  sorted : Table.wf u.route.maps = true → Table.wf v.route.maps = true
  here : v.standing m = x
  elsewhere : ∀ n, n ≠ m → v.standing n = u.standing n
  gens : v.genOf = u.genOf
  results : v.buildResult = u.buildResult

/-- If one map moves to where it stands right, all stand right. -/
theorem Charted.oneMoves {full : Prop} {off off' : MapName → Prop} {u v : State} {m : MapName} {x : Standing}
    (h : Charted full off u) (c : OneMoves u v m x) (right : x.Right full (off' m) (u.genOf m.profile) (u.buildResult m))
    (wider : ∀ n, n ≠ m → off n → off' n) : Charted full off' v where
  sorted := c.sorted h.sorted
  right n := by
    rw [c.gens, c.results]
    by_cases e : n = m
    · rw [e, c.here]
      exact right
    · rw [c.elsewhere n e]
      exact (h.right n).mono (wider n e) (.inr ⟨rfl, fun _ => rfl⟩)

/-- What a build would give does not depend on the Route Engine. -/
theorem buildResult_of_blocks {s t : State} (graph : t.graph = s.graph) (target : t.target = s.target)
    (muster : t.muster = s.muster) : t.buildResult = s.buildResult := by
  funext m
  simp only [State.buildResult, State.anchorOf, State.targetAt, State.usableEdges, State.musterNow, graph, target, muster]

theorem genOf_of_graph {s t : State} (graph : t.graph = s.graph) : t.genOf = s.genOf := by
  funext p
  rw [State.genOf.eq_def, State.genOf.eq_def, graph]

/-- A map that joins does so in one of the two classes. -/
theorem count_joining (p : MapName → Bool) (m n : MapName) :
    ([m].filter p).count n + ([m].filter fun x => !p x).count n = if n = m then 1 else 0 := by
  by_cases e : n = m
  · subst e
    cases h : p n <;> simp [h]
  · cases h : p m <;> simp [h, e, Ne.symm e]

theorem count_joinTail (s : State) (m n : MapName) :
    (s.joinTail m).rebuildQueue.count n = s.rebuildQueue.count n + if n = m then 1 else 0 := by
  rw [State.rebuildQueue, joinTail_route, State.rebuildQueue, ← count_joining s.joinsUrgent m n]
  simp only [List.count_append]
  omega

theorem count_joinHead (s : State) (m n : MapName) :
    (s.joinHead m).rebuildQueue.count n = s.rebuildQueue.count n + if n = m then 1 else 0 := by
  rw [State.rebuildQueue, joinHead_route, State.rebuildQueue, ← count_joining s.joinsUrgent m n]
  simp only [List.count_append]
  omega

end Sys2Proof.Machine
end

section
/-! What each operation of the Route Engine does to the maps, one map at a time: outdating, creation and retirement,
the start and the end of a build (R20, R25 to R36, R45). -/

namespace Sys2Proof.Machine

/-! ### Moves of one map -/

/-- A state that differs in the Route Engine alone has the same generations and results. -/
structure State.RouteOf (v u : State) : Prop where
  graph : v.graph = u.graph
  target : v.target = u.target
  muster : v.muster = u.muster

theorem State.RouteOf.trans {u v w : State} (h : v.RouteOf u) (g : w.RouteOf v) : w.RouteOf u :=
  ⟨g.graph.trans h.graph, g.target.trans h.target, g.muster.trans h.muster⟩

theorem oneMoves_of_parts {u v : State} {m : MapName} {x : Standing} (blocks : v.RouteOf u)
    (sorted : Table.wf u.route.maps = true → Table.wf v.route.maps = true)
    (record : ∀ n, v.mapAt n = if n = m then x.record else u.mapAt n)
    (queued : ∀ n, v.rebuildQueue.count n = if n = m then x.queued else u.rebuildQueue.count n)
    (build : ∀ n, v.buildOf n = if n = m then x.build else u.buildOf n) : OneMoves u v m x where
  sorted := sorted
  here := by simp [State.standing, record, queued, build]
  elsewhere n other := by simp [State.standing, record, queued, build, other]
  gens := genOf_of_graph blocks.graph
  results := buildResult_of_blocks blocks.graph blocks.target blocks.muster

theorem OneMoves.same (u : State) (m : MapName) : OneMoves u u m (u.standing m) :=
  ⟨id, rfl, fun _ _ => rfl, rfl, rfl⟩

theorem OneMoves.mapAt {u v : State} {m : MapName} {x : Standing} (c : OneMoves u v m x) (n : MapName) :
    v.mapAt n = if n = m then x.record else u.mapAt n := by
  split
  · rename_i e
    rw [e]
    exact congrArg Standing.record c.here
  · exact congrArg Standing.record (c.elsewhere n ‹_›)

theorem OneMoves.live {u v : State} {m : MapName} {x : Standing} (c : OneMoves u v m x)
    (same : x.record.isSome = (u.mapAt m).isSome) (n : MapName) : (v.mapAt n).isSome = (u.mapAt n).isSome := by
  rw [c.mapAt]
  split
  · rename_i e
    rw [e]
    exact same
  · rfl

theorem mapAt_of_route {s t : State} (h : t.route = s.route) (m : MapName) : t.mapAt m = s.mapAt m := by
  rw [State.mapAt, h]
  rfl

/-- The record of one map changes, and nothing else. -/
theorem oneMoves_modMap (u : State) (m : MapName) (f : RouteMap → RouteMap) :
    OneMoves u (u.modMap m f) m
      { record := (u.mapAt m).map f, queued := u.rebuildQueue.count m, build := u.buildOf m } := by
  refine oneMoves_of_parts ⟨rfl, rfl, rfl⟩ (fun h => (Table.wf_modify _ _ _).trans h) (fun n => ?_) (fun n => ?_)
    fun n => ?_
  · rw [mapAt_modMap]
    split
    · rename_i e
      rw [e]
    · exact Option.map_id'
  · split
    · rename_i e
      rw [e]
      rfl
    · rfl
  · split
    · rename_i e
      rw [e]
      rfl
    · rfl

/-! ### Maps that go out of date (R29, R32) -/

theorem joinTail_maps (u : State) (m : MapName) :
    (u.joinTail m).route.maps = u.route.maps ∧ (u.joinTail m).route.build = u.route.build := by
  rw [joinTail_route]
  exact ⟨rfl, rfl⟩

theorem joinHead_maps (u : State) (m : MapName) :
    (u.joinHead m).route.maps = u.route.maps ∧ (u.joinHead m).route.build = u.route.build := by
  rw [joinHead_route]
  exact ⟨rfl, rfl⟩

theorem joinTail_routeOf (u : State) (m : MapName) : (u.joinTail m).RouteOf u := by
  refine ⟨?_, ?_, ?_⟩ <;> simp

theorem joinHead_routeOf (u : State) (m : MapName) : (u.joinHead m).RouteOf u := by
  refine ⟨?_, ?_, ?_⟩ <;> simp

theorem mapAt_of_maps {s t : State} (h : t.route.maps = s.route.maps) (m : MapName) : t.mapAt m = s.mapAt m := by
  rw [State.mapAt, h]
  rfl

/-- A map whose record is changed joins the tail of its class. -/
theorem oneMoves_modMap_joinTail (u : State) (m : MapName) (f : RouteMap → RouteMap) :
    OneMoves u ((u.modMap m f).joinTail m) m
      { record := (u.mapAt m).map f, queued := u.rebuildQueue.count m + 1, build := u.buildOf m } := by
  obtain ⟨maps, build⟩ := joinTail_maps (u.modMap m f) m
  refine oneMoves_of_parts (State.RouteOf.trans (v := u.modMap m f) ⟨rfl, rfl, rfl⟩ (joinTail_routeOf _ m))
    (fun h => by rw [maps]; exact (Table.wf_modify _ _ _).trans h) (fun n => ?_) (fun n => ?_) fun n => ?_
  · rw [mapAt_of_maps maps]
    exact (oneMoves_modMap u m f).mapAt n
  · rw [count_joinTail]
    split
    · rename_i e
      rw [e]
      rfl
    · rfl
  · rw [buildOf_of_build build]
    split
    · rename_i e
      rw [e]
      rfl
    · rfl

/-- A build that is abandoned: its map waits at the head of its class. -/
theorem oneMoves_abandon {u : State} {m : MapName} {g : Gen} (flying : u.buildOf m = some g) :
    OneMoves u (u.abandon m) m
      { record := (u.mapAt m).map RouteMap.waiting, queued := u.rebuildQueue.count m + 1, build := none } := by
  let w : State := State.modMap { u with route := { u.route with build := none } } m RouteMap.waiting
  obtain ⟨maps, build⟩ := joinHead_maps w m
  refine oneMoves_of_parts (State.RouteOf.trans (v := w) ⟨rfl, rfl, rfl⟩ (joinHead_routeOf w m))
    (fun h => ?_) (fun n => ?_) (fun n => ?_) fun n => ?_
  · exact (congrArg Table.wf maps).trans ((Table.wf_modify _ _ _).trans h)
  · exact (mapAt_of_maps maps n).trans ((oneMoves_modMap u m RouteMap.waiting).mapAt n)
  · refine (count_joinHead w m n).trans ?_
    split
    · rename_i e
      rw [e]
      rfl
    · rfl
  · have idle : (u.abandon m).buildOf n = none := buildOf_of_idle build n
    rw [idle]
    split
    · rfl
    · exact (buildOf_other flying ‹_›).symm

/-- A map that stands right and goes out of date waits in the queue once, or is not live. -/
theorem outdate_moves {full : Prop} {off : MapName → Prop} {u : State} (h : Charted full off u) (m : MapName) :
    ∃ x, OneMoves u (u.outdate m) m x ∧ x.record.isSome = (u.mapAt m).isSome ∧
      ∀ full' off' gen entries, x.Right full' off' gen entries := by
  have right := h.right m
  rw [State.outdate]
  cases live : u.mapAt m with
  | none =>
    refine ⟨u.standing m, OneMoves.same u m, congrArg Option.isSome live, fun _ _ _ _ => ?_⟩
    simp only [Standing.Right, standing_record, live] at right ⊢
    exact right
  | some r =>
    have here : (u.standing m).record = some r := live
    have waiting : r.state = .stale ∨ r.state = .empty → ∃ x, OneMoves u u m x ∧ x.record.isSome = true ∧
        ∀ full' off' gen entries, x.Right full' off' gen entries := fun waits =>
      ⟨u.standing m, OneMoves.same u m, congrArg Option.isSome here, fun _ _ _ _ =>
        (Standing.right_of_waiting here waits).mpr ((Standing.right_of_waiting here waits).mp right)⟩
    dsimp only
    cases state : r.state with
    | stale => exact waiting (.inl state)
    | empty => exact waiting (.inr state)
    | current =>
      obtain ⟨out, idle, _⟩ := (Standing.right_of_current here state).mp right
      have moves := oneMoves_modMap_joinTail u m fun r => { r with state := .stale }
      rw [live, Option.map_some] at moves
      exact ⟨_, moves, rfl, fun _ _ _ _ => (Standing.right_of_waiting (r := { r with state := .stale }) rfl
        (.inl rfl)).mpr ⟨congrArg (· + 1) out, idle⟩⟩
    | building =>
      obtain ⟨out, g, flying, _⟩ := (Standing.right_of_building here state).mp right
      have moves := oneMoves_abandon flying
      rw [live, Option.map_some] at moves
      have waits : r.waiting.state = .stale ∨ r.waiting.state = .empty := by
        rw [RouteMap.waiting]
        cases r.contentHeld
        · exact .inr rfl
        · exact .inl rfl
      exact ⟨_, moves, rfl, fun _ _ _ _ => (Standing.right_of_waiting (r := r.waiting) rfl waits).mpr
        ⟨congrArg (· + 1) out, rfl⟩⟩

theorem Charted.outdate {full : Prop} {off : MapName → Prop} {u : State} (h : Charted full off u) (m : MapName) :
    Charted full (fun n => off n ∧ n ≠ m) (u.outdate m) := by
  obtain ⟨x, moves, _, right⟩ := outdate_moves h m
  exact h.oneMoves moves (right _ _ _ _) fun n other o => ⟨o, other⟩

theorem Charted.live_outdate {full : Prop} {off : MapName → Prop} {u : State} (h : Charted full off u) (m n : MapName) :
    ((u.outdate m).mapAt n).isSome = (u.mapAt n).isSome := by
  obtain ⟨x, moves, same, _⟩ := outdate_moves h m
  exact moves.live same n

/-- Maps that go out of date one after another are exempt no longer. -/
theorem Charted.outdate_foldl {full : Prop} (ms : List MapName) {off : MapName → Prop} {u : State}
    (h : Charted full off u) :
    Charted full (fun n => off n ∧ n ∉ ms) (ms.foldl State.outdate u) ∧
    ∀ n, ((ms.foldl State.outdate u).mapAt n).isSome = (u.mapAt n).isSome := by
  induction ms generalizing off u with
  | nil =>
    exact ⟨h.of_route rfl (fun m o => ⟨o, List.not_mem_nil⟩) fun m => .inr ⟨rfl, fun _ => rfl⟩, fun n => rfl⟩
  | cons m ms ih =>
    obtain ⟨charted, live⟩ := ih (h.outdate m)
    refine ⟨?_, fun n => (live n).trans (h.live_outdate m n)⟩
    exact charted.of_route rfl (fun n ⟨⟨o, other⟩, out⟩ => ⟨o, List.not_mem_cons_of_ne_of_not_mem other out⟩)
      fun m => .inr ⟨rfl, fun _ => rfl⟩

theorem mem_mapsOf (m : MapName) (t : Nat) : m ∈ mapsOf t ↔ m.target = t := by
  obtain ⟨k, p⟩ := m
  cases p <;> simp [mapsOf, allProfiles]

/-- A map that is exempt may lose its content. -/
theorem Charted.cleared {full : Prop} {off : MapName → Prop} {u : State} (h : Charted full off u) {m : MapName}
    (exempt : off m) : Charted full off (u.modMap m fun r => { r with entries := [] }) := by
  refine h.oneMoves (oneMoves_modMap u m _) ?_ fun _ _ => id
  have right := h.right m
  cases live : u.mapAt m with
  | none =>
    simp only [Standing.Right, standing_record, live] at right
    exact right
  | some r =>
    have here : (u.standing m).record = some r := live
    obtain ⟨q, held, same⟩ : ∃ q : RouteMap, (some r).map (fun r => { r with entries := [] }) = some q ∧
        q.state = r.state := ⟨_, rfl, rfl⟩
    rw [held]
    cases state : r.state with
    | stale =>
      exact (Standing.right_of_waiting rfl (.inl (same.trans state))).mpr
        ((Standing.right_of_waiting here (.inl state)).mp right)
    | empty =>
      exact (Standing.right_of_waiting rfl (.inr (same.trans state))).mpr
        ((Standing.right_of_waiting here (.inr state)).mp right)
    | building =>
      exact (Standing.right_of_building rfl (same.trans state)).mpr
        ((Standing.right_of_building here state).mp right)
    | current =>
      obtain ⟨out, idle, _⟩ := (Standing.right_of_current here state).mp right
      exact (Standing.right_of_current rfl (same.trans state)).mpr ⟨out, idle, .inl exempt⟩

/-- An anchor that has moved: both maps of its target lose their content and wait (R32). -/
theorem Charted.anchorMoved {full : Prop} {u : State} {t : Nat} (h : Charted full (fun m => m.target = t) u) :
    Charted full (fun _ => False) (u.anchorMoved t) ∧
    ∀ n, ((u.anchorMoved t).mapAt n).isSome = (u.mapAt n).isSome := by
  have general := h.cleared (m := { target := t, profile := .general }) rfl
  have first := general.outdate { target := t, profile := .general }
  have stepFree := first.cleared (m := { target := t, profile := .stepFree }) ⟨rfl, by simp⟩
  have both := stepFree.outdate { target := t, profile := .stepFree }
  refine ⟨both.of_route rfl (fun m ⟨⟨at_, g⟩, f⟩ => ?_) fun _ => .inr ⟨rfl, fun _ => rfl⟩, fun n => ?_⟩
  · have : m ∈ mapsOf t := (mem_mapsOf m t).mpr at_
    simp only [mapsOf, allProfiles, List.map_cons, List.map_nil, List.mem_cons, List.not_mem_nil, or_false] at this
    exact this.elim g f
  · refine (stepFree.live_outdate _ n).trans ?_
    rw [mapAt_modMap, Option.isSome_map]
    refine (general.live_outdate _ n).trans ?_
    rw [mapAt_modMap, Option.isSome_map]

/-! ### Maps come and go (R20, R28, R33) -/

/-- One map of a created target. -/
def State.createMap (s : State) (m : MapName) : State :=
  ({ s with route := { s.route with maps := Table.put s.route.maps m.slot RouteMap.fresh } } : State).joinTail m

theorem oneMoves_createMap (u : State) (m : MapName) :
    OneMoves u (u.createMap m) m
      { record := some RouteMap.fresh, queued := u.rebuildQueue.count m + 1, build := u.buildOf m } := by
  let w : State := { u with route := { u.route with maps := Table.put u.route.maps m.slot RouteMap.fresh } }
  obtain ⟨maps, build⟩ := joinTail_maps w m
  refine oneMoves_of_parts (State.RouteOf.trans (v := w) ⟨rfl, rfl, rfl⟩ (joinTail_routeOf w m)) (fun h => ?_) (fun n => ?_)
    (fun n => ?_) fun n => ?_
  · exact (congrArg Table.wf maps).trans (Table.wf_put _ _ _ h)
  · refine (mapAt_of_maps maps n).trans ?_
    by_cases e : n = m
    · rw [if_pos e, e]
      exact Table.get_put_same _ _ _
    · rw [if_neg e]
      exact Table.get_put_other _ _ _ _ fun same => e (slot_injective same)
  · refine (count_joinTail w m n).trans ?_
    split
    · rename_i e
      rw [e]
      rfl
    · rfl
  · refine (buildOf_of_build build n).trans ?_
    split
    · rename_i e
      rw [e]
      rfl
    · rfl

theorem Charted.createMap {full : Prop} {off : MapName → Prop} {u : State} (h : Charted full off u) {m : MapName}
    (free : u.mapAt m = none) : Charted full off (u.createMap m) := by
  have right := h.right m
  simp only [Standing.Right, standing_record, free] at right
  obtain ⟨out, idle⟩ := right
  exact h.oneMoves (oneMoves_createMap u m) ((Standing.right_of_waiting rfl (.inr rfl)).mpr
    ⟨congrArg (· + 1) out, idle⟩) fun _ _ => id

/-- The maps of a created target join the queue; its maps are live then, and no others come or go. -/
theorem Charted.createMaps {full : Prop} {off : MapName → Prop} {u : State} (h : Charted full off u) {t : Nat}
    (free : ∀ m, m.target = t → u.mapAt m = none) :
    Charted full off (u.createMaps t) ∧
    ∀ n, ((u.createMaps t).mapAt n).isSome = if n.target = t then true else (u.mapAt n).isSome := by
  have general := oneMoves_createMap u { target := t, profile := .general }
  have stepFree := oneMoves_createMap (u.createMap { target := t, profile := .general })
    { target := t, profile := .stepFree }
  refine ⟨(h.createMap (free _ rfl)).createMap ?_, fun n => ?_⟩
  · rw [general.mapAt, if_neg (by simp)]
    exact free _ rfl
  · have both : (u.createMaps t).mapAt n = _ := stepFree.mapAt n
    rw [both, general.mapAt]
    obtain ⟨k, p⟩ := n
    by_cases e : k = t
    · cases p <;> simp [e]
    · simp [e]

theorem freeMap_build (u : State) (m : MapName) :
    (u.freeMap m).route.build = u.route.build.bind fun b => if b.map = m then none else some b := by
  unfold State.freeMap
  dsimp only [State.leaveQueue]
  cases u.route.build <;> rfl

theorem oneMoves_freeMap (u : State) (m : MapName) :
    OneMoves u (u.freeMap m) m { record := none, queued := 0, build := none } := by
  refine oneMoves_of_parts ⟨rfl, rfl, rfl⟩ (fun h => Table.wf_del _ _ h) (fun n => ?_) (fun n => ?_) fun n => ?_
  · rw [State.mapAt, State.freeMap, Table.get_del]
    by_cases e : n = m
    · rw [if_pos e, if_pos (congrArg MapName.slot e)]
    · rw [if_neg e, if_neg fun same => e (slot_injective same)]
      rfl
  · show ((u.route.urgent.filter fun x => decide (x ≠ m)) ++
      (u.route.ordinary.filter fun x => decide (x ≠ m))).count n = _
    rw [← List.filter_append]
    split
    · rename_i e
      rw [e]
      exact List.count_eq_zero.mpr fun mem => by simp at mem
    · exact List.count_filter (by simpa using ‹_›)
  · rw [State.buildOf, freeMap_build, State.buildOf]
    cases u.route.build with
    | none => simp
    | some b =>
      by_cases there : b.map = m
      · simp only [there, Option.bind_some, if_true, Option.bind_none]
        split
        · rfl
        · exact (if_neg fun e => absurd e.symm ‹_›).symm
      · rw [Option.bind_some, if_neg there, Option.bind_some]
        by_cases e : n = m
        · rw [if_pos e, if_neg fun same : b.map = n => there (same.trans e)]
        · rw [if_neg e]

theorem Charted.freeMap {full : Prop} {off : MapName → Prop} {u : State} (h : Charted full off u) (m : MapName) :
    Charted full off (u.freeMap m) := h.oneMoves (oneMoves_freeMap u m) ⟨rfl, rfl⟩ fun _ _ => id

/-- The maps of a retired target leave, and no others come or go. -/
theorem Charted.freeMaps {full : Prop} {off : MapName → Prop} {u : State} (h : Charted full off u) (t : Nat) :
    Charted full off (u.freeMaps t) ∧
    ∀ n, ((u.freeMaps t).mapAt n).isSome = if n.target = t then false else (u.mapAt n).isSome := by
  have general := oneMoves_freeMap u { target := t, profile := .general }
  have stepFree := oneMoves_freeMap (u.freeMap { target := t, profile := .general }) { target := t, profile := .stepFree }
  let v := (u.freeMap { target := t, profile := .general }).freeMap { target := t, profile := .stepFree }
  have route : (u.freeMaps t).route = v.route := by
    show (if _ then _ else _ : State).route = _
    split <;> rfl
  have graph : (u.freeMaps t).graph = v.graph := by simp [v]
  have target : (u.freeMaps t).target = v.target := by simp [v]
  have muster : (u.freeMaps t).muster = v.muster := by simp [v]
  refine ⟨((h.freeMap _).freeMap _).of_route route (fun _ => id) fun m => .inr ⟨?_, fun _ => ?_⟩, fun n => ?_⟩
  · rw [genOf_of_graph graph]
  · rw [buildResult_of_blocks graph target muster]
  · rw [mapAt_of_route route, stepFree.mapAt, general.mapAt]
    obtain ⟨k, p⟩ := n
    by_cases e : k = t
    · cases p <;> simp [e]
    · simp [e]

/-! ### The queue in another order (R30, R31) -/

/-- Another order of the queue is of no matter. -/
theorem Charted.requeued {full : Prop} {off : MapName → Prop} {u v : State} (h : Charted full off u)
    (blocks : v.RouteOf u) (maps : v.route.maps = u.route.maps) (build : v.route.build = u.route.build)
    (queue : ∀ n, v.rebuildQueue.count n = u.rebuildQueue.count n) : Charted full off v where
  sorted := by rw [maps]; exact h.sorted
  right m := by
    have same : v.standing m = u.standing m := by
      simp only [State.standing, mapAt_of_maps maps, buildOf_of_build build, queue]
    rw [same, genOf_of_graph blocks.graph, buildResult_of_blocks blocks.graph blocks.target blocks.muster]
    exact h.right m

theorem count_hurryStations (u : State) (n : MapName) : u.hurryStations.rebuildQueue.count n = u.rebuildQueue.count n := by
  have split : ∀ l : List MapName, (l.filter fun m => u.isStation m.target).count n +
      (l.filter fun m => !u.isStation m.target).count n = l.count n := fun l => by
    induction l with
    | nil => rfl
    | cons m l ih => cases e : u.isStation m.target <;> simp [e, List.count_cons] <;> omega
  have ordinary := split u.route.ordinary
  simp only [State.rebuildQueue, State.hurryStations, List.count_append]
  omega

theorem Charted.hurryStations {full : Prop} {off : MapName → Prop} {u : State} (h : Charted full off u) :
    Charted full off u.hurryStations := h.requeued ⟨rfl, rfl, rfl⟩ rfl rfl (count_hurryStations u)

/-- Each map stands in the queue at most once. -/
theorem Charted.queued_le {full : Prop} {off : MapName → Prop} {u : State} (h : Charted full off u) (m : MapName) :
    u.rebuildQueue.count m ≤ 1 := by
  have right := h.right m
  cases live : u.mapAt m with
  | none =>
    simp only [Standing.Right, standing_record, live] at right
    exact Nat.le_of_eq (right.1.trans rfl) |>.trans (Nat.zero_le 1)
  | some r =>
    have here : (u.standing m).record = some r := live
    cases state : r.state with
    | stale => exact Nat.le_of_eq ((Standing.right_of_waiting here (.inl state)).mp right).1
    | empty => exact Nat.le_of_eq ((Standing.right_of_waiting here (.inr state)).mp right).1
    | building => exact Nat.le_of_eq ((Standing.right_of_building here state).mp right).1 |>.trans (Nat.zero_le 1)
    | current => exact Nat.le_of_eq ((Standing.right_of_current here state).mp right).1 |>.trans (Nat.zero_le 1)

/-- One map of a target that has become a station moves to the tail of URGENT. -/
def State.hurryMap (s : State) (m : MapName) : State :=
  if m ∈ s.route.ordinary then
    { s with route := { s.route with
        urgent := s.route.urgent ++ [m]
        ordinary := s.route.ordinary.filter fun x => decide (x ≠ m) } }
  else s

theorem Charted.hurryMap {full : Prop} {off : MapName → Prop} {u : State} (h : Charted full off u) (m : MapName) :
    Charted full off (u.hurryMap m) := by
  rw [State.hurryMap]
  split
  · rename_i waits
    refine h.requeued ⟨rfl, rfl, rfl⟩ rfl rfl fun n => ?_
    have once := h.queued_le m
    have there := List.count_pos_iff.mpr waits
    simp only [State.rebuildQueue, List.count_append] at once ⊢
    by_cases e : n = m
    · subst e
      have gone : (u.route.ordinary.filter fun x => decide (x ≠ n)).count n = 0 :=
        List.count_eq_zero.mpr fun mem => by simp at mem
      rw [gone, List.count_singleton_self]
      omega
    · have other : [m].count n = 0 := List.count_eq_zero.mpr (by simpa using e)
      rw [List.count_filter (by simpa using e), other]
      omega
  · exact h

theorem Charted.hurryTarget {full : Prop} {off : MapName → Prop} {u : State} (h : Charted full off u) (t : Nat) :
    Charted full off (u.hurryTarget t) :=
  (h.hurryMap { target := t, profile := .general }).hurryMap { target := t, profile := .stepFree }

theorem hurryTarget_maps (u : State) (t : Nat) : (u.hurryTarget t).route.maps = u.route.maps := by
  refine foldl_keeps (·.route.maps) _ (fun s m => ?_) (mapsOf t) u
  dsimp only
  split <;> rfl

/-! ### Builds start and end (R27, R34) -/

theorem startBuild_routeOf (v : State) : v.startBuild.RouteOf v := by
  refine ⟨?_, ?_, ?_⟩ <;> simp

/-- An idle engine takes the first map of the queue. -/
theorem startBuild_takes {v : State} (idle : v.route.build = none) {m : MapName} {ms : List MapName}
    (queue : v.rebuildQueue = m :: ms) :
    v.startBuild.rebuildQueue = ms ∧ v.startBuild.route.build = some { map := m, gen := v.genOf m.profile } ∧
    v.startBuild.route.maps = Table.modify v.route.maps m.slot fun r => { r with state := .building } := by
  obtain ⟨build, urgentLeft, ordinaryLeft⟩ := startBuild_idle idle
  rw [State.rebuildQueue] at queue
  refine ⟨?_, by rw [build, queue]; rfl, ?_⟩
  · rw [State.rebuildQueue, urgentLeft, ordinaryLeft]
    cases urgent : v.route.urgent with
    | nil =>
      rw [urgent] at queue
      simp only [List.nil_append] at queue
      simp [queue]
    | cons n us =>
      rw [urgent] at queue
      cases queue
      rfl
  · rw [State.startBuild, idle]
    cases urgent : v.route.urgent with
    | nil =>
      rw [urgent] at queue
      simp only [List.nil_append] at queue
      rw [queue]
      rfl
    | cons n us =>
      rw [urgent] at queue
      cases queue
      rfl

theorem startBuild_empty {v : State} (idle : v.route.build = none) (queue : v.rebuildQueue = []) : v.startBuild = v := by
  obtain ⟨urgent, ordinary⟩ := List.append_eq_nil_iff.mp queue
  rw [State.startBuild, idle, urgent, ordinary]

/-- The build that starts takes a map that waits, and every map stands right. -/
theorem Charted.startBuild {full : Prop} {v : State} (h : Charted full (fun _ => False) v) :
    Charted full (fun _ => False) v.startBuild ∧
    (∀ n, (v.startBuild.mapAt n).isSome = (v.mapAt n).isSome) ∧ v.startBuild.engineBusy := by
  cases flying : v.route.build with
  | some b =>
    rw [startBuild_busy flying]
    exact ⟨h, fun _ => rfl, fun idle => by cases flying.symm.trans idle⟩
  | none =>
    cases queue : v.rebuildQueue with
    | nil =>
      rw [startBuild_empty flying queue]
      exact ⟨h, fun _ => rfl, fun _ => queue⟩
    | cons m ms =>
      obtain ⟨left, build, maps⟩ := startBuild_takes flying queue
      have right := h.right m
      have waits : 0 < v.rebuildQueue.count m := by simp [queue]
      have once := h.queued_le m
      have moves : OneMoves v v.startBuild m {
          record := (v.mapAt m).map (fun r => { r with state := .building })
          queued := v.rebuildQueue.count m - 1
          build := some (v.genOf m.profile) } := by
        refine oneMoves_of_parts (startBuild_routeOf v) (fun h => by rw [maps]; exact (Table.wf_modify _ _ _).trans h)
          (fun n => ?_) (fun n => ?_) fun n => ?_
        · exact (mapAt_of_maps (t := v.startBuild) (s := v.modMap m fun r => { r with state := .building }) maps n).trans
            ((oneMoves_modMap v m _).mapAt n)
        · rw [left, queue]
          split
          · rename_i e
            rw [e, List.count_cons_self, Nat.add_sub_cancel]
          · exact (List.count_cons_of_ne (Ne.symm ‹_›)).symm
        · rw [State.buildOf, build]
          split
          · rename_i e
            exact if_pos e.symm
          · rw [buildOf_of_idle flying]
            exact if_neg fun e => absurd e.symm ‹_›
      cases live : v.mapAt m with
      | none =>
        simp only [Standing.Right, standing_record, live] at right
        exact absurd right.1 (Nat.ne_of_gt waits)
      | some r =>
        refine ⟨h.oneMoves moves ?_ fun _ _ => id, moves.live (by simp), fun idle => by cases build.symm.trans idle⟩
        rw [live, Option.map_some]
        exact (Standing.right_of_building rfl rfl).mpr ⟨by dsimp only; omega, _, rfl, .inr rfl⟩

/-- Every event that moves maps ends with a build that starts. -/
theorem mapsAgree_startBuild {full : Prop} {v : State} (h : Charted full (fun _ => False) v) (live : v.mapsLive) :
    v.startBuild.MapsAgree full := by
  obtain ⟨charted, same, busy⟩ := h.startBuild
  refine mapsAgree_iff.mpr ⟨charted, fun m => ?_, busy⟩
  rw [same, live, State.targetAt, State.targetAt, (startBuild_routeOf v).target]

/-- The engine with the build record idle. -/
def State.grounded (s : State) : State := { s with route := { s.route with build := none } }

/-- The map of the build record has been built: it is CURRENT. -/
theorem oneMoves_built {u : State} {b : Build} (flying : u.route.build = some b) (f : RouteMap → RouteMap) :
    OneMoves u (u.modMap b.map f).grounded b.map
      { record := (u.mapAt b.map).map f, queued := u.rebuildQueue.count b.map, build := none } := by
  have moves := oneMoves_modMap u b.map f
  refine oneMoves_of_parts ⟨rfl, rfl, rfl⟩ moves.sorted (fun n => moves.mapAt n) (fun n => ?_) fun n => ?_
  · split
    · rename_i e
      rw [e]
      rfl
    · rfl
  · have mine : u.buildOf b.map = some b.gen := buildOf_eq_some.mpr flying
    have idle : (u.modMap b.map f).grounded.buildOf n = none := buildOf_of_idle rfl n
    rw [idle]
    split
    · rfl
    · exact (buildOf_other mine ‹_›).symm

theorem Charted.built {full : Prop} {u : State} (h : Charted full (fun _ => False) u) {b : Build}
    (flying : u.route.build = some b) :
    Charted full (fun _ => False) (u.modMap b.map fun r => r.built (u.buildResult b.map) b.gen).grounded := by
  refine h.oneMoves (oneMoves_built flying _) ?_ fun _ _ => id
  have mine : u.buildOf b.map = some b.gen := buildOf_eq_some.mpr flying
  have right := h.right b.map
  cases live : u.mapAt b.map with
  | none =>
    simp only [Standing.Right, standing_record, standing_build, live, mine] at right
    cases right.2
  | some r =>
    have here : (u.standing b.map).record = some r := live
    rw [Option.map_some]
    have building : r.state = .building := by
      cases state : r.state with
      | stale => cases mine.symm.trans ((Standing.right_of_waiting here (.inl state)).mp right).2
      | empty => cases mine.symm.trans ((Standing.right_of_waiting here (.inr state)).mp right).2
      | building => rfl
      | current => cases mine.symm.trans ((Standing.right_of_current here state).mp right).2.1
    obtain ⟨out, g, same, present⟩ := (Standing.right_of_building here building).mp right
    cases mine.symm.trans same
    exact (Standing.right_of_current rfl rfl).mpr
      ⟨out, rfl, .inr ⟨congrArg some (present.resolve_left id), fun _ => rfl⟩⟩

/-! ### Every map waits again (R45) -/

theorem foldl_joinTail (ms : List MapName) (u : State) :
    (ms.foldl State.joinTail u).route.maps = u.route.maps ∧ (ms.foldl State.joinTail u).route.build = u.route.build ∧
    (∀ n, (ms.foldl State.joinTail u).rebuildQueue.count n = u.rebuildQueue.count n + ms.count n) ∧
    (ms.foldl State.joinTail u).RouteOf u := by
  induction ms generalizing u with
  | nil => exact ⟨rfl, rfl, fun _ => rfl, rfl, rfl, rfl⟩
  | cons m ms ih =>
    obtain ⟨maps, build, queue, blocks⟩ := ih (u.joinTail m)
    obtain ⟨maps', build'⟩ := joinTail_maps u m
    refine ⟨maps.trans maps', build.trans build', fun n => ?_, (joinTail_routeOf u m).trans blocks⟩
    rw [List.foldl_cons, queue, count_joinTail, List.count_cons]
    by_cases e : n = m
    · subst e
      simp
      omega
    · simp [e, Ne.symm e]

/-- The maps before they join the queue again. -/
def State.mapsEmptied (s : State) : State :=
  { s with route := {
      maps := Table.mapAll s.route.maps RouteMap.waiting, urgent := [], ordinary := [], build := none } }

theorem restartMaps_eq (s : State) : s.restartMaps = s.mapsEmptied.liveMaps.foldl State.joinTail s.mapsEmptied := rfl

theorem mapAt_mapsEmptied (s : State) (m : MapName) : s.mapsEmptied.mapAt m = (s.mapAt m).map RouteMap.waiting :=
  Table.get_mapAll _ _ _

/-- After a restart every live map waits, once. -/
theorem charted_restartMaps {full : Prop} {s : State} (sorted : Table.wf s.route.maps = true) :
    Charted full (fun _ => False) s.restartMaps ∧ ∀ n, (s.restartMaps.mapAt n).isSome = (s.mapAt n).isSome := by
  obtain ⟨maps, build, queue, _⟩ := foldl_joinTail s.mapsEmptied.liveMaps s.mapsEmptied
  rw [← restartMaps_eq] at maps build queue
  have sorted' : Table.wf s.mapsEmptied.route.maps = true := (Table.wf_mapAll _ _).trans sorted
  have once : s.mapsEmptied.liveMaps.Nodup := (liveMaps_pairwise sorted').imp ne_of_mapBefore
  have mapAt : ∀ n, s.restartMaps.mapAt n = (s.mapAt n).map RouteMap.waiting := fun n =>
    (mapAt_of_maps maps n).trans (mapAt_mapsEmptied s n)
  refine ⟨⟨(congrArg Table.wf maps).trans sorted', fun m => ?_⟩, fun n => by rw [mapAt, Option.isSome_map]⟩
  have queued : s.restartMaps.rebuildQueue.count m = s.mapsEmptied.liveMaps.count m := (queue m).trans (Nat.zero_add _)
  have idle : s.restartMaps.buildOf m = none := buildOf_of_idle build m
  have listed := mem_liveMaps sorted' m
  rw [mapAt_mapsEmptied, Option.isSome_map] at listed
  cases live : s.mapAt m with
  | none =>
    rw [live] at listed
    simp only [Standing.Right, standing_record, mapAt, live, Option.map_none]
    exact ⟨queued.trans (List.count_eq_zero.mpr fun mem => by cases listed.mp mem), idle⟩
  | some r =>
    rw [live] at listed
    have here : (s.restartMaps.standing m).record = some r.waiting := by rw [standing_record, mapAt, live]; rfl
    have waits : r.waiting.state = .stale ∨ r.waiting.state = .empty := by
      rw [RouteMap.waiting]
      cases r.contentHeld
      · exact .inr rfl
      · exact .inl rfl
    exact (Standing.right_of_waiting here waits).mpr
      ⟨queued.trans (List.count_eq_one_of_mem once (listed.mpr rfl)), idle⟩

end Sys2Proof.Machine
end

section
/-! What the agreement of the maps reads of a state, and what a raise of the generations does to it (R14, R15, R29). -/

namespace Sys2Proof.Machine

/-! ### What the agreement reads -/

/-- Everything that the agreement of the maps, and of their contents, reads. -/
structure Chart where
  route : RouteEngine
  anchors : Table Nat
  edges : Table Edge
  openLifts : Nat
  gens : Gen × Gen
  proper : Bool

def State.chart (s : State) : Chart :=
  { route := s.route, anchors := Table.view Target.anchor s.target.targets, edges := s.graph.edges
    openLifts := s.graph.openLifts, gens := s.gens, proper := s.muster.state.proper }

/-- What is read of the targets are their anchors, which their plans show. -/
theorem chart_of_plans {s t : State} (graph : t.graph = s.graph) (route : t.route = s.route)
    (plans : Table.view Target.plan t.target.targets = Table.view Target.plan s.target.targets)
    (muster : t.muster = s.muster) : t.chart = s.chart := by
  have anchors : Table.view Target.anchor t.target.targets = Table.view Target.anchor s.target.targets := by
    have shown := congrArg (Table.view TargetPlan.anchor) plans
    rw [Table.view, Table.view, Table.view, Table.view, List.map_map, List.map_map] at shown
    exact shown
  simp only [State.chart, State.gens, graph, route, anchors, muster]

theorem anchorOf_eq (s : State) (k : Nat) :
    s.anchorOf k = Table.get (Table.view Target.anchor s.target.targets) k := (Table.get_view _ _ _).symm

theorem isSome_anchorOf (s : State) (k : Nat) : (s.anchorOf k).isSome = (s.targetAt k).isSome := Option.isSome_map

/-- Usability in the muster proper is all that it reads of the muster state (R12). -/
theorem usableIn_of_proper {m m' : MusterState} (h : m'.proper = m.proper) (e : Edge) (p : Profile) :
    e.usableIn p m' = e.usableIn p m := by rw [Edge.usableIn, Edge.usableIn, h]

theorem usableEdges_of_edges {s t : State} (edges : t.graph.edges = s.graph.edges)
    (proper : t.muster.state.proper = s.muster.state.proper) : t.usableEdges = s.usableEdges := by
  funext p
  rw [State.usableEdges, State.usableEdges, edges]
  exact List.filter_congr fun r _ => usableIn_of_proper proper r.2 p

theorem buildResult_of_parts {s t : State} {m : MapName} (anchor : t.anchorOf m.target = s.anchorOf m.target)
    (edges : t.usableEdges m.profile = s.usableEdges m.profile) : t.buildResult m = s.buildResult m := by
  rw [State.buildResult, State.buildResult, anchor, edges]

/-- What follows from equal charts. -/
structure SameChart (s t : State) : Prop where
  route : t.route = s.route
  gens : t.genOf = s.genOf
  results : t.buildResult = s.buildResult
  live : ∀ k, (t.targetAt k).isSome = (s.targetAt k).isSome
  edges : t.graph.edges = s.graph.edges
  lifts : t.graph.openLifts = s.graph.openLifts

theorem genOf_of_gens {s t : State} (h : t.gens = s.gens) : t.genOf = s.genOf := by
  obtain ⟨general, stepFree⟩ := Prod.mk.inj h
  funext p
  cases p
  · exact general
  · exact stepFree

theorem sameChart {s t : State} (h : t.chart = s.chart) : SameChart s t := by
  simp only [State.chart, Chart.mk.injEq] at h
  obtain ⟨route, anchors, edges, lifts, gens, proper⟩ := h
  have anchor : ∀ k, t.anchorOf k = s.anchorOf k := fun k => by rw [anchorOf_eq, anchorOf_eq, anchors]
  refine ⟨route, genOf_of_gens gens, funext fun m => ?_, fun k => ?_, edges, lifts⟩
  · exact buildResult_of_parts (anchor _) (congrFun (usableEdges_of_edges edges proper) _)
  · rw [← isSome_anchorOf, anchor, isSome_anchorOf]

/-- Every map stands right and the maps of the live targets are live; the engine may be idle while maps wait. -/
structure State.MapsRight (full : Prop) (s : State) : Prop where
  charted : Charted full (fun _ => False) s
  live : s.mapsLive

theorem State.MapsRight.of_chart {full : Prop} {s t : State} (h : s.MapsRight full) (same : t.chart = s.chart) :
    t.MapsRight full := by
  have same := sameChart same
  refine ⟨h.charted.of_route same.route (fun _ => id) fun m => .inr ⟨by rw [same.gens], fun _ => by rw [same.results]⟩,
    fun m => ?_⟩
  rw [mapAt_of_route same.route, h.live, same.live]

theorem State.MapsAgree.of_chart {full : Prop} {s t : State} (h : s.MapsAgree full) (same : t.chart = s.chart) :
    t.MapsAgree full := by
  obtain ⟨charted, live, busy⟩ := mapsAgree_iff.mp h
  obtain ⟨charted', live'⟩ := (State.MapsRight.mk charted live).of_chart same
  refine mapsAgree_iff.mpr ⟨charted', live', ?_⟩
  rw [State.engineBusy, State.rebuildQueue, (sameChart same).route]
  exact busy

theorem State.MapsRight.startBuild {full : Prop} {s : State} (h : s.MapsRight full) : s.startBuild.MapsAgree full :=
  mapsAgree_startBuild h.charted h.live

/-- What a step may rest on: the agreement, the canonical table of edges, and the open-lift count of R16. -/
structure State.MapsReady (full : Prop) (s : State) : Prop where
  agree : s.MapsAgree full
  sorted : Table.wf s.graph.edges = true
  lifts : full → s.graph.openLifts = Table.count s.graph.edges Edge.openLift

theorem State.MapsReady.of_chart {full : Prop} {s t : State} (h : s.MapsReady full) (same : t.chart = s.chart) :
    t.MapsReady full where
  agree := h.agree.of_chart same
  sorted := by rw [(sameChart same).edges]; exact h.sorted
  lifts f := by rw [(sameChart same).edges, (sameChart same).lifts]; exact h.lifts f

theorem State.MapsReady.charted {full : Prop} {s : State} (h : s.MapsReady full) : Charted full (fun _ => False) s :=
  (mapsAgree_iff.mp h.agree).1

theorem State.MapsReady.live {full : Prop} {s : State} (h : s.MapsReady full) : s.mapsLive :=
  (mapsAgree_iff.mp h.agree).2.1

theorem State.MapsReady.right {full : Prop} {s : State} (h : s.MapsReady full) : s.MapsRight full :=
  ⟨h.charted, h.live⟩

/-! ### Raises (R14, R29) -/

/-- Whether a raise reaches a map. -/
def raiseReaches (stepFree : Bool) (m : MapName) : Bool := decide (m.profile = .general) || stepFree

theorem genOf_raiseGens {u : State} {stepFree : Bool} {m : MapName} (spared : raiseReaches stepFree m = false) :
    (u.raiseGens stepFree).genOf m.profile = u.genOf m.profile := by
  obtain ⟨k, p⟩ := m
  cases stepFree <;> cases p <;> simp [raiseReaches] at spared
  rfl

/-- A raise puts every map that it reaches out of date, so that all maps stand right. -/
theorem Charted.graphRaise {full : Prop} {off : MapName → Prop} {u : State} (h : Charted full off u) (stepFree : Bool)
    (reached : ∀ m, off m → raiseReaches stepFree m = true) :
    Charted full (fun _ => False) (u.graphRaise stepFree) ∧
    ∀ n, ((u.graphRaise stepFree).mapAt n).isSome = (u.mapAt n).isSome := by
  have raised : Charted full (fun m => raiseReaches stepFree m = true) (u.raiseGens stepFree) := by
    refine h.of_route rfl reached fun m => ?_
    cases spared : raiseReaches stepFree m with
    | true => exact .inl rfl
    | false => exact .inr ⟨genOf_raiseGens spared, fun _ => rfl⟩
  obtain ⟨charted, live⟩ := raised.outdate_foldl
    ((u.raiseGens stepFree).liveMaps.filter (raiseReaches stepFree))
  refine ⟨charted.of_dead fun m ⟨out, unlisted⟩ => ?_, live⟩
  rw [List.mem_filter, mem_liveMaps raised.sorted, ← live m] at unlisted
  exact Option.not_isSome_iff_eq_none.mp fun there => unlisted ⟨there, out⟩

/-- A change of the graph that spares what a build would give for the maps that its raise does not reach. -/
theorem graphRaise_agree {full : Prop} {s u : State} {stepFree : Bool} (h : s.MapsReady full)
    (blocks : u.GraphOf s)
    (spared : stepFree = false → u.usableEdges .stepFree = s.usableEdges .stepFree) :
    ((u.graphRaise stepFree).startBuild).MapsAgree full := by
  have target : u.target = s.target := by rw [blocks.blocks]
  have route : u.route = s.route := by rw [blocks.blocks]
  have before : Charted full (fun m => raiseReaches stepFree m = true) u := by
    refine h.charted.of_route route (fun _ => False.elim) fun m => ?_
    obtain ⟨k, p⟩ := m
    cases p with
    | general => exact .inl rfl
    | stepFree =>
      cases stepFree with
      | true => exact .inl rfl
      | false =>
        refine .inr ⟨by rw [genOf_of_gens blocks.gens], fun _ => buildResult_of_parts ?_ (spared rfl)⟩
        rw [State.anchorOf, State.targetAt, target]
        rfl
  obtain ⟨charted, live⟩ := before.graphRaise stepFree fun _ => id
  refine mapsAgree_startBuild charted fun m => ?_
  rw [live, mapAt_of_route route, h.live, State.targetAt, State.targetAt, (graphRaise_keeps u stepFree).1, target]

/-! ### Edges that are usable in a profile before and after a change -/

theorem filter_put {α : Type} (p : α → Bool) (t : Table α) (k : Nat) (v : α) (new : p v = false)
    (old : ∀ w, Table.get t k = some w → p w = false) :
    (Table.put t k v).filter (fun r => p r.2) = t.filter fun r => p r.2 := by
  induction t with
  | nil => simp [Table.put, new]
  | cons r t ih =>
    obtain ⟨j, w⟩ := r
    rw [Table.put]
    split
    · rw [List.filter_cons_of_neg (by simp [new])]
    · split
      · rename_i same
        have gone := old w (by rw [Table.get_cons, if_pos same.symm])
        rw [List.filter_cons_of_neg (by simp [new]), List.filter_cons_of_neg (by simp [gone])]
      · rename_i other
        have rest := ih fun x hx => old x (by rw [Table.get_cons, if_neg fun e : j = k => other e.symm, hx])
        rw [List.filter_cons, List.filter_cons, rest]

theorem filter_modify {α : Type} (p : α → Bool) (t : Table α) (sorted : Table.wf t = true) (k : Nat) (f : α → α)
    (old : ∀ w, Table.get t k = some w → p w = false ∧ p (f w) = false) :
    (Table.modify t k f).filter (fun r => p r.2) = t.filter fun r => p r.2 := by
  have spared : ∀ r ∈ t, r.1 = k → p r.2 = false ∧ p (f r.2) = false := fun r mem same =>
    old r.2 (by rw [← same]; exact (Table.get_iff_mem t sorted r.1 r.2).mpr mem)
  clear old sorted
  induction t with
  | nil => rfl
  | cons r t ih =>
    have rest : (Table.modify t k f).filter (fun r => p r.2) = t.filter fun r => p r.2 :=
      ih fun q mem => spared q (List.mem_cons_of_mem _ mem)
    rw [Table.modify, List.map_cons]
    by_cases same : r.1 = k
    · obtain ⟨was, is_⟩ := spared r List.mem_cons_self same
      rw [if_pos same, List.filter_cons_of_neg (by simp [is_]), List.filter_cons_of_neg (by simp [was])]
      exact rest
    · rw [if_neg same, List.filter_cons, List.filter_cons]
      exact ite_congr rfl (fun _ => congrArg _ rest) fun _ => rest

theorem filter_del {α : Type} (p : α → Bool) (t : Table α) (sorted : Table.wf t = true) (k : Nat)
    (old : ∀ w, Table.get t k = some w → p w = false) :
    (Table.del t k).filter (fun r => p r.2) = t.filter fun r => p r.2 := by
  rw [Table.del, List.filter_filter]
  refine List.filter_congr fun r mem => ?_
  by_cases same : r.1 = k
  · have gone := old r.2 (by rw [← same]; exact (Table.get_iff_mem t sorted r.1 r.2).mpr mem)
    simp [gone]
  · simp [same]

/-- A stair is not usable in STEP_FREE (R12). -/
theorem usableIn_stair {e : Edge} (stair : e.kind = .stair) (m : MusterState) : e.usableIn .stepFree m = false := by
  simp [Edge.usableIn, stair]

/-! ### Muster transitions (R15, R30) -/

/-- Without an open lift usability does not depend on the muster state (R12, R16). -/
theorem usableEdges_of_no_lift {s t : State} (edges : t.graph.edges = s.graph.edges)
    (none : Table.count s.graph.edges Edge.openLift = 0) : t.usableEdges = s.usableEdges := by
  funext p
  rw [State.usableEdges, State.usableEdges, edges]
  refine List.filter_congr fun r mem => ?_
  rw [Table.count, List.length_eq_zero_iff, List.filter_eq_nil_iff] at none
  have closed := none r mem
  simp only [Edge.openLift, Bool.and_eq_true, decide_eq_true_eq, Bool.not_eq_true', not_and, Bool.not_eq_false] at closed
  rw [Bool.eq_iff_iff, Edge.usableIn_iff, Edge.usableIn_iff]
  constructor <;> rintro ⟨opened, crew, kind, _⟩ <;> refine ⟨opened, crew, kind, .inr (.inr fun lift => ?_)⟩ <;>
    · rw [closed ⟨lift, opened⟩] at crew
      cases crew

/-- The waiting maps of stations, hurried if they are to be. -/
def State.hurriedIf (s : State) (c : Bool) : State := if c then s.hurryStations else s

theorem hurriedIf_keeps (u : State) (c : Bool) : (u.hurriedIf c).graph = u.graph ∧ (u.hurriedIf c).target = u.target ∧
    (u.hurriedIf c).musterNow = u.musterNow ∧ (u.hurriedIf c).route.maps = u.route.maps := by
  cases c <;> exact ⟨rfl, rfl, rfl, rfl⟩

theorem Charted.hurriedIf {full : Prop} {off : MapName → Prop} {u : State} (h : Charted full off u) (c : Bool) :
    Charted full off (u.hurriedIf c) := by
  cases c
  · exact h
  · exact h.hurryStations

theorem graphTakesTransition_eq (u : State) (old : MusterState) :
    u.graphTakesTransition old =
      (let v := u.hurriedIf (u.musterNow.proper && !old.proper)
       if decide (v.musterNow.proper ≠ old.proper) && decide (0 < v.graph.openLifts) then v.graphRaise true else v) :=
  rfl

/-- The deck graph takes a transition; `u` is the state with its new muster state (R15, R30). -/
theorem graphTakesTransition_right {full : Prop} {s u : State} (h : s.MapsReady full) (graph : u.graph = s.graph)
    (route : u.route = s.route) (target : u.target = s.target) :
    (u.graphTakesTransition s.musterNow).MapsRight full := by
  obtain ⟨graph', target', muster', maps'⟩ := hurriedIf_keeps u (u.musterNow.proper && !s.musterNow.proper)
  have live : ∀ m, ((u.hurriedIf (u.musterNow.proper && !s.musterNow.proper)).mapAt m).isSome =
      (u.targetAt m.target).isSome := fun m => by
    rw [mapAt_of_maps maps', mapAt_of_route route, h.live, State.targetAt, State.targetAt, target]
  rw [graphTakesTransition_eq]
  dsimp only
  split
  · have charted : Charted full (fun _ => True) u :=
      h.charted.of_route route (fun _ _ => trivial) fun _ => .inl trivial
    obtain ⟨right, kept⟩ := (charted.hurriedIf (u.musterNow.proper && !s.musterNow.proper)).graphRaise true
      fun m _ => by simp [raiseReaches]
    refine ⟨right, fun m => ?_⟩
    rw [kept, live, State.targetAt, State.targetAt, (graphRaise_keeps _ _).1, target']
  · rename_i stays
    rw [graph', muster', Bool.and_eq_true, decide_eq_true_eq, decide_eq_true_eq] at stays
    refine ⟨(h.charted.of_route route (fun _ => id) fun m => .inr ⟨by rw [genOf_of_graph graph],
      fun f => buildResult_of_parts ?_ (congrFun ?_ _)⟩).hurriedIf _, fun m => ?_⟩
    · rw [State.anchorOf, State.targetAt, target]
      rfl
    · have edges : u.graph.edges = s.graph.edges := by rw [graph]
      by_cases proper : u.muster.state.proper = s.muster.state.proper
      · exact usableEdges_of_edges edges proper
      · refine usableEdges_of_no_lift edges ?_
        have closed : ¬0 < u.graph.openLifts := fun some => stays ⟨proper, some⟩
        rw [← h.lifts f, ← graph]
        omega
    · rw [live, State.targetAt, State.targetAt, target']

end Sys2Proof.Machine
end

section
/-! What leaves the chart alone: every operation outside the deck graph, the Route Engine, the anchors and the
transitions. -/

namespace Sys2Proof.Machine

/-! ### Updates and shared operations -/

@[simp] theorem chart_beginRequest (s : State) : s.beginRequest.chart = s.chart := rfl
@[simp] theorem chart_placeAnswer (s : State) (tag : Byte) (r : Reply) : (s.placeAnswer tag r).chart = s.chart := rfl
@[simp] theorem chart_withPending (s : State) (cs : List Instr) : (s.withPending cs).chart = s.chart := rfl
@[simp] theorem chart_tick (s : State) : s.tick.chart = s.chart := rfl
@[simp] theorem chart_drive (s : State) (out : List Byte) : (s.drive out).chart = s.chart := rfl
@[simp] theorem chart_raiseNotice (s : State) (n : Notice) : (s.raiseNotice n).chart = s.chart := rfl
@[simp] theorem chart_setCursor (s : State) (t : TableName) (k : Nat) : (s.setCursor t k).chart = s.chart := rfl
@[simp] theorem chart_setClock (s : State) (c : ClockTime) : (s.setClock c).chart = s.chart := rfl
@[simp] theorem chart_modTrunk (s : State) (i : Fin 16) (f : Trunk → Trunk) : (s.modTrunk i f).chart = s.chart := rfl
@[simp] theorem chart_modLink (s : State) (l : Fin 4) (f : Link → Link) : (s.modLink l f).chart = s.chart := rfl
@[simp] theorem chart_modNode (s : State) (n : Nat) (f : Node → Node) : (s.modNode n f).chart = s.chart := rfl
@[simp] theorem chart_modCabin (s : State) (c : Nat) (f : Cabin → Cabin) : (s.modCabin c f).chart = s.chart := rfl
@[simp] theorem chart_modEntry (s : State) (e : Nat) (f : Entry → Entry) : (s.modEntry e f).chart = s.chart := rfl
@[simp] theorem chart_modScreen (s : State) (n : Nat) (f : Screen → Screen) : (s.modScreen n f).chart = s.chart := rfl
@[simp] theorem chart_claimNode (s : State) (n : Nat) : (s.claimNode n).chart = s.chart := rfl
@[simp] theorem chart_releaseNode (s : State) (n : Nat) : (s.releaseNode n).chart = s.chart := rfl
@[simp] theorem chart_leaveService (s : State) (c : Nat) : (s.leaveService c).chart = s.chart := rfl
@[simp] theorem chart_withNodes (s : State) (t : Table Node) : (s.withNodes t).chart = s.chart := rfl
@[simp] theorem chart_withCabins (s : State) (t : Table Cabin) : (s.withCabins t).chart = s.chart := rfl
@[simp] theorem chart_withEntries (s : State) (t : Table Entry) : (s.withEntries t).chart = s.chart := rfl
@[simp] theorem chart_withScreens (s : State) (t : Table Screen) : (s.withScreens t).chart = s.chart := rfl

@[simp] theorem chart_pickAll (s : State) : s.pickAll.chart = s.chart := by simp [State.chart, State.gens]
@[simp] theorem chart_mark (s : State) (p : Causes) : (s.mark p).chart = s.chart := by simp [State.chart, State.gens]

/-- The stand-down condition is of no matter to the maps. -/
@[simp] theorem chart_judgeStandDown (s : State) : s.judgeStandDown.chart = s.chart := by
  rw [State.judgeStandDown]
  split <;> rfl

theorem chart_ite {c : Prop} [Decidable c] {a b s : State} (yes : a.chart = s.chart) (no : b.chart = s.chart) :
    (if c then a else b).chart = s.chart := by
  split
  · exact yes
  · exact no

/-! ### Claims, contributions and faces -/

@[simp] theorem chart_claimTargets (s : State) (ts : List Nat) : (s.claimTargets ts).chart = s.chart :=
  chart_of_plans (by simp) (by simp) (by simp) (by simp)

@[simp] theorem chart_releaseTargets (s : State) (ts : List Nat) : (s.releaseTargets ts).chart = s.chart :=
  chart_of_plans (by simp) (by simp) (by simp) (by simp)

@[simp] theorem chart_claimTarget (s : State) (t : Nat) : (s.claimTarget t).chart = s.chart := chart_claimTargets s [t]

@[simp] theorem chart_releaseTarget (s : State) (t : Nat) : (s.releaseTarget t).chart = s.chart :=
  chart_releaseTargets s [t]

@[simp] theorem chart_contribute (s : State) (c : Cabin) : (s.contribute c).chart = s.chart :=
  chart_of_plans (by simp) (by simp) (by simp) (by simp)

@[simp] theorem chart_withdraw (s : State) (c : Cabin) : (s.withdraw c).chart = s.chart :=
  chart_of_plans (by simp) (by simp) (by simp) (by simp)

@[simp] theorem chart_moveContribution (s : State) (old new : Cabin) : (s.moveContribution old new).chart = s.chart :=
  chart_of_plans (by simp) (by simp) (by simp) (by simp)

@[simp] theorem chart_contributeAll (s : State) (cs : List Cabin) : (s.contributeAll cs).chart = s.chart :=
  chart_of_plans (by simp) (by simp) (by simp) (by simp)

@[simp] theorem chart_withdrawAll (s : State) (cs : List Cabin) : (s.withdrawAll cs).chart = s.chart :=
  chart_of_plans (by simp) (by simp) (by simp) (by simp)

@[simp] theorem chart_judgeOver (s before : State) : (s.judgeOver before).chart = s.chart :=
  chart_of_plans (by simp) (by simp) (by simp) (by simp)

@[simp] theorem chart_reanchor (s : State) (a b : Nat) : (s.reanchor a b).chart = s.chart := chart_ite rfl rfl

@[simp] theorem chart_joinPlateQueue (s : State) (c : Nat) : (s.joinPlateQueue c).chart = s.chart := by
  simp [State.chart, State.gens]

@[simp] theorem chart_leavePlate (s : State) (c : Nat) : (s.leavePlate c).chart = s.chart := by
  simp [State.chart, State.gens]

@[simp] theorem chart_owePlate (s : State) (c : Nat) : (s.owePlate c).chart = s.chart := by
  simp [State.chart, State.gens]

@[simp] theorem chart_amendPlate (s : State) (c : Nat) (old new : Option PlateAddress) (b : Bool) :
    (s.amendPlate c old new b).chart = s.chart := by simp [State.chart, State.gens]

@[simp] theorem chart_facesChanged (s : State) (cs : List (Nat × Cabin)) : (s.facesChanged cs).chart = s.chart := by
  simp [State.chart, State.gens]

/-! ### Nodes and cabins -/

theorem chart_nodePut (b : NodeBody) (s : State) : (nodePut b s).1.chart = s.chart := by
  rw [nodePut]
  split
  · rfl
  · split
    · rfl
    · exact chart_ite rfl (chart_mark _ _)

theorem chart_nodeRetire (id : Nat) (s : State) : (nodeRetire id s).1.chart = s.chart := by
  rw [nodeRetire]
  split
  · rfl
  · split
    · rfl
    · split <;> rfl

theorem chart_createCabin (s : State) (slot : Nat) (c : Cabin) : (s.createCabin slot c).chart = s.chart := by
  simp [createCabin_eq, State.cabinTaken]

theorem chart_amendCabin (s : State) (slot : Nat) (old new : Cabin) (plate : Option PlateAddress) (face : Bool) :
    (s.amendCabin slot old new plate face).chart = s.chart := by
  have moved : (((s.moveContribution old new).moveCabinClaims old new).modCabin slot fun _ => new).chart = s.chart := by
    simp [moveCabinClaims_eq]
  have kept : (s.cabinMoved slot old new).chart = s.chart :=
    chart_ite ((chart_leaveService _ _).trans moved) moved
  rw [amendCabin_eq, chart_pickAll, chart_amendPlate, chart_judgeOver, kept]

theorem chart_removeCabin (s : State) (slot : Nat) (c : Cabin) : (s.removeCabin slot c).chart = s.chart := by
  simp [removeCabin_eq]

/-! ### Entries and the Ship Clock -/

theorem chart_createEntry (s : State) (slot : Nat) (e : Entry) (st : EntryState) :
    (s.createEntry slot e st).chart = s.chart := by simp [createEntry_eq, State.entryTaken]

theorem chart_amendEntry (s : State) (slot : Nat) (old new : Entry) : (s.amendEntry slot old new).chart = s.chart := by
  rw [State.amendEntry]
  refine chart_ite rfl ((chart_mark _ _).trans (chart_ite rfl ?_))
  rw [chart_claimTarget, chart_releaseTarget, chart_modEntry]

theorem chart_retireEntry (s : State) (slot venue : Nat) : (s.retireEntry slot venue).chart = s.chart := by
  simp [retireEntry_eq]

theorem chart_dropEntry (s : State) (slot : Nat) (e : Entry) : (s.dropEntry slot e).chart = s.chart :=
  (chart_mark _ _).trans (chart_retireEntry _ _ _)

theorem chart_cancelEntry (s : State) (slot : Nat) (e : Entry) : (s.cancelEntry slot e).chart = s.chart :=
  chart_mark _ _

theorem chart_moveEntries (s : State) (f : Entry → Option EntryState) : (s.moveEntries f).1.chart = s.chart := by
  refine foldl_keeps State.chart _ (fun u r => ?_) (s.entriesChangedBy f) s
  cases judged : r.2.2 with
  | none => exact chart_retireEntry _ _ _
  | some st => rfl

theorem chart_minuteEvent (s : State) (now : Nat) : (s.minuteEvent now).1.chart = s.chart :=
  (chart_mark _ _).trans (chart_moveEntries s (s.judgement now))

theorem chart_secondPasses (s : State) : s.secondPasses.chart = s.chart := by
  rw [State.secondPasses]
  split
  · exact chart_ite (chart_minuteEvent _ _) rfl
  · rfl
  · rfl

/-! ### Screens -/

theorem chart_createScreen (s : State) (n : Nat) (x : Screen) : (s.createScreen n x).chart = s.chart := by
  simp [createScreen_eq]

@[simp] theorem chart_touchAmended (s : State) (n : Nat) (old new : Screen) :
    (s.touchAmended n old new).chart = s.chart := by simp [State.chart, State.gens]

theorem chart_amendScreen (s : State) (n : Nat) (old new : Screen) : (s.amendScreen n old new).chart = s.chart := by
  rw [State.amendScreen, chart_touchAmended, chart_modScreen, moveScreenClaims_eq, State.overrideMoved,
    State.retarget]
  refine chart_ite ?_ ?_ <;> simp

theorem chart_giveNotices (notice : Nat) (p : Policy) (l : List (Nat × Screen)) (s : State) :
    (l.foldl (State.giveNotice notice p) s).chart = s.chart :=
  foldl_keeps State.chart (State.giveNotice notice p) (fun u r => by rw [State.giveNotice, chart_amendScreen]) l s

theorem chart_removeScreen (s : State) (n : Nat) (x : Screen) : (s.removeScreen n x).chart = s.chart := by
  have gone : (((s.modLink (linkOfScreen n) fun k => (k.leaveScreen n).detachExchange n).releaseNode
      x.node).releaseTargets x.claims).chart = s.chart := by simp
  rw [State.removeScreen]
  exact chart_ite ((chart_judgeStandDown _).trans gone) gone

/-! ### Trunks and plates -/

@[simp] theorem chart_holdExpires (s : State) (i : Fin 16) : (s.holdExpires i).chart = s.chart := by
  simp [State.chart, State.gens]

@[simp] theorem chart_loses (s : State) (i : Fin 16) (b : Bool) : (s.loses i b).chart = s.chart := by
  simp [State.chart, State.gens]

@[simp] theorem chart_writeDone (s : State) (c : Nat) (g : Gen) : (s.writeDone c g).chart = s.chart := by
  simp [State.chart, State.gens]

@[simp] theorem chart_writeFailed (s : State) (c : Nat) : (s.writeFailed c).chart = s.chart := by
  simp [State.chart, State.gens]

@[simp] theorem chart_endSurveyStep (s : State) (i : Fin 16) (a : Nat) (b : Bool) (how : SurveyEnd) :
    (s.endSurveyStep i a b how).chart = s.chart := by simp [State.chart, State.gens]

theorem chart_endWrite (s : State) (i : Fin 16) (effect : State → Nat → Face → State)
    (keeps : ∀ u c face, (effect u c face).chart = u.chart) : (s.endWrite i effect).chart = s.chart := by
  rw [State.endWrite]
  split
  · rw [chart_pickAll, keeps, chart_modTrunk]
  · rw [chart_pickAll, chart_modTrunk]
  · rfl
  · rfl
  · rfl

/-! ### Reports of the cabins -/

theorem chart_takePrivacy (v : Privacy) (s : State) (c : Nat) (x : Cabin) :
    (State.takePrivacy v s c x).chart = s.chart := by
  rw [State.takePrivacy]
  split
  · rfl
  · cases x.plateState <;> simp [State.settlePrivacy, State.chart, State.gens]

theorem chart_takeServiceCall (s : State) (c : Nat) (x : Cabin) : (s.takeServiceCall c x).chart = s.chart := by
  rw [State.takeServiceCall]
  split <;> rfl

theorem chart_takeToolWrite (s : State) (c : Nat) (x : Cabin) : (s.takeToolWrite c x).chart = s.chart := by
  rw [State.takeToolWrite]
  cases x.plateState <;> simp [State.oweAgain, State.chart, State.gens]

theorem chart_countSweep (s : State) (c : Cabin) : (s.countSweep c).chart = s.chart := by
  obtain ⟨graph, _, _, _, _, plans⟩ := countSweep_keeps s c
  refine chart_of_plans graph ?_ plans ?_ <;>
    · rw [State.countSweep]
      split <;> rfl

theorem chart_consume (s : State) (e : ReportEntry) (rest : List ReportEntry)
    (effect : State → Nat → Cabin → State) (keeps : ∀ u slot c, (effect u slot c).chart = u.chart) :
    (s.consume e rest effect).chart = s.chart := by
  rw [State.consume, chart_pickAll]
  split
  · rfl
  · exact keeps _ _ _

/-! ### Links -/

@[simp] theorem chart_beginPeriod (s : State) (l : Fin 4) : (s.beginPeriod l).chart = s.chart := by
  simp [State.chart, State.gens]

@[simp] theorem chart_nextPeriod (s : State) (l : Fin 4) : (s.nextPeriod l).chart = s.chart := by
  simp [State.chart, State.gens]

@[simp] theorem chart_runLink (s : State) (l : Fin 4) : (s.runLink l).chart = s.chart := by
  simp [State.chart, State.gens]

@[simp] theorem chart_answered (s : State) (n : Nat) : (s.answered n).chart = s.chart := by
  simp [State.chart, State.gens]

@[simp] theorem chart_rejoin (s : State) (n : Nat) (p : Packet) : (s.rejoin n p).chart = s.chart := by
  simp [State.chart, State.gens]

@[simp] theorem chart_takeAccept (s : State) (n : Nat) (p : Packet) : (s.takeAccept n p).chart = s.chart := by
  simp [State.chart, State.gens]

@[simp] theorem chart_takeDescriptor (s : State) (n : Nat) (d : Descriptor) : (s.takeDescriptor n d).chart = s.chart := by
  simp [State.chart, State.gens]

@[simp] theorem chart_descriptorFlag (s : State) (n : Nat) (b : Byte) : (s.descriptorFlag n b).chart = s.chart := by
  simp [State.chart, State.gens]

@[simp] theorem chart_takeMiss (s : State) (n : Nat) (p : Packet) : (s.takeMiss n p).chart = s.chart := by
  simp [State.chart, State.gens]

theorem chart_endExchange (s : State) (l : Fin 4) (effect : State → Nat → Packet → State)
    (keeps : ∀ u n p, (effect u n p).chart = u.chart) : (s.endExchange l effect).chart = s.chart := by
  rw [State.endExchange]
  split
  · rfl
  · rw [chart_runLink]
    exact chart_ite rfl (keeps _ _ _)

theorem chart_tellMuster {s before : State} (h : s.chart = before.chart) : (s.tellMuster before).chart = before.chart :=
  chart_ite ((chart_judgeStandDown s).trans h) h

theorem chart_acceptArrives (s : State) (l : Fin 4) (address flags slot : Byte) (gen : Word16) :
    (s.acceptArrives l address flags slot gen).chart = s.chart :=
  chart_endExchange s l _ fun u n p =>
    (chart_descriptorFlag _ _ _).trans (chart_ite (by simp) (by simp))

theorem chart_rejectArrives (s : State) (l : Fin 4) (flags : Byte) : (s.rejectArrives l flags).chart = s.chart :=
  chart_endExchange s l _ fun u n p => by simp

theorem chart_descriptorArrives (s : State) (l : Fin 4) (address flags lines : Byte) (rendered : Word16) (cls : Byte) :
    (s.descriptorArrives l address flags lines rendered cls).chart = s.chart :=
  chart_endExchange s l _ fun u n p => by
    dsimp only
    rw [chart_descriptorFlag]
    split
    · simp
    · exact chart_ite (by simp) (by simp)

theorem chart_missArrives (s : State) (l : Fin 4) : (s.missArrives l).chart = s.chart :=
  chart_endExchange s l _ chart_takeMiss

/-! ### Settings (R184) -/

theorem chart_switchTrunk (s : State) (i : Fin 16) (on : Bool) : (s.switchTrunk i on).chart = s.chart := by
  rw [State.switchTrunk]
  exact chart_ite rfl (chart_ite rfl (by simp [State.chart, State.gens]))

theorem chart_switchLink (s : State) (l : Fin 4) (on : Bool) : (s.switchLink l on).chart = s.chart := by
  rw [State.switchLink]
  exact chart_ite rfl (chart_ite (by simp [State.chart, State.gens]) (by simp [State.chart, State.gens]))

theorem chart_applySetting (s : State) (code value : Nat) : (s.applySetting code value).chart = s.chart := by
  unfold State.applySetting
  split
  · exact foldl_keeps State.chart _ (fun u l => chart_switchLink u l _) _ s
  · rfl
  · rfl
  · rfl
  · rfl
  · exact foldl_keeps State.chart _ (fun u i => chart_switchTrunk u i _) _ s
  · rfl
  · rfl
  · rfl
  · exact chart_mark _ _
  · rfl
  · rfl
  · rfl

theorem chart_configure (s : State) (changes : List (Nat × Nat)) : (s.configure changes).chart = s.chart := by
  have applied : ∀ u : State, (applyOrder.foldl (fun s c =>
      match changes.find? fun r => decide (r.1 = c) with
      | none => s
      | some r => s.applySetting c r.2) u).chart = u.chart := by
    refine foldl_keeps State.chart _ (fun u c => ?_) applyOrder
    split
    · rfl
    · exact chart_applySetting u c _
  exact chart_ite ((chart_judgeStandDown _).trans ((chart_pickAll _).trans (applied s)))
    ((chart_pickAll _).trans (applied s))

/-! ### A change of the blocked flag, and what the cabins and the programme make of a transition -/

theorem chart_flagged (s : State) (k : Nat) (blocked : Bool) : (s.flagged k blocked).chart = s.chart := by
  simp only [State.chart, anchors_flagged]
  rfl

theorem chart_changeBlocked (s : State) (t : Nat) (blocked : Bool) : (s.changeBlocked t blocked).chart = s.chart := by
  rw [State.changeBlocked, chart_pickAll, chart_mark, setBlocked_eq, chart_facesChanged, chart_judgeOver,
    State.reblocked, chart_contributeAll, chart_flagged, chart_withdrawAll]

theorem chart_cabinsTakeTransition (s : State) (old : MusterState) : (s.cabinsTakeTransition old).chart = s.chart :=
  chart_ite (chart_of_plans rfl rfl (plans_clearSweeps s) rfl) rfl

theorem chart_programmeTakesTransition (s : State) (old : MusterState) :
    (s.programmeTakesTransition old).1.chart = s.chart := by
  rw [State.programmeTakesTransition]
  split
  · exact chart_moveEntries _ _
  · split
    · exact chart_moveEntries _ _
    · rfl

/-! ### The rest of a warm restart -/

theorem chart_restartTrunks (s : State) : s.restartTrunks.chart = s.chart := rfl

theorem chart_restartClock (s : State) : s.restartClock.chart = s.chart := rfl

theorem chart_withPort (s : State) (p : ServicePort) : ({ s with port := p } : State).chart = s.chart := rfl

theorem chart_refillPlateQueues (s : State) : s.refillPlateQueues.chart = s.chart := by simp [State.chart, State.gens]

theorem chart_restartScreens (s : State) : s.restartScreens.chart = s.chart := by
  refine (foldl_keeps State.chart _ (fun u l => ?_) allLinks s.screensAfresh).trans rfl
  exact chart_ite (chart_beginPeriod u l) rfl

end Sys2Proof.Machine
end

section
/-! The requests that leave the chart alone: all but those on edges, targets, maps and the muster state. -/

namespace Sys2Proof.Machine

theorem chart_reply_ite {c : Prop} [Decidable c] {a b : State × Reply} {s : State} (yes : a.1.chart = s.chart)
    (no : b.1.chart = s.chart) : (if c then a else b).1.chart = s.chart := by
  split
  · exact yes
  · exact no

/-! ### The Service Port's own requests -/

theorem chart_configSet (b : ConfigBody) (s : State) : (configSet b s).1.chart = s.chart := by
  rw [configSet]
  split
  · rfl
  · exact chart_reply_ite rfl (chart_configure s _)

theorem chart_noticeClear (n : Nat) (s : State) : (noticeClear n s).1.chart = s.chart := chart_reply_ite rfl rfl

theorem chart_cursorSet (b : Nat × Nat) (s : State) : (cursorSet b s).1.chart = s.chart := by
  rw [cursorSet]
  split
  · rfl
  · exact chart_reply_ite rfl rfl

theorem chart_readNext (b : Unit) (s : State) : (readNext b s).1.chart = s.chart := by
  rw [readNext]
  split <;> rfl

theorem chart_loadBegin (b : Nat × Nat) (s : State) : (loadBegin b s).1.chart = s.chart := by
  rw [loadBegin]
  split
  · rfl
  · exact chart_reply_ite rfl rfl

theorem chart_loadAbort (b : Unit) (s : State) : (loadAbort b s).1.chart = s.chart := by
  rw [loadAbort]
  split <;> rfl

theorem chart_countRecord (s : State) (l : Load) : (s.countRecord l).chart = s.chart := chart_ite rfl rfl

/-! ### Cabins -/

theorem chart_cabinPut (b : CabinBody) (s : State) : (cabinPut b s).1.chart = s.chart := by
  rw [cabinPut]
  split
  · rfl
  · refine chart_reply_ite rfl (chart_reply_ite rfl (chart_reply_ite rfl (chart_reply_ite rfl (chart_reply_ite rfl ?_))))
    split
    · rfl
    · split
      · rfl
      · dsimp only
        rw [chart_createCabin]

theorem chart_cabinAmend (b : CabinAmendBody) (s : State) : (cabinAmend b s).1.chart = s.chart := by
  rw [cabinAmend]
  split
  · rfl
  · split
    · rfl
    · refine chart_reply_ite rfl (chart_reply_ite rfl (chart_reply_ite rfl (chart_reply_ite rfl ?_)))
      split
      · rfl
      · dsimp only
        rw [chart_amendCabin]

theorem chart_cabinRetire (b : Nat × Nat) (s : State) : (cabinRetire b s).1.chart = s.chart := by
  rw [cabinRetire]
  refine chart_reply_ite ?_ rfl
  split
  · rfl
  · refine chart_reply_ite rfl ?_
    dsimp only
    rw [chart_removeCabin]

theorem chart_plateRetry (b : Nat × Nat) (s : State) : (plateRetry b s).1.chart = s.chart := by
  rw [plateRetry]
  refine chart_reply_ite ?_ rfl
  split
  · rfl
  · exact chart_reply_ite (by simp) rfl

theorem chart_serviceTake (b : Unit) (s : State) : (serviceTake b s).1.chart = s.chart := by
  rw [serviceTake]
  split
  · rfl
  · dsimp only
    split <;> rfl

theorem chart_stationSet (blocked : Bool) (t : Nat) (s : State) : (stationSet blocked t s).1.chart = s.chart := by
  rw [stationSet]
  refine chart_reply_ite rfl ?_
  split
  · rfl
  · split
    · rfl
    · refine chart_reply_ite rfl ?_
      dsimp only
      rw [chart_changeBlocked]

/-! ### Entries and the Ship Clock -/

theorem chart_eventPut (b : EntryBody) (s : State) : (eventPut b s).1.chart = s.chart := by
  rw [eventPut]
  split
  · rfl
  · refine chart_reply_ite rfl ?_
    split
    · rfl
    · refine chart_reply_ite rfl (chart_reply_ite rfl ?_)
      split
      · rfl
      · dsimp only
        rw [chart_createEntry]

theorem chart_eventAmend (b : EntryAmendBody) (s : State) : (eventAmend b s).1.chart = s.chart := by
  rw [eventAmend]
  refine chart_reply_ite rfl ?_
  split
  · rfl
  · refine chart_reply_ite rfl (chart_reply_ite rfl (chart_reply_ite rfl ?_))
    dsimp only
    rw [chart_amendEntry]

theorem chart_eventCancel (id : Nat) (s : State) : (eventCancel id s).1.chart = s.chart := by
  rw [eventCancel]
  refine chart_reply_ite rfl ?_
  split
  · rfl
  · rename_i slot e _
    cases e.state with
    | scheduled => exact chart_cancelEntry s slot e
    | cancelled => rfl
    | running => exact chart_dropEntry s slot e
    | suspended => exact chart_dropEntry s slot e
    | ended => rfl

theorem chart_eventRetire (id : Nat) (s : State) : (eventRetire id s).1.chart = s.chart := by
  rw [eventRetire]
  refine chart_reply_ite rfl ?_
  split
  · rfl
  · exact chart_dropEntry s _ _

theorem chart_clockSet (b : Nat × Nat) (s : State) : (clockSet b s).1.chart = s.chart := by
  rw [clockSet]
  exact chart_reply_ite rfl (chart_minuteEvent _ b.1)

/-! ### Screens -/

theorem chart_screenPut (b : ScreenBody) (s : State) : (screenPut b s).1.chart = s.chart := by
  rw [screenPut]
  split
  · refine chart_reply_ite rfl (chart_reply_ite rfl ?_)
    split
    · rfl
    · refine chart_reply_ite rfl (chart_reply_ite rfl ?_)
      dsimp only
      rw [chart_createScreen]
  · rfl

theorem chart_screenAmend (b : ScreenAmendBody) (s : State) : (screenAmend b s).1.chart = s.chart := by
  rw [screenAmend]
  refine chart_reply_ite rfl ?_
  split
  · rfl
  · dsimp only
    split
    · rfl
    · refine chart_reply_ite rfl (chart_reply_ite rfl ?_)
      split
      · rfl
      · refine chart_reply_ite rfl ?_
        dsimp only
        rw [chart_amendScreen]

theorem chart_screenRetire (b : Nat × Nat) (s : State) : (screenRetire b s).1.chart = s.chart := by
  rw [screenRetire]
  split
  · rfl
  · dsimp only
    split
    · rfl
    · dsimp only
      rw [chart_removeScreen]

theorem chart_noticeSet (b : NoticeSetBody) (s : State) : (noticeSet b s).1.chart = s.chart := by
  rw [noticeSet]
  split
  · exact chart_reply_ite rfl (chart_giveNotices _ _ _ s)
  · rfl

end Sys2Proof.Machine
end

section
/-! Edges, targets, builds, transitions and restarts bring the maps back into agreement, and so does every command
(R20, R25, R27, R35). -/

namespace Sys2Proof.Machine

variable {full : Prop}

/-! ### What an event ends with -/

theorem State.MapsRight.settle {s : State} (h : s.MapsRight full) : s.settle.MapsAgree full :=
  h.startBuild.of_chart (chart_pickAll _)

theorem agree_ite {c : Prop} [Decidable c] {a b : State × Reply} (yes : c → a.1.MapsAgree full)
    (no : ¬c → b.1.MapsAgree full) : (if c then a else b).1.MapsAgree full := by
  split
  · exact yes ‹_›
  · exact no ‹_›

/-! ### Edges (R14, R29) -/

/-- A raise that leaves STEP_FREE out is for stairs, which were and are of no use in it. -/
theorem usableEdges_put {s u : State} {id : Nat} {e : Edge} (edges : u.graph.edges = Table.put s.graph.edges id e)
    (muster : u.muster = s.muster) (new : e.kind = .stair)
    (old : ∀ x, s.edge id = some x → x.kind = .stair) : u.usableEdges .stepFree = s.usableEdges .stepFree := by
  rw [State.usableEdges, State.usableEdges, edges, State.musterNow, State.musterNow, muster]
  exact filter_put (fun x => x.usableIn .stepFree s.muster.state) _ _ _ (usableIn_stair new _) fun x live =>
    usableIn_stair (old x live) _

theorem createEdge_agree {s : State} (h : s.MapsReady full) (id : Nat) (e : Edge) (free : s.edge id = none) :
    (s.createEdge id e).MapsAgree full := by
  have blocks := edgeTaken_graphOf s id e
  rw [createEdge_eq]
  refine graphRaise_agree h blocks fun stair => usableEdges_put (edgeTaken_edges s id e) ?_ (by simpa using stair)
    fun x live => by cases free.symm.trans live
  rw [blocks.blocks]

theorem amendEdge_agree {s : State} (h : s.MapsReady full) {id : Nat} {old : Edge} (e : Edge)
    (was : s.edge id = some old) : (s.amendEdge id old e).MapsAgree full := by
  have blocks := edgeMoved_graphOf s id old e
  rw [amendEdge_eq]
  refine graphRaise_agree h blocks fun stairs => ?_
  simp only [Bool.not_eq_false', Bool.and_eq_true, decide_eq_true_eq] at stairs
  refine usableEdges_put (edgeMoved_edges s id old e) ?_ stairs.2 fun x live => ?_
  · rw [blocks.blocks]
  · cases was.symm.trans live
    exact stairs.1

theorem edgePut_agree (b : EdgeBody) {s : State} (h : s.MapsReady full) : (edgePut b s).1.MapsAgree full := by
  rw [edgePut]
  split
  · exact h.agree
  · refine agree_ite (fun _ => h.agree) fun _ => agree_ite (fun _ => h.agree) fun _ => agree_ite (fun _ => h.agree)
      fun _ => agree_ite (fun _ => h.agree) fun _ => ?_
    split
    · exact createEdge_agree h _ _ ‹_›
    · exact amendEdge_agree h _ ‹_›

theorem passSet_edges (s : State) (id : Nat) (e : Edge) (p : Passability) :
    (s.passSet id e p).graph.edges = Table.modify s.graph.edges id fun e => { e with pass := p } :=
  (liftFalls_nodes _ _).2.trans (liftRises_nodes _ _).2

theorem setPass_agree {s : State} (h : s.MapsReady full) {id : Nat} {e : Edge} (p : Passability)
    (was : s.edge id = some e) : (s.setPass id e p).MapsAgree full := by
  have blocks := passSet_graphOf s id e p
  rw [setPass_eq]
  refine graphRaise_agree h blocks fun stair => ?_
  have stair : e.kind = .stair := by simpa using stair
  have muster : (s.passSet id e p).musterNow = s.musterNow := by rw [blocks.blocks]; rfl
  rw [State.usableEdges, State.usableEdges, passSet_edges, muster]
  refine filter_modify (fun x => x.usableIn .stepFree s.musterNow) _ h.sorted _ _ fun x live => ?_
  cases was.symm.trans live
  exact ⟨usableIn_stair stair _, usableIn_stair (e := { e with pass := p }) stair _⟩

theorem edgeSetPass_agree (b : Nat × Nat) {s : State} (h : s.MapsReady full) : (edgeSetPass b s).1.MapsAgree full := by
  rw [edgeSetPass]
  split
  · exact h.agree
  · refine agree_ite (fun _ => h.agree) fun _ => ?_
    split
    · exact h.agree
    · exact agree_ite (fun _ => h.agree) fun _ => setPass_agree h _ ‹_›

theorem removeEdge_agree {s : State} (h : s.MapsReady full) {id : Nat} {e : Edge} (was : s.edge id = some e) :
    (s.removeEdge id e).MapsAgree full := by
  have blocks := edgeGone_graphOf s id e
  rw [removeEdge_eq]
  refine graphRaise_agree h blocks fun stair => ?_
  have stair : e.kind = .stair := by simpa using stair
  have muster : (s.edgeGone id e).musterNow = s.musterNow := by rw [blocks.blocks]; rfl
  rw [State.usableEdges, State.usableEdges, edgeGone_edges, muster]
  refine filter_del (fun x => x.usableIn .stepFree s.musterNow) _ h.sorted _ fun x live => ?_
  cases was.symm.trans live
  exact usableIn_stair stair _

theorem edgeRetire_agree (id : Nat) {s : State} (h : s.MapsReady full) : (edgeRetire id s).1.MapsAgree full := by
  rw [edgeRetire]
  refine agree_ite (fun _ => h.agree) fun _ => ?_
  split
  · exact h.agree
  · exact removeEdge_agree h ‹_›

/-! ### Targets (R28, R32, R33) -/

/-- Records of other targets are of no matter to a map. -/
theorem buildResult_of_other {s u : State} {m : MapName} (graph : u.graph.edges = s.graph.edges)
    (muster : u.muster = s.muster) (anchor : u.anchorOf m.target = s.anchorOf m.target) :
    u.buildResult m = s.buildResult m :=
  buildResult_of_parts anchor (congrFun (usableEdges_of_edges graph (by rw [muster])) _)

theorem targetAt_targetTaken (s : State) (k : Nat) (x : Target) (j : Nat) :
    (s.targetTaken k x).targetAt j = if j = k then some x else s.targetAt j := Table.get_put _ _ _ _

theorem createTarget_agree {s : State} (h : s.MapsReady full) (b : TargetBody) (given : Option (Nat × Nat))
    (free : s.targetAt b.id = none) : (s.createTarget b given).MapsAgree full := by
  let u := s.targetTaken b.id (b.target given)
  have dead : ∀ m, m.target = b.id → u.mapAt m = none := fun m e => by
    have none := h.live m
    rw [e, free] at none
    exact Option.isSome_eq_false_iff.mp none |> Option.isNone_iff_eq_none.mp
  have taken : Charted full (fun _ => False) u := by
    refine (h.charted.of_route (t := u) (off' := fun m => m.target = b.id) rfl (fun _ => False.elim) fun m => ?_).of_dead dead
    by_cases e : m.target = b.id
    · exact .inl e
    · refine .inr ⟨rfl, fun _ => buildResult_of_other rfl rfl ?_⟩
      rw [State.anchorOf, targetAt_targetTaken, if_neg e]
      rfl
  obtain ⟨charted, live⟩ := taken.createMaps dead
  have right : (u.createMaps b.id).MapsRight full := by
    refine ⟨charted, fun m => ?_⟩
    rw [live, State.targetAt, (createMaps_keeps u b.id).2.1]
    show _ = (u.targetAt m.target).isSome
    rw [targetAt_targetTaken]
    by_cases e : m.target = b.id
    · simp [e]
    · rw [if_neg e, if_neg e]
      exact h.live m
  rw [createTarget_eq]
  exact (right.of_chart (chart_ite (chart_mark _ _) rfl)).startBuild

theorem targetAt_targetGone (s : State) (k : Nat) (x : Target) (j : Nat) :
    (s.targetGone k x).targetAt j = if j = k then none else s.targetAt j := Table.get_del _ _ _

theorem removeTarget_agree {s : State} (h : s.MapsReady full) (k : Nat) (x : Target) :
    (s.removeTarget k x).MapsAgree full := by
  let u := s.targetGone k x
  have gone : Charted full (fun m => m.target = k) u := by
    refine h.charted.of_route rfl (fun _ => False.elim) fun m => ?_
    by_cases e : m.target = k
    · exact .inl e
    · refine .inr ⟨rfl, fun _ => buildResult_of_other rfl rfl ?_⟩
      rw [State.anchorOf, targetAt_targetGone, if_neg e]
      rfl
  obtain ⟨charted, live⟩ := gone.freeMaps k
  have right : (u.freeMaps k).MapsRight full := by
    refine ⟨charted.of_dead fun m e => ?_, fun m => ?_⟩
    · rw [← Option.isNone_iff_eq_none, ← Option.not_isSome, live, if_pos e]
      rfl
    · rw [live, State.targetAt, (freeMaps_keeps u k).2.1]
      show _ = (u.targetAt m.target).isSome
      rw [targetAt_targetGone]
      by_cases e : m.target = k
      · simp [e]
      · rw [if_neg e, if_neg e]
        exact h.live m
  exact (right.of_chart (chart_ite (chart_mark _ _) rfl)).startBuild

theorem targetRetire_agree (k : Nat) {s : State} (h : s.MapsReady full) : (targetRetire k s).1.MapsAgree full := by
  rw [targetRetire]
  refine agree_ite (fun _ => h.agree) fun _ => ?_
  split
  · exact h.agree
  · exact agree_ite (fun _ => h.agree) fun _ => removeTarget_agree h k _

theorem targetAt_targetMoved (s : State) (k : Nat) (old new : Target) (j : Nat) :
    (s.targetMoved k old new).targetAt j = if j = k then (s.targetAt k).map new.given else s.targetAt j := by
  have target : (s.targetMoved k old new).target = (s.modTarget k new.given).target := by
    rw [targetMoved_eq]
    exact (reanchor_keeps _ _ _).1
  rw [State.targetAt, target]
  exact (Table.get_modify _ _ _ _).trans (by split <;> simp [State.targetAt, *])

/-- The maps of a target, hurried if they are to be. -/
def State.hurriedTo (s : State) (k : Nat) (c : Bool) : State := if c then s.hurryTarget k else s

theorem targetRerouted_eq (s : State) (k : Nat) (hurried moved : Bool) :
    s.targetRerouted k hurried moved =
      (let w := s.hurriedTo k (hurried && s.musterNow.proper)
       if moved then w.anchorMoved k else w) := rfl

theorem Charted.hurriedTo {off : MapName → Prop} {u : State} (h : Charted full off u) (k : Nat) (c : Bool) :
    Charted full off (u.hurriedTo k c) := by
  cases c
  · exact h
  · exact h.hurryTarget k

theorem mapsLive_hurriedTo {u : State} (h : u.mapsLive) (k : Nat) (c : Bool) : (u.hurriedTo k c).mapsLive := by
  cases c
  · exact h
  · intro m
    show ((u.hurryTarget k).mapAt m).isSome = ((u.hurryTarget k).targetAt m.target).isSome
    rw [mapAt_of_maps (hurryTarget_maps u k), h, State.targetAt, State.targetAt, (hurryTarget_keeps u k).2.1]

/-- The maps of an amended target: hurried if it has become a station, and put out of date if its anchor moved. -/
theorem targetRerouted_right {v : State} {k : Nat} {hurried moved : Bool}
    (h : Charted full (fun m => moved = true ∧ m.target = k) v) (live : v.mapsLive) :
    (v.targetRerouted k hurried moved).MapsRight full := by
  have charted := h.hurriedTo k (hurried && v.musterNow.proper)
  have live := mapsLive_hurriedTo live k (hurried && v.musterNow.proper)
  rw [targetRerouted_eq]
  cases moved with
  | false => exact ⟨charted.of_dead fun m e => by simp at e, live⟩
  | true =>
    obtain ⟨right, same⟩ := Charted.anchorMoved (t := k)
      (charted.of_route rfl (fun m e => e.2) fun m => .inr ⟨rfl, fun _ => rfl⟩)
    refine ⟨right, fun m => (same m).trans ((live m).trans ?_)⟩
    rw [State.targetAt, State.targetAt]
    dsimp only
    rw [if_pos rfl, (anchorMoved_keeps _ k).2.1]

theorem chart_judgedIf (s before : State) (kept : Bool) : (s.judgedIf before kept).chart = s.chart := by
  rw [State.judgedIf]
  exact chart_ite (chart_judgeOver s before) rfl

theorem amendTarget_agree {s : State} (h : s.MapsReady full) (b : TargetBody) (given : Option (Nat × Nat))
    {old : Target} (was : s.targetAt b.id = some old) : (s.amendTarget b given old).MapsAgree full := by
  let new := b.amends given old
  let v := s.targetMoved b.id old new
  have chart : v.chart = (s.modTarget b.id new.given).chart := by
    show (s.targetMoved _ _ _).chart = _
    rw [targetMoved_eq, chart_reanchor]
  have same := sameChart chart
  have muster : v.muster.state.proper = s.muster.state.proper := congrArg Chart.proper chart
  have moved : Charted full (fun m => decide (new.anchor ≠ old.anchor) = true ∧ m.target = b.id) v := by
    refine h.charted.of_route same.route (fun _ => False.elim) fun m => ?_
    by_cases e : decide (new.anchor ≠ old.anchor) = true ∧ m.target = b.id
    · exact .inl e
    · refine .inr ⟨by rw [same.gens]; rfl, fun _ => buildResult_of_parts ?_
        (congrFun (usableEdges_of_edges same.edges muster) _)⟩
      rw [State.anchorOf, targetAt_targetMoved, was]
      split
      · rename_i mine
        have still : new.anchor = old.anchor := by simpa [mine] using e
        rw [State.anchorOf, mine, was]
        exact congrArg some still
      · rfl
  have live : v.mapsLive := fun m => by
    rw [mapAt_of_route same.route, targetAt_targetMoved]
    split
    · rename_i mine
      rw [Option.isSome_map, ← mine]
      exact h.live m
    · exact h.live m
  have right : (s.targetAmended b.id old new).MapsRight full :=
    (targetRerouted_right moved live).of_chart (chart_judgedIf _ _ _)
  rw [amendTarget_eq]
  exact (right.of_chart ((chart_mark _ _).trans (chart_ite (chart_facesChanged _ _) rfl))).settle

theorem targetPut_agree (b : TargetBody) {s : State} (h : s.MapsReady full) : (targetPut b s).1.MapsAgree full := by
  rw [targetPut]
  split
  · exact h.agree
  · refine agree_ite (fun _ => h.agree) fun _ => agree_ite (fun _ => h.agree) fun _ => ?_
    split
    · exact h.agree
    · split
      · dsimp only
        exact createTarget_agree h b _ ‹_›
      · dsimp only
        exact amendTarget_agree h b _ ‹_›

/-! ### Builds (R34, R36) -/

theorem completeBuild_eq (s : State) (b : Build) :
    s.completeBuild b =
      (let u := (s.modMap b.map fun r => r.built (s.buildResult b.map) b.gen).grounded
       let v := (u.mark (u.mapCauses b.map)).startBuild
       if v.settled then v.raiseNotice .mapsSettled else v) := rfl

theorem completeBuild_agree {s : State} (h : s.MapsReady full) {b : Build} (flying : s.route.build = some b) :
    (s.completeBuild b).MapsAgree full := by
  have live : (s.modMap b.map fun r => r.built (s.buildResult b.map) b.gen).grounded.mapsLive := fun m =>
    ((oneMoves_built flying _).live (Option.isSome_map) m).trans (h.live m)
  have built : State.MapsRight full _ := ⟨h.charted.built flying, live⟩
  rw [completeBuild_eq]
  exact (built.of_chart (chart_mark _ _)).startBuild.of_chart (chart_ite rfl rfl)

/-! ### Transitions (R15, R30) -/

theorem transition_agree {s : State} (h : s.MapsReady full) (new : MusterState) (cause : LastCause) :
    (s.transition new cause).MapsAgree full := by
  have deck := graphTakesTransition_right h
    (u := ({ s with muster := s.muster.enter new cause } : State).raiseNotice .musterChange) rfl rfl rfl
  have taken : (s.transitionTaken new cause).1.MapsRight full := by
    refine deck.of_chart ?_
    rw [State.transitionTaken, chart_programmeTakesTransition, chart_cabinsTakeTransition]
  rw [transition_eq]
  exact (taken.of_chart (chart_mark _ _)).settle.of_chart (chart_judgeStandDown _)

theorem startMuster_agree {s : State} (h : s.MapsReady full) (new : MusterState) :
    (s.startMuster new).1.MapsAgree full := by
  rw [State.startMuster]
  dsimp only
  exact transition_agree h new .request

theorem musterStart_agree (kind : Nat) {s : State} (h : s.MapsReady full) : (musterStart kind s).1.MapsAgree full := by
  unfold musterStart
  split
  · exact startMuster_agree h _
  · exact startMuster_agree h _
  · exact startMuster_agree h _
  · exact h.agree
  · exact startMuster_agree h _
  · exact startMuster_agree h _
  · exact startMuster_agree h _
  · exact h.agree
  · exact h.agree

theorem endMuster_agree {s : State} (h : s.MapsReady full) : s.endMuster.1.MapsAgree full := by
  rw [State.endMuster]
  refine agree_ite (fun _ => h.agree) fun _ => ?_
  dsimp only
  exact transition_agree h .standDown .request

theorem musterEnd_agree (b : Unit) {s : State} (h : s.MapsReady full) : (musterEnd b s).1.MapsAgree full := by
  rw [musterEnd]
  split
  · exact h.agree
  · exact endMuster_agree h
  · exact endMuster_agree h
  · exact h.agree

theorem completeStandDown_agree {s : State} (h : s.MapsReady full) : s.completeStandDown.MapsAgree full := by
  have taken : State.MapsReady full { s with muster := { s.muster with completion := false } } := h.of_chart rfl
  rw [State.completeStandDown]
  dsimp only
  split
  · exact transition_agree taken _ _
  · exact taken.agree

theorem filterExpires_agree {s : State} (h : s.MapsReady full) : s.filterExpires.MapsAgree full := by
  have taken : State.MapsReady full { s with muster :=
      { s.muster with asserted := s.muster.rawLow, filterTimer := stopped } } := h.of_chart rfl
  rw [State.filterExpires]
  dsimp only
  split
  · split
    · exact transition_agree taken _ _
    · exact transition_agree taken _ _
    · exact transition_agree taken _ _
    · exact taken.agree
  · exact taken.agree

/-! ### Restarts and resets (R44, R45) -/

theorem warmRestart_agree {s : State} (h : s.MapsReady full) : s.warmRestart.MapsAgree full := by
  have route : s.recountGraph.recountTallies.route = s.route := by
    simp [State.recountTallies, State.recountTargets, State.recountGraph]
  obtain ⟨charted, live⟩ := charted_restartMaps (full := full) (s := s.recountGraph.recountTallies)
    (by rw [route]; exact h.charted.sorted)
  have right : s.recountGraph.recountTallies.restartMaps.MapsRight full := by
    refine ⟨charted, fun m => ?_⟩
    have there : (s.recountGraph.recountTallies.targetAt m.target).isSome = (s.targetAt m.target).isSome :=
      isSome_targetAt_of_plans (plans_recountTallies s.recountGraph) m.target
    rw [live, mapAt_of_route route, h.live, ← there, State.targetAt, State.targetAt, (restartMaps_keeps _).2.1]
  rw [State.warmRestart]
  refine State.MapsAgree.of_chart (State.MapsRight.startBuild (right.of_chart ?_)) (chart_judgeStandDown _)
  rw [chart_withPort, chart_restartScreens, chart_restartClock, chart_refillPlateQueues, chart_restartTrunks]

theorem resetWith_agree (s : State) (cause : ResetCause) : (s.resetWith cause).MapsAgree full := by
  obtain ⟨_, _, _, _, route, contents, _⟩ := resetMeetsTheInvariants
  have reset : State.reset.MapsAgree full := ⟨route, fun _ => contents⟩
  have same : (s.resetWith cause).chart = State.reset.chart := rfl
  exact reset.of_chart same

end Sys2Proof.Machine
end

section
/-! Every command keeps the maps in agreement, and the obligation that says so. -/

namespace Sys2Proof.Machine

variable {full : Prop}

/-! ### Requests -/

theorem judgeRequest_agree {α : Type} {op : Owner α}
    (keeps : ∀ b {u : State}, u.MapsReady full → (op b u).1.MapsAgree full) (parsed : Option α) (changing : Bool)
    {s : State} (h : s.MapsReady full) : (judgeRequest parsed changing op s).1.MapsAgree full := by
  cases parsed with
  | none => exact h.agree
  | some b =>
    rw [judgeRequest, handOver]
    exact agree_ite (fun _ => h.agree) fun _ => keeps b h

theorem serve_agree {α : Type} {op : Owner α}
    (keeps : ∀ b {u : State}, u.MapsReady full → (op b u).1.MapsAgree full) (tag : Byte) (parsed : Option α)
    (changing : Bool) {s : State} (h : s.MapsReady full) : (serve tag parsed changing op s).MapsAgree full :=
  (judgeRequest_agree keeps parsed changing (h.of_chart (chart_beginRequest s))).of_chart (chart_placeAnswer _ _ _)

/-- An owner that leaves the chart alone. -/
theorem owner_of_chart {α : Type} {op : Owner α} (keeps : ∀ b (u : State), (op b u).1.chart = u.chart) (b : α)
    {u : State} (h : u.MapsReady full) : (op b u).1.MapsAgree full := h.agree.of_chart (keeps b u)

theorem putRecord_agree (t : TableName) (body : List Byte) {s : State} (h : s.MapsReady full) :
    (putRecord t body s).1.MapsAgree full := by
  cases t with
  | node => exact judgeRequest_agree (owner_of_chart chart_nodePut) _ _ h
  | edge => exact judgeRequest_agree edgePut_agree _ _ h
  | target => exact judgeRequest_agree targetPut_agree _ _ h
  | cabin => exact judgeRequest_agree (owner_of_chart chart_cabinPut) _ _ h
  | entry => exact judgeRequest_agree (owner_of_chart chart_eventPut) _ _ h
  | screen => exact judgeRequest_agree (owner_of_chart chart_screenPut) _ _ h

theorem loadRecord_agree (body : List Byte) {s : State} (h : s.MapsReady full) :
    (loadRecord body s).1.MapsAgree full := by
  rw [loadRecord]
  split
  · exact h.agree
  · exact (putRecord_agree _ body h).of_chart (chart_countRecord _ _)

theorem restartRequest_agree {s : State} (h : s.MapsReady full) (tag : Byte) (body : List Byte) :
    (s.restartRequest tag body).MapsAgree full := by
  rw [State.restartRequest]
  split
  · exact warmRestart_agree (h.of_chart (chart_beginRequest s))
  · exact serve_agree (fun b _ hu => hu.agree) _ _ _ h

/-! ### What a command makes of a state -/

/-- If a command goes on, the maps agree. -/
def Agrees (full : Prop) (o : Host.Outcome State Fault Refusal) : Prop := ∀ t, o = .next t → t.MapsAgree full

theorem agrees_next {t : State} (h : t.MapsAgree full) : Agrees full (.next t) := fun _ go => by
  cases go
  exact h

theorem agrees_of_chart {s t : State} (h : s.MapsReady full) (same : t.chart = s.chart) : Agrees full (.next t) :=
  agrees_next (h.agree.of_chart same)

theorem request_agrees {α : Type} {op : Owner α}
    (keeps : ∀ b {u : State}, u.MapsReady full → (op b u).1.MapsAgree full) {s : State} (h : s.MapsReady full)
    (tag : Byte) (parsed : Option α) (changing : Bool) : Agrees full (.next (serve tag parsed changing op s)) :=
  agrees_next (serve_agree keeps tag parsed changing h)

theorem request_of_chart {α : Type} {op : Owner α} (keeps : ∀ b (u : State), (op b u).1.chart = u.chart) {s : State}
    (h : s.MapsReady full) (tag : Byte) (parsed : Option α) (changing : Bool) :
    Agrees full (.next (serve tag parsed changing op s)) := request_agrees (owner_of_chart keeps) h tag parsed changing

theorem reading_agrees {α : Type} (f : α → State → Reply) {s : State} (h : s.MapsReady full) (tag : Byte)
    (parsed : Option α) (changing : Bool) : Agrees full (.next (serve tag parsed changing (reading f) s)) :=
  request_of_chart (fun _ _ => rfl) h tag parsed changing

/-! ### Events that leave the chart alone -/

theorem alarmInChange_agrees {s : State} (h : s.MapsReady full) (low : Bool) : Agrees full (execAlarmInChange low s) := by
  have state : (s.muster.rawChange low).state = s.muster.state := by
    rw [MusterControl.rawChange]
    split <;> rfl
  refine agrees_of_chart h ?_
  simp only [State.chart, state]
  rfl

theorem badFrame_agrees {s : State} (h : s.MapsReady full) (bytes : List Byte) : Agrees full (execBadFrame bytes s) := by
  refine agrees_of_chart h ?_
  split
  · rfl
  · split <;> rfl

theorem unknownRequest_agrees {s : State} (h : s.MapsReady full) (tag code : Byte) : Agrees full (execUnknownRequest tag code s) := by
  refine agrees_of_chart h ?_
  split <;> rfl

theorem entryCountTimerExpiry_agrees {s : State} (h : s.MapsReady full) : Agrees full (execEntryCountTimerExpiry s) := by
  refine agrees_of_chart h ?_
  split <;> rfl

theorem surveyTimerExpiry_agrees {s : State} (h : s.MapsReady full) (i : Fin 16) : Agrees full (execSurveyTimerExpiry i s) := by
  refine agrees_of_chart h ?_
  split
  · rfl
  · rw [chart_pickAll, chart_modTrunk]

theorem broadcastCompletion_agrees {s : State} (h : s.MapsReady full) (i : Fin 16) : Agrees full (execBroadcastCompletion i s) := by
  refine agrees_of_chart h ?_
  split
  · exact chart_ite (by simp) (by simp)
  · rfl
  · rfl
  · rfl

theorem surveyStepEnd_agrees {s : State} (h : s.MapsReady full) (i : Fin 16) (how : SurveyEnd) :
    Agrees full (execSurveyStepEnd i how s) := by
  refine agrees_of_chart h ?_
  split
  · simp
  · rfl
  · rfl
  · rfl

theorem periodTimerExpiry_agrees {s : State} (h : s.MapsReady full) (l : Fin 4) : Agrees full (execPeriodTimerExpiry l s) := by
  refine agrees_of_chart h ?_
  split
  · rfl
  · exact chart_nextPeriod s l

theorem privacy_agrees {s : State} (h : s.MapsReady full) : Agrees full (execPrivacy s) := by
  refine agrees_of_chart h ?_
  split
  · exact chart_consume s _ _ _ fun u c x => chart_takePrivacy _ u c x
  · rfl

theorem serviceCall_agrees {s : State} (h : s.MapsReady full) : Agrees full (execServiceCall s) := by
  refine agrees_of_chart h ?_
  split
  · exact chart_consume s _ _ _ chart_takeServiceCall
  · rfl

theorem chart_takeSweep (tag : Word16) (s : State) (slot : Nat) (c : Cabin) :
    (State.takeSweep tag s slot c).chart = s.chart :=
  chart_ite (chart_ite rfl (chart_countSweep s c)) rfl

theorem sweepClear_agrees {s : State} (h : s.MapsReady full) : Agrees full (execSweepClear s) := by
  refine agrees_of_chart h ?_
  split
  · exact chart_consume s _ _ _ (chart_takeSweep _)
  · rfl

theorem toolWrite_agrees {s : State} (h : s.MapsReady full) : Agrees full (execToolWrite s) := by
  refine agrees_of_chart h ?_
  split
  · exact chart_consume s _ _ _ chart_takeToolWrite
  · rfl

/-! ### Events that move maps -/

theorem buildCompletion_agrees {s : State} (h : s.MapsReady full) : Agrees full (execBuildCompletion s) := by
  refine agrees_next ?_
  split
  · exact h.agree
  · exact completeBuild_agree h ‹_›

theorem alarmInFilterExpiry_agrees {s : State} (h : s.MapsReady full) : Agrees full (execAlarmInFilterExpiry s) := by
  refine agrees_next ?_
  split
  · exact h.agree
  · exact filterExpires_agree h

theorem drillTimerExpiry_agrees {s : State} (h : s.MapsReady full) : Agrees full (execDrillTimerExpiry s) := by
  refine agrees_next ?_
  split
  · exact transition_agree h _ _
  · exact h.agree
  · exact h.agree
  · exact h.agree
  · exact h.agree

theorem standDownCompletion_agrees {s : State} (h : s.MapsReady full) : Agrees full (execStandDownCompletion s) := by
  refine agrees_next ?_
  split
  · exact completeStandDown_agree h
  · exact h.agree

/-! ### Every command -/

theorem exec_agrees (i : Instr) {s : State} (h : s.MapsReady full) : Agrees full (exec i s) := by
  cases i with
  | identify tag body => exact reading_agrees _ h _ _ _
  | portStatus tag body => exact reading_agrees _ h _ _ _
  | configGet tag body => exact reading_agrees _ h _ _ _
  | configSet tag body => exact request_of_chart chart_configSet h _ _ _
  | noticeClear tag body => exact request_of_chart chart_noticeClear h _ _ _
  | restart tag body => exact agrees_next (restartRequest_agree h tag body)
  | cursorSet tag body => exact request_of_chart chart_cursorSet h _ _ _
  | readNext tag body => exact request_of_chart chart_readNext h _ _ _
  | loadBegin tag body => exact request_of_chart chart_loadBegin h _ _ _
  | loadRecord tag body => exact request_agrees loadRecord_agree h _ _ _
  | loadAbort tag body => exact request_of_chart chart_loadAbort h _ _ _
  | nodePut tag body => exact request_of_chart chart_nodePut h _ _ _
  | nodeRetire tag body => exact request_of_chart chart_nodeRetire h _ _ _
  | nodeGet tag body => exact reading_agrees _ h _ _ _
  | edgePut tag body => exact request_agrees edgePut_agree h _ _ _
  | edgeSetPass tag body => exact request_agrees edgeSetPass_agree h _ _ _
  | edgeRetire tag body => exact request_agrees edgeRetire_agree h _ _ _
  | edgeGet tag body => exact reading_agrees _ h _ _ _
  | routeAsk tag body => exact reading_agrees _ h _ _ _
  | targetPut tag body => exact request_agrees targetPut_agree h _ _ _
  | targetRetire tag body => exact request_agrees targetRetire_agree h _ _ _
  | targetGet tag body => exact reading_agrees _ h _ _ _
  | stationBlock tag body => exact request_of_chart (chart_stationSet true) h _ _ _
  | stationUnblock tag body => exact request_of_chart (chart_stationSet false) h _ _ _
  | cabinPut tag body => exact request_of_chart chart_cabinPut h _ _ _
  | cabinAmend tag body => exact request_of_chart chart_cabinAmend h _ _ _
  | cabinRetire tag body => exact request_of_chart chart_cabinRetire h _ _ _
  | cabinGet tag body => exact reading_agrees _ h _ _ _
  | plateRetry tag body => exact request_of_chart chart_plateRetry h _ _ _
  | serviceTake tag body => exact request_of_chart chart_serviceTake h _ _ _
  | trunkGet tag body => exact reading_agrees _ h _ _ _
  | eventPut tag body => exact request_of_chart chart_eventPut h _ _ _
  | eventAmend tag body => exact request_of_chart chart_eventAmend h _ _ _
  | eventCancel tag body => exact request_of_chart chart_eventCancel h _ _ _
  | eventRetire tag body => exact request_of_chart chart_eventRetire h _ _ _
  | eventGet tag body => exact reading_agrees _ h _ _ _
  | clockSet tag body => exact request_of_chart chart_clockSet h _ _ _
  | clockGet tag body => exact reading_agrees _ h _ _ _
  | screenPut tag body => exact request_of_chart chart_screenPut h _ _ _
  | screenAmend tag body => exact request_of_chart chart_screenAmend h _ _ _
  | screenRetire tag body => exact request_of_chart chart_screenRetire h _ _ _
  | screenGet tag body => exact reading_agrees _ h _ _ _
  | noticeSet tag body => exact request_of_chart chart_noticeSet h _ _ _
  | musterStart tag body => exact request_agrees musterStart_agree h _ _ _
  | musterEnd tag body => exact request_agrees musterEnd_agree h _ _ _
  | musterStatus tag body => exact reading_agrees _ h _ _ _
  | readAnswer x => exact agrees_of_chart h rfl
  | portOverrun => exact agrees_of_chart h rfl
  | badFrame bytes => exact badFrame_agrees h bytes
  | unknownRequest tag code => exact unknownRequest_agrees h tag code
  | powerOnReset => exact agrees_next (resetWith_agree s _)
  | pinReset => exact agrees_next (resetWith_agree s _)
  | alarmInChange low => exact alarmInChange_agrees h low
  | alarmInFilterExpiry => exact alarmInFilterExpiry_agrees h
  | drillTimerExpiry => exact drillTimerExpiry_agrees h
  | entryCountTimerExpiry => exact entryCountTimerExpiry_agrees h
  | secondTimerExpiry => exact agrees_of_chart h (chart_secondPasses s)
  | standDownCompletion => exact standDownCompletion_agrees h
  | buildCompletion => exact buildCompletion_agrees h
  | surveyTimerExpiry i => exact surveyTimerExpiry_agrees h i
  | holdTimerExpiry i => exact agrees_of_chart h (chart_ite (by simp) rfl)
  | idleGuardExpiry i => exact agrees_of_chart h (chart_ite (by simp) rfl)
  | stuckTimerExpiry i => exact agrees_of_chart h (chart_ite (by simp) rfl)
  | otherTalkerOpen i => exact agrees_of_chart h rfl
  | otherTalkerClose i => exact agrees_of_chart h (by simp)
  | hold i a => exact agrees_of_chart h (chart_ite rfl rfl)
  | holdRelease i => exact agrees_of_chart h (chart_ite rfl (by simp))
  | arbitrationLoss i a => exact agrees_of_chart h (chart_ite (by simp) rfl)
  | recoveringWiresHigh i => exact agrees_of_chart h (chart_ite rfl rfl)
  | faultWiresHigh i => exact agrees_of_chart h (chart_ite rfl rfl)
  | writeCompletion i => exact agrees_of_chart h (chart_endWrite s i _ fun u c face => chart_writeDone u c face.gen)
  | writeRefused i => exact agrees_of_chart h (chart_endWrite s i _ fun u c _ => chart_writeFailed u c)
  | broadcastCompletion i => exact broadcastCompletion_agrees h i
  | surveyStepEnd i how => exact surveyStepEnd_agrees h i how
  | privacy => exact privacy_agrees h
  | serviceCall => exact serviceCall_agrees h
  | sweepClear => exact sweepClear_agrees h
  | toolWrite => exact toolWrite_agrees h
  | periodTimerExpiry l => exact periodTimerExpiry_agrees h l
  | accept l address flags slot gen =>
    exact agrees_of_chart h (chart_tellMuster (chart_acceptArrives s l address flags slot gen))
  | reject l address flags slot gen => exact agrees_of_chart h (chart_rejectArrives s l flags)
  | descriptor l address flags lines languages panelClass =>
    exact agrees_of_chart h (chart_descriptorArrives s l address flags lines languages panelClass)
  | corruptAnswer l => exact agrees_of_chart h (chart_tellMuster (chart_missArrives s l))
  | answerWindowExpiry l => exact agrees_of_chart h (chart_ite (chart_tellMuster (chart_missArrives s l)) rfl)
  | answerLimitExpiry l => exact agrees_of_chart h (chart_ite (chart_tellMuster (chart_missArrives s l)) rfl)
  | trunkWireChange i c d => exact agrees_of_chart h (by simp)
  | screenAnswerBegin l => exact agrees_of_chart h (chart_ite rfl rfl)

theorem step_agrees {s : State} (h : s.MapsReady full) : Agrees full (step s) := by
  rw [step]
  split
  · exact agrees_of_chart h (chart_tick s)
  · exact exec_agrees _ (h.of_chart (chart_withPending s _))

/-- Settles O57: each map stands in the queue, in the build record or CURRENT with what a build would give
(`mapsAgree_iff`), and every command brings the maps that it touches back there. -/
theorem stepsKeepTheMaps : Obligations.StepsKeepTheMaps := by
  refine ⟨fun s t tables route go => ?_, fun s t tables graph route contents go => ?_⟩
  · obtain ⟨_, ⟨sorted, _⟩, _⟩ := tables
    exact (step_agrees (full := False) ⟨⟨route, False.elim⟩, sorted, False.elim⟩ t go).1
  · obtain ⟨_, ⟨sorted, _⟩, _⟩ := tables
    obtain ⟨_, _, _, _, _, lifts⟩ := graph
    exact (step_agrees (full := True) ⟨⟨route, fun _ => contents⟩, sorted, fun _ => lifts⟩ t go).2 trivial

end Sys2Proof.Machine
end

section
/-! What a build computes: after enough rounds of offers, the least lengths of walks to the anchor, and the edges that
begin such walks (R22, R23). -/

namespace Sys2Proof.Machine

/-! ### Walks -/

theorem Edge.other_endB (e : Edge) : e.other e.endB = e.endA := by
  rw [Edge.other]
  split
  · exact Eq.symm ‹_›
  · rfl

theorem Edge.other_endA (e : Edge) : e.other e.endA = e.endB := if_pos rfl

theorem Edge.hasEnd_iff (e : Edge) (n : Nat) : e.hasEnd n = true ↔ n = e.endA ∨ n = e.endB := by
  rw [Edge.hasEnd, Bool.or_eq_true, decide_eq_true_iff, decide_eq_true_iff]
  exact or_congr eq_comm eq_comm

/-- The edges that do not touch a node. -/
def awayFrom (n : Nat) (edges : Table Edge) : Table Edge := edges.filter fun r => !r.2.hasEnd n

/-- Away from all its edges a node is left by no walk. -/
theorem walk_awayFrom_self {edges : Table Edge} {n m k : Nat} (h : Walk (awayFrom n edges) n m k) : m = n := by
  cases h with
  | stay => rfl
  | along id e _ _ k mem touches _ => simp [awayFrom, touches] at mem

/-- A walk either keeps away from a node that is not its end, or leaves it for the last time. -/
theorem walk_awayFrom {edges : Table Edge} {n m : Nat} (apart : m ≠ n) {v k : Nat} (h : Walk edges v m k) :
    (∃ l ≤ k, Walk (awayFrom n edges) v m l) ∨
    ∃ id e l, (id, e) ∈ edges ∧ e.hasEnd n = true ∧ Walk (awayFrom n edges) (e.other n) m l ∧ e.length + l ≤ k := by
  induction h with
  | stay v => exact .inl ⟨0, Nat.le_refl 0, .stay v⟩
  | along id e v m k mem touches rest ih =>
    rcases ih apart with ⟨l, le, away⟩ | ⟨id', e', l, mem', touches', away, le⟩
    · by_cases at_ : v = n
      · subst at_
        exact .inr ⟨id, e, l, mem, touches, away, Nat.add_le_add_left le _⟩
      · cases crosses : e.hasEnd n with
        | false =>
          exact .inl ⟨e.length + l, Nat.add_le_add_left le _,
            .along id e v m l (List.mem_filter.mpr ⟨mem, by simp [crosses]⟩) touches away⟩
        | true =>
          have across : e.other v = n := by
            rcases (e.hasEnd_iff v).mp touches with rfl | rfl <;> rcases (e.hasEnd_iff n).mp crosses with rfl | rfl
            · exact absurd rfl at_
            · exact e.other_endA
            · exact e.other_endB
            · exact absurd rfl at_
          rw [across] at away
          exact absurd (walk_awayFrom_self away) apart
    · exact .inr ⟨id', e', l, mem', touches', away, by omega⟩

/-- A walk that has not arrived leaves its first node for good. -/
theorem walk_leaves {edges : Table Edge} {n m k : Nat} (h : Walk edges n m k) (apart : m ≠ n) :
    ∃ id e l, (id, e) ∈ edges ∧ e.hasEnd n = true ∧ Walk (awayFrom n edges) (e.other n) m l ∧ e.length + l ≤ k := by
  rcases walk_awayFrom apart h with ⟨l, _, away⟩ | leaves
  · exact absurd (walk_awayFrom_self away) apart
  · exact leaves

theorem length_awayFrom {edges : Table Edge} {id n : Nat} {e : Edge} (mem : (id, e) ∈ edges)
    (touches : e.hasEnd n = true) : (awayFrom n edges).length < edges.length :=
  List.length_filter_lt_length_iff_exists.mpr ⟨(id, e), mem, by simp [touches]⟩

/-! ### Offers -/

theorem get_offer (d : Table Nat) (n x k : Nat) :
    Table.get (offer d n x) k = if k = n then some ((Table.get d n).elim x (min x)) else Table.get d k := by
  rw [offer]
  cases held : Table.get d n with
  | none => exact Table.get_put d n k x
  | some y =>
    dsimp only
    split
    · rw [Table.get_put, Option.elim_some, Nat.min_eq_left (by omega)]
    · split
      · rename_i same
        rw [same, held, Option.elim_some, Nat.min_eq_right (by omega)]
      · rfl

/-- No distance is greater in the later table, and none is lost. -/
def NoWorse (d d' : Table Nat) : Prop := ∀ n x, Table.get d n = some x → ∃ y ≤ x, Table.get d' n = some y

theorem NoWorse.refl (d : Table Nat) : NoWorse d d := fun _ x h => ⟨x, Nat.le_refl x, h⟩

theorem NoWorse.trans {d d' d'' : Table Nat} (h : NoWorse d d') (g : NoWorse d' d'') : NoWorse d d'' := fun n x held => by
  obtain ⟨y, le, held'⟩ := h n x held
  obtain ⟨z, le', held''⟩ := g n y held'
  exact ⟨z, Nat.le_trans le' le, held''⟩

theorem noWorse_offer (d : Table Nat) (n x : Nat) : NoWorse d (offer d n x) := fun k y held => by
  rw [get_offer]
  by_cases same : k = n
  · subst same
    rw [if_pos rfl, held]
    exact ⟨min x y, Nat.min_le_right x y, rfl⟩
  · rw [if_neg same]
    exact ⟨y, Nat.le_refl y, held⟩

theorem offer_reaches (d : Table Nat) (n x : Nat) : ∃ y ≤ x, Table.get (offer d n x) n = some y := by
  rw [get_offer, if_pos rfl]
  cases Table.get d n with
  | none => exact ⟨x, Nat.le_refl x, rfl⟩
  | some y => exact ⟨min x y, Nat.min_le_left x y, rfl⟩

/-- One direction of an edge: what is known of one end is offered to the other. -/
def offerFrom (d : Table Nat) (v w len : Nat) : Table Nat :=
  match Table.get d v with
  | none => d
  | some x => offer d w (x + len)

theorem relaxEdge_eq (d : Table Nat) (e : Edge) :
    relaxEdge d e = offerFrom (offerFrom d e.endA e.endB e.length) e.endB e.endA e.length := rfl

theorem noWorse_offerFrom (d : Table Nat) (v w len : Nat) : NoWorse d (offerFrom d v w len) := by
  rw [offerFrom]
  split
  · exact NoWorse.refl d
  · exact noWorse_offer d w _

theorem noWorse_relaxEdge (d : Table Nat) (e : Edge) : NoWorse d (relaxEdge d e) :=
  (noWorse_offerFrom d _ _ _).trans (noWorse_offerFrom _ _ _ _)

theorem offerFrom_reaches {d : Table Nat} {v x : Nat} (known : Table.get d v = some x) (w len : Nat) :
    ∃ y ≤ len + x, Table.get (offerFrom d v w len) w = some y := by
  rw [offerFrom, known, Nat.add_comm len]
  exact offer_reaches d w _

/-- After an edge is walked both ways, each end is as near as the edge makes it. -/
theorem relaxEdge_reaches {d : Table Nat} {e : Edge} {n x : Nat} (touches : e.hasEnd n = true)
    (known : Table.get d (e.other n) = some x) : ∃ y ≤ e.length + x, Table.get (relaxEdge d e) n = some y := by
  rw [relaxEdge_eq]
  rcases (e.hasEnd_iff n).mp touches with rfl | rfl
  · rw [e.other_endA] at known
    obtain ⟨z, le, known'⟩ := noWorse_offerFrom d e.endA e.endB e.length _ x known
    obtain ⟨y, le', reached⟩ := offerFrom_reaches known' e.endA e.length
    exact ⟨y, by omega, reached⟩
  · rw [e.other_endB] at known
    obtain ⟨z, le, reached⟩ := offerFrom_reaches known e.endB e.length
    obtain ⟨y, le', reached'⟩ := noWorse_offerFrom _ e.endB e.endA e.length _ z reached
    exact ⟨y, Nat.le_trans le' le, reached'⟩

/-! ### Rounds -/

theorem noWorse_relaxAll (edges : Table Edge) (d : Table Nat) : NoWorse d (relaxAll edges d) := by
  induction edges generalizing d with
  | nil => exact NoWorse.refl d
  | cons r edges ih => exact (noWorse_relaxEdge d r.2).trans (ih _)

theorem relaxAll_reaches {edges : Table Edge} {id n x : Nat} {e : Edge} (mem : (id, e) ∈ edges)
    (touches : e.hasEnd n = true) {d : Table Nat} (known : Table.get d (e.other n) = some x) :
    ∃ y ≤ e.length + x, Table.get (relaxAll edges d) n = some y := by
  induction edges generalizing d x with
  | nil => cases mem
  | cons r edges ih =>
    rcases List.mem_cons.mp mem with rfl | later
    · obtain ⟨z, le, reached⟩ := relaxEdge_reaches touches known
      obtain ⟨y, le', reached'⟩ := noWorse_relaxAll edges _ n z reached
      exact ⟨y, Nat.le_trans le' le, reached'⟩
    · obtain ⟨z, le, known'⟩ := noWorse_relaxEdge d r.2 _ x known
      obtain ⟨y, le', reached⟩ := ih later known'
      exact ⟨y, by omega, reached⟩

/-- Stopping early is of no matter: a round that changes nothing changes nothing again. -/
theorem relaxUntil_eq (edges : Table Edge) (fuel : Nat) (d : Table Nat) :
    relaxUntil edges fuel d = (relaxAll edges)^[fuel] d := by
  induction fuel generalizing d with
  | zero => rfl
  | succ fuel ih =>
    rw [relaxUntil]
    split
    · rename_i fixed
      exact (Function.iterate_fixed fixed (fuel + 1)).symm
    · rw [ih, Function.iterate_succ_apply]

/-- A walk along few edges is matched after as many rounds: each node that it leaves for good takes an edge away. -/
theorem rounds_reach {edges : Table Edge} {a : Nat} (rounds : Nat) {part : Table Edge} (sub : part ⊆ edges)
    (few : part.length ≤ rounds) {n k : Nat} (h : Walk part n a k) :
    ∃ y ≤ k, Table.get ((relaxAll edges)^[rounds] [(a, 0)]) n = some y := by
  induction rounds generalizing part n k with
  | zero =>
    cases List.length_eq_zero_iff.mp (Nat.le_zero.mp few)
    cases h with
    | stay => exact ⟨0, Nat.le_refl 0, if_pos rfl⟩
    | along id e _ _ k mem => cases mem
  | succ rounds ih =>
    rw [Function.iterate_succ_apply']
    by_cases here : a = n
    · subst here
      obtain ⟨y, le, held⟩ := ih (part := []) (List.nil_subset edges) (Nat.zero_le _) (Walk.stay a)
      obtain ⟨z, le', held'⟩ := noWorse_relaxAll edges _ _ y held
      exact ⟨z, by omega, held'⟩
    · obtain ⟨id, e, l, mem, touches, away, le⟩ := walk_leaves h here
      have fewer := length_awayFrom mem touches
      obtain ⟨x, le', known⟩ := ih (fun r hr => sub (List.mem_filter.mp hr).1)
        (Nat.le_of_lt_succ (Nat.lt_of_lt_of_le fewer few)) away
      obtain ⟨y, le'', reached⟩ := relaxAll_reaches (sub mem) touches known
      exact ⟨y, by omega, reached⟩

/-- Every distance is the length of a walk. -/
def AllWalked (edges : Table Edge) (a : Nat) (d : Table Nat) : Prop := ∀ n x, Table.get d n = some x → Walk edges n a x

theorem AllWalked.offerFrom {edges : Table Edge} {a : Nat} {d : Table Nat} (h : AllWalked edges a d) {id v w : Nat}
    {e : Edge} (mem : (id, e) ∈ edges) (touches : e.hasEnd w = true) (across : e.other w = v) :
    AllWalked edges a (offerFrom d v w e.length) := by
  rw [Machine.offerFrom]
  split
  · exact h
  · rename_i x known
    intro n y held
    rw [get_offer] at held
    split at held
    · rename_i same
      subst same
      have walk : Walk edges n a (e.length + x) := .along id e n a x mem touches (across ▸ h v x known)
      rw [Nat.add_comm] at walk
      cases before : Table.get d n with
      | none =>
        rw [before] at held
        cases held
        exact walk
      | some z =>
        rw [before, Option.elim_some, Option.some.injEq] at held
        subst held
        rcases Nat.le_total (x + e.length) z with le | le
        · rwa [Nat.min_eq_left le]
        · rw [Nat.min_eq_right le]
          exact h n z before
    · exact h n y held

theorem AllWalked.relaxAll {edges : Table Edge} {a : Nat} (walked : Table Edge) (sub : walked ⊆ edges) {d : Table Nat}
    (h : AllWalked edges a d) : AllWalked edges a (relaxAll walked d) := by
  induction walked generalizing d with
  | nil => exact h
  | cons r walked ih =>
    have mem : (r.1, r.2) ∈ edges := sub List.mem_cons_self
    refine ih (fun q hq => sub (List.mem_cons_of_mem r hq)) ?_
    show AllWalked edges a (relaxEdge d r.2)
    rw [relaxEdge_eq]
    exact (h.offerFrom mem ((r.2.hasEnd_iff _).mpr (.inr rfl)) r.2.other_endB).offerFrom mem
      ((r.2.hasEnd_iff _).mpr (.inl rfl)) r.2.other_endA

theorem allWalked_rounds (edges : Table Edge) (a rounds : Nat) :
    AllWalked edges a ((relaxAll edges)^[rounds] [(a, 0)]) := by
  induction rounds with
  | zero =>
    intro n x held
    rw [Function.iterate_zero_apply, Table.get_cons] at held
    split at held
    · rename_i same
      cases held
      exact same ▸ Walk.stay a
    · cases held
  | succ rounds ih =>
    rw [Function.iterate_succ_apply']
    exact ih.relaxAll edges (List.Subset.refl edges)

/-- As many rounds as there are edges give the least lengths. -/
theorem get_relaxUntil (edges : Table Edge) (a n x : Nat) :
    Table.get (relaxUntil edges edges.length [(a, 0)]) n = some x ↔ LeastLength edges n a x := by
  rw [relaxUntil_eq]
  have walked := allWalked_rounds edges a edges.length
  have reached : ∀ k, Walk edges n a k →
      ∃ y ≤ k, Table.get ((relaxAll edges)^[edges.length] [(a, 0)]) n = some y := fun k h =>
    rounds_reach edges.length (List.Subset.refl edges) (Nat.le_refl _) h
  constructor
  · refine fun held => ⟨walked n x held, fun k h => ?_⟩
    obtain ⟨y, le, held'⟩ := reached k h
    cases held.symm.trans held'
    exact le
  · rintro ⟨walk, least⟩
    obtain ⟨y, le, held⟩ := reached x walk
    rw [held, Nat.le_antisymm le (least y (walked n y held))]

/-! ### The entries of a build -/

theorem wf_offerFrom {d : Table Nat} (h : Table.wf d = true) (v w len : Nat) :
    Table.wf (offerFrom d v w len) = true := by
  rw [offerFrom]
  split
  · exact h
  · rw [offer]
    split
    · exact Table.wf_put _ _ _ h
    · split
      · exact Table.wf_put _ _ _ h
      · exact h

theorem wf_relaxUntil (edges : Table Edge) (fuel : Nat) {d : Table Nat} (h : Table.wf d = true) :
    Table.wf (relaxUntil edges fuel d) = true := by
  rw [relaxUntil_eq]
  refine Function.Iterate.rec (Table.wf · = true) h (fun d h => ?_) fuel
  refine List.foldlRecOn edges (fun d r => relaxEdge d r.2) (motive := (Table.wf · = true)) h fun d h r _ => ?_
  show Table.wf (relaxEdge d r.2) = true
  rw [relaxEdge_eq]
  exact wf_offerFrom (wf_offerFrom h _ _ _) _ _ _

theorem get_filter {α : Type} {t : Table α} (h : Table.wf t = true) (p : Nat × α → Bool) (k : Nat) (v : α) :
    Table.get (t.filter p) k = some v ↔ Table.get t k = some v ∧ p (k, v) = true := by
  rw [Table.get_iff_mem _ (Table.wf_filter t p h), Table.get_iff_mem _ h, List.mem_filter]

theorem get_distances (edges : Table Edge) (a n x : Nat) :
    Table.get (distances edges a) n = some x ↔ LeastLength edges n a x ∧ x ≤ 65534 := by
  rw [distances, get_filter (wf_relaxUntil edges _ rfl), get_relaxUntil, decide_eq_true_iff,
    show Config.unreachable = 65535 from rfl, Nat.lt_succ_iff]

/-- What the entry of a node holds. -/
def entryOf (edges : Table Edge) (a n x : Nat) : MapEntry :=
  { next := if n = a then none else nextEdge edges (distances edges a) n x, dist := x }

theorem get_map_slot {α β : Type} (f : Nat → α → β) (t : Table α) (k : Nat) :
    Table.get (t.map fun r => (r.1, f r.1 r.2)) k = (Table.get t k).map (f k) := by
  induction t with
  | nil => rfl
  | cons r t ih =>
    rw [List.map_cons, Table.get_cons, ih, Table.get_cons]
    split
    · rename_i same
      rw [same]
      rfl
    · rfl

theorem get_buildEntries (edges : Table Edge) (a n : Nat) :
    Table.get (buildEntries edges a) n = (Table.get (distances edges a) n).map (entryOf edges a n) :=
  get_map_slot (entryOf edges a) (distances edges a) n

theorem dist_buildEntries (edges : Table Edge) (a n : Nat) :
    (Table.get (buildEntries edges a) n).map (·.dist) = Table.get (distances edges a) n := by
  rw [get_buildEntries, Option.map_map]
  exact Option.map_id'

/-- An edge begins a least-length path of a length: it leads to an entry that is nearer by its length. -/
def Begins (edges : Table Edge) (result : Table MapEntry) (n d id : Nat) : Prop :=
  ∃ x y, (id, x) ∈ edges ∧ x.hasEnd n = true ∧ Table.get result (x.other n) = some y ∧ y.dist + x.length = d

theorem begins_iff (edges : Table Edge) (a n d id : Nat) :
    Begins edges (buildEntries edges a) n d id ↔ ∃ x, (id, x) ∈ edges ∧
      (x.hasEnd n && decide ((Table.get (distances edges a) (x.other n)).map (· + x.length) = some d)) = true := by
  have there : ∀ x : Edge, (Table.get (distances edges a) (x.other n)).map (· + x.length) = some d ↔
      ∃ y, Table.get (buildEntries edges a) (x.other n) = some y ∧ y.dist + x.length = d := fun x => by
    rw [← dist_buildEntries, Option.map_map, Option.map_eq_some_iff]
    rfl
  refine ⟨fun ⟨x, y, mem, touches, held, sum⟩ => ⟨x, mem, ?_⟩, fun ⟨x, mem, begins⟩ => ?_⟩
  · rw [touches, Bool.true_and, decide_eq_true_iff, there]
    exact ⟨y, held, sum⟩
  · rw [Bool.and_eq_true, decide_eq_true_iff, there] at begins
    obtain ⟨touches, y, held, sum⟩ := begins
    exact ⟨x, y, mem, touches, held, sum⟩

/-- A least-length walk that has not arrived begins with an edge to a nearer node. -/
theorem exists_begins {edges : Table Edge} {a n d : Nat} (apart : n ≠ a) (least : LeastLength edges n a d)
    (near : d ≤ 65534) : ∃ id, Begins edges (buildEntries edges a) n d id := by
  obtain ⟨walk, minimal⟩ := least
  cases walk with
  | stay => exact absurd rfl apart
  | along id e _ _ k mem touches rest =>
    have restLeast : LeastLength edges (e.other n) a k :=
      ⟨rest, fun l other => by have := minimal _ (.along id e n a l mem touches other); omega⟩
    refine ⟨id, (begins_iff edges a n _ id).mpr ⟨e, mem, ?_⟩⟩
    rw [touches, (get_distances edges a _ k).mpr ⟨restLeast, by omega⟩]
    simp [Nat.add_comm]

/-- The next edge is the lowest-numbered one that begins a least-length path. -/
theorem nextEdge_lowest {edges : Table Edge} (sorted : Table.wf edges = true) {a n d : Nat}
    (begun : ∃ id, Begins edges (buildEntries edges a) n d id) :
    ∃ id, nextEdge edges (distances edges a) n d = some id ∧ Begins edges (buildEntries edges a) n d id ∧
      ∀ k, Begins edges (buildEntries edges a) n d k → id ≤ k := by
  simp only [begins_iff] at begun ⊢
  rw [nextEdge]
  cases found : edges.find? fun r => r.2.hasEnd n &&
      decide ((Table.get (distances edges a) (r.2.other n)).map (· + r.2.length) = some d) with
  | none =>
    obtain ⟨id, x, mem, begins⟩ := begun
    exact absurd begins (List.find?_eq_none.mp found _ mem)
  | some r =>
    obtain ⟨begins, before, after, split, skipped⟩ := List.find?_eq_some_iff_append.mp found
    refine ⟨r.1, rfl, ⟨r.2, by simp [split], begins⟩, fun k ⟨x, mem, begins'⟩ => ?_⟩
    rw [split, List.mem_append, List.mem_cons] at mem
    rcases mem with early | rfl | late
    · have := skipped _ early
      rw [begins'] at this
      cases this
    · exact Nat.le_refl _
    · rw [Table.wf_iff, split, List.map_append, List.map_cons, List.pairwise_append, List.pairwise_cons] at sorted
      exact Nat.le_of_lt (sorted.2.1.1 k (List.mem_map_of_mem late))

/-- A build of a map whose target has an anchor. -/
theorem buildResult_of_anchor {s : State} {m : MapName} {a : Nat} (anchor : s.anchorOf m.target = some a) :
    s.buildResult m = buildEntries (s.usableEdges m.profile) a := by
  rw [State.buildResult, anchor]

theorem wf_usableEdges {s : State} (sorted : Table.wf s.graph.edges = true) (p : Profile) :
    Table.wf (s.usableEdges p) = true := Table.wf_filter _ _ sorted

theorem mem_usableEdges {s : State} (sorted : Table.wf s.graph.edges = true) (p : Profile) (id : Nat) (e : Edge) :
    (id, e) ∈ s.usableEdges p ↔ s.edge id = some e ∧ s.usable p id = true := by
  rw [State.usableEdges, List.mem_filter, ← Table.get_iff_mem _ sorted]
  refine and_congr_right fun live => ?_
  rw [State.usable, show s.edge id = some e from live]

/-- An entry of a build: its distance and its next edge. -/
theorem entry_of_build {edges : Table Edge} (sorted : Table.wf edges = true) {a n : Nat} {e : MapEntry}
    (held : Table.get (buildEntries edges a) n = some e) :
    LeastLength edges n a e.dist ∧ e.dist ≤ 65534 ∧ (n = a → e.next = none) ∧
    (n ≠ a → ∃ id, e.next = some id ∧ Begins edges (buildEntries edges a) n e.dist id ∧
      ∀ k, Begins edges (buildEntries edges a) n e.dist k → id ≤ k) := by
  rw [get_buildEntries, Option.map_eq_some_iff] at held
  obtain ⟨x, held, rfl⟩ := held
  obtain ⟨least, near⟩ := (get_distances edges a n x).mp held
  refine ⟨least, near, fun here => if_pos here, fun apart => ?_⟩
  rw [entryOf, if_neg apart]
  exact nextEdge_lowest sorted (exists_begins apart least near)

/-- Settles O6: rounds of offers reach every walk and offer nothing else (`get_relaxUntil`), and the first edge of the
table that begins a least-length path is the lowest-numbered one (`nextEdge_lowest`). -/
theorem buildsFindLeastPaths : Obligations.BuildsFindLeastPaths := by
  intro s m a anchor sorted edges result begins
  have built : result = buildEntries edges a := buildResult_of_anchor anchor
  refine ⟨mem_usableEdges sorted m.profile, fun n d near => ?_, fun n e held => ?_⟩
  · rw [built, dist_buildEntries, get_distances, and_iff_left near]
  · have sorted' : Table.wf edges = true := wf_usableEdges sorted m.profile
    rw [built] at held
    obtain ⟨_, near, here, apart⟩ := entry_of_build sorted' held
    refine ⟨near, ?_⟩
    by_cases at_ : n = a
    · rw [if_pos at_]
      exact here at_
    · rw [if_neg at_]
      obtain ⟨id, next, first, lowest⟩ := apart at_
      rw [← built] at first lowest
      exact ⟨id, next, first, lowest⟩

/-- Settles O10: the codes of the flat directions and of the facings are turned against each other. -/
theorem arrowTable : Obligations.ArrowTable := by
  unfold Obligations.ArrowTable
  decide

end Sys2Proof.Machine
end

section
/-! Lookups by the map's state and entry (R37, R38), and traces along the next edges (R41). -/

namespace Sys2Proof.Machine

/-! ### Lookups -/

theorem lookup_of_current {s : State} {m : MapName} {r : RouteMap} (held : s.mapAt m = some r)
    (current : r.state = .current) (n : Nat) : s.lookup m n = s.lookupCurrent r n (s.anchorOf m.target) := by
  rw [State.lookup, held]
  dsimp only
  rw [current]

theorem lookup_of_old {s : State} {m : MapName} {r : RouteMap} (held : s.mapAt m = some r)
    (old : r.state = .stale ∨ r.state = .building) (n : Nat) :
    s.lookup m n = s.lookupOld r m.profile n (s.anchorOf m.target) := by
  rw [State.lookup, held]
  dsimp only
  rcases old with state | state <;> rw [state]

theorem lookup_of_empty {s : State} {m : MapName} {r : RouteMap} (held : s.mapAt m = some r)
    (empty : r.state = .empty) (n : Nat) : s.lookup m n = .bare .hold := by
  rw [State.lookup, held]
  dsimp only
  rw [empty]

/-- An entry still leads if its next edge is live, has the from-node as an end and is usable (R38). -/
theorem stillLeads_iff (s : State) (p : Profile) (n : Nat) (e : MapEntry) :
    s.stillLeads p n e = true ↔
      ∃ id x, e.next = some id ∧ s.edge id = some x ∧ x.hasEnd n = true ∧ s.usable p id = true := by
  rw [State.stillLeads]
  cases next : e.next with
  | none => simp
  | some id => cases live : s.edge id <;> simp [State.usable, live]

theorem lookupOld_leads {s : State} {r : RouteMap} {p : Profile} {n : Nat} {e : MapEntry}
    (entry : Table.get r.entries n = some e) (leads : s.stillLeads p n e = true) (anchor : Option Nat) :
    s.lookupOld r p n anchor = s.leadOn .provisional n e := by
  rw [State.lookupOld, entry]
  exact if_pos leads

theorem lookupOld_holds {s : State} {r : RouteMap} {p : Profile} {n : Nat}
    (lost : ∀ e, Table.get r.entries n = some e → s.stillLeads p n e = false) (anchor : Option Nat) :
    s.lookupOld r p n anchor = if anchor = some n then .atAnchor else .bare .hold := by
  rw [State.lookupOld]
  cases entry : Table.get r.entries n with
  | none => rfl
  | some e => exact if_neg (by simp [lost e entry])

/-! ### Traces -/

theorem follow_arrived (s : State) (entries : Table MapEntry) (a fuel : Nat) :
    s.follow entries a fuel a = ([], false) := by
  cases fuel with
  | zero => simp [State.follow]
  | succ fuel => exact if_pos rfl

theorem follow_spent {s : State} {entries : Table MapEntry} {a n : Nat} (apart : n ≠ a) :
    s.follow entries a 0 n = ([], true) := by simp [State.follow, apart]

theorem follow_along {s : State} {entries : Table MapEntry} {a n id : Nat} {x : Edge} (apart : n ≠ a) (fuel : Nat)
    (next : (Table.get entries n).bind (·.next) = some id) (live : s.edge id = some x) :
    s.follow entries a (fuel + 1) n =
      ((id, x.leaveAt n) :: (s.follow entries a fuel (x.other n)).1, (s.follow entries a fuel (x.other n)).2) := by
  rw [State.follow, if_neg apart, next]
  dsimp only
  rw [live]

/-- Without a live next edge a trace stops short. -/
theorem follow_stuck {s : State} {entries : Table MapEntry} {a n : Nat} (apart : n ≠ a) (fuel : Nat)
    (stuck : ∀ id x, (Table.get entries n).bind (·.next) = some id → s.edge id ≠ some x) :
    s.follow entries a (fuel + 1) n = ([], true) := by
  rw [State.follow, if_neg apart]
  cases next : (Table.get entries n).bind (·.next) with
  | none => rfl
  | some id =>
    dsimp only
    cases live : s.edge id with
    | none => rfl
    | some x => exact absurd live (stuck id x next)

/-- The nodes of a trace: each of its edges is the next edge of one and leads to the following one. -/
structure Traced (s : State) (entries : Table MapEntry) (a n : Nat) (tr : List (Nat × Direction) × Bool)
    (nodes : List Nat) : Prop where
  length : nodes.length = tr.1.length + 1
  first : nodes[0]? = some n
  edges : ∀ (k id : Nat) (d : Direction), tr.1[k]? = some (id, d) →
    ∃ (v w : Nat) (x : Edge), nodes[k]? = some v ∧ nodes[k + 1]? = some w ∧ s.edge id = some x ∧
      v ≠ a ∧ (Table.get entries v).bind (·.next) = some id ∧ d = x.leaveAt v ∧ w = x.other v
  arrived : tr.2 = false ↔ nodes[tr.1.length]? = some a

/-- A trace of no edge. -/
theorem traced_nil (s : State) (entries : Table MapEntry) {a n : Nat} {cut : Bool} (h : cut = false ↔ n = a) :
    Traced s entries a n ([], cut) [n] where
  length := rfl
  first := rfl
  edges k id d e := by cases e
  arrived := by rw [h]; exact (Option.some_inj (a := n) (b := a)).symm

theorem Traced.cons {s : State} {entries : Table MapEntry} {a n id : Nat} {x : Edge} {tr : List (Nat × Direction) × Bool}
    {nodes : List Nat} (h : Traced s entries a (x.other n) tr nodes) (apart : n ≠ a)
    (next : (Table.get entries n).bind (·.next) = some id) (live : s.edge id = some x) :
    Traced s entries a n ((id, x.leaveAt n) :: tr.1, tr.2) (n :: nodes) where
  length := congrArg (· + 1) h.length
  first := rfl
  edges k id' d e := by
    cases k with
    | zero =>
      cases e
      exact ⟨n, x.other n, x, rfl, h.first, live, apart, next, rfl, rfl⟩
    | succ k => exact h.edges k id' d e
  arrived := h.arrived

theorem follow_traced (s : State) (entries : Table MapEntry) (a fuel n : Nat) :
    (s.follow entries a fuel n).1.length ≤ fuel ∧ ∃ nodes, Traced s entries a n (s.follow entries a fuel n) nodes := by
  induction fuel generalizing n with
  | zero =>
    by_cases here : n = a
    · rw [here, follow_arrived]
      exact ⟨Nat.le_refl 0, _, traced_nil s entries (iff_of_true rfl rfl)⟩
    · rw [follow_spent here]
      exact ⟨Nat.le_refl 0, _, traced_nil s entries (iff_of_false Bool.noConfusion here)⟩
  | succ fuel ih =>
    by_cases here : n = a
    · rw [here, follow_arrived]
      exact ⟨Nat.zero_le _, _, traced_nil s entries (iff_of_true rfl rfl)⟩
    · by_cases leads : ∃ id x, (Table.get entries n).bind (·.next) = some id ∧ s.edge id = some x
      · obtain ⟨id, x, next, live⟩ := leads
        obtain ⟨short, nodes, traced⟩ := ih (x.other n)
        rw [follow_along here fuel next live]
        exact ⟨Nat.succ_le_succ short, _, traced.cons here next live⟩
      · rw [follow_stuck here fuel fun id x next live => leads ⟨id, x, next, live⟩]
        exact ⟨Nat.zero_le _, _, traced_nil s entries (iff_of_false Bool.noConfusion here)⟩

/-- The length of the edges of a trace. -/
def State.traceLength (s : State) (tr : List (Nat × Direction)) : Nat :=
  (tr.map fun e => ((s.edge e.1).map (·.length)).getD 0).sum

/-- The distance of the anchor is 0. -/
theorem dist_of_anchor {edges : Table Edge} {a : Nat} {e : MapEntry}
    (held : Table.get (buildEntries edges a) a = some e) : e.dist = 0 := by
  rw [get_buildEntries, Option.map_eq_some_iff] at held
  obtain ⟨x, held, rfl⟩ := held
  obtain ⟨⟨_, least⟩, _⟩ := (get_distances edges a a x).mp held
  exact Nat.le_zero.mp (least 0 (.stay a))

/-- By the entries of a build a trace ends at the anchor or for want of fuel, and is as long as the distance. -/
theorem follow_of_build {s : State} (sorted : Table.wf s.graph.edges = true) (p : Profile) {a : Nat} (fuel : Nat) {n : Nat}
    {e : MapEntry} (held : Table.get (buildEntries (s.usableEdges p) a) n = some e) :
    let tr := s.follow (buildEntries (s.usableEdges p) a) a fuel n
    (tr.2 = true → tr.1.length = fuel) ∧ (tr.2 = false → s.traceLength tr.1 = e.dist) := by
  intro tr
  by_cases here : n = a
  · subst here
    have arrived : tr = ([], false) := follow_arrived s _ n fuel
    rw [arrived]
    exact ⟨Bool.noConfusion, fun _ => (dist_of_anchor held).symm⟩
  induction fuel generalizing n e with
  | zero =>
    have spent : tr = ([], true) := follow_spent here
    rw [spent]
    exact ⟨fun _ => rfl, Bool.noConfusion⟩
  | succ fuel ih =>
    obtain ⟨_, _, _, leads⟩ := entry_of_build (wf_usableEdges sorted p) held
    obtain ⟨id, next, ⟨x, y, mem, _, near, sum⟩, _⟩ := leads here
    obtain ⟨live, _⟩ := (mem_usableEdges sorted p id x).mp mem
    have along : tr = _ := follow_along here fuel (by rw [held]; exact next) live
    have length : ∀ l, s.traceLength ((id, x.leaveAt n) :: l) = x.length + s.traceLength l := fun l => by
      simp [State.traceLength, live]
    rw [along]
    dsimp only
    rw [length]
    by_cases there : x.other n = a
    · rw [there] at near ⊢
      rw [follow_arrived]
      have none := dist_of_anchor near
      exact ⟨Bool.noConfusion, fun _ => by simp [State.traceLength]; omega⟩
    · obtain ⟨cut, whole⟩ := ih near there
      exact ⟨fun e => congrArg (· + 1) (cut e), fun e => by rw [whole e]; omega⟩

theorem traceOf_unasked (s : State) (m : MapName) (n : Nat) : s.traceOf m n false = ([], false) := by
  rw [State.traceOf]
  split
  · rfl
  · rfl

theorem traceOf_asked {s : State} {m : MapName} {r : RouteMap} {a : Nat} (held : s.mapAt m = some r)
    (anchor : s.anchorOf m.target = some a) (n : Nat) :
    s.traceOf m n true =
      if r.state = .current ∧ (s.lookup m n).kind = .route then s.follow r.entries a 64 n else ([], false) := by
  rw [State.traceOf, held, anchor]
  simp [Config.maxTrace]

/-- A ROUTE answer gives the distance of the map's entry. -/
theorem route_of_current {s : State} {m : MapName} {r : RouteMap} (held : s.mapAt m = some r)
    (current : r.state = .current) {n : Nat} (route : (s.lookup m n).kind = .route) :
    ∃ e, Table.get r.entries n = some e ∧ (s.lookup m n).dist = e.dist := by
  rw [lookup_of_current held current, State.lookupCurrent] at route ⊢
  split at route
  · cases route
  · rename_i away
    rw [if_neg away]
    cases entry : Table.get r.entries n with
    | none =>
      rw [entry] at route
      cases route
    | some e => exact ⟨e, rfl, rfl⟩

/-- Settles O8: a lookup by the map's state; a trace as the path of its nodes (`follow_traced`), which the entries of a
build lead along least lengths to the anchor (`follow_of_build`). -/
theorem lookupsAndTraces : Obligations.LookupsAndTraces := by
  refine ⟨fun s m r n held => ⟨fun current => ?_, fun old => ⟨?_, ?_⟩, (lookup_of_empty held · n)⟩,
    fun s m r a n held anchor => ⟨fun current route => ?_, fun current route tables _ contents => ?_, fun other => ?_,
      traceOf_unasked s m n⟩⟩
  · rw [lookup_of_current held current]
    rfl
  · intro e id x entry next live touches usable
    rw [lookup_of_old held old, lookupOld_leads entry ((stillLeads_iff s _ n e).mpr ⟨id, x, next, live, touches, usable⟩)]
    simp [State.leadOn, next, live, Edge.leaveAt]
  · intro lost
    rw [lookup_of_old held old, lookupOld_holds fun e entry => ?_]
    · rfl
    · rw [← Bool.not_eq_true, stillLeads_iff]
      exact fun ⟨id, x, leads⟩ => lost ⟨e, id, x, entry, leads⟩
  · rw [traceOf_asked held anchor, if_pos ⟨current, route⟩]
    obtain ⟨short, nodes, traced⟩ := follow_traced s r.entries a 64 n
    exact ⟨short, nodes, traced.length, traced.first, traced.edges, traced.arrived⟩
  · obtain ⟨_, ⟨sorted, _⟩, _⟩ := tables
    obtain ⟨e, entry, dist⟩ := route_of_current held current route
    have built : r.entries = buildEntries (s.usableEdges m.profile) a :=
      (contents m r held current).trans (buildResult_of_anchor anchor)
    rw [traceOf_asked held anchor, if_pos ⟨current, route⟩, dist, built]
    exact follow_of_build sorted m.profile 64 (built ▸ entry)
  · rw [traceOf_asked held anchor, if_neg other]

end Sys2Proof.Machine
end

section
/-! ROUTE_ASK: its checks in order, the place of a map in the rebuild work, and the body of the answer (R40, R43). -/

namespace Sys2Proof.Machine

/-! ### The 1-based position in a list -/

theorem position_of_not_mem {α : Type} [DecidableEq α] {x : α} {l : List α} (out : x ∉ l) : position x l = 0 := by
  induction l with
  | nil => rfl
  | cons y l ih =>
    rw [List.mem_cons, not_or] at out
    rw [position, if_neg out.1, ih out.2]

theorem position_of_split {α : Type} [DecidableEq α] {x : α} {pre : List α} (post : List α) (out : x ∉ pre) :
    position x (pre ++ x :: post) = pre.length + 1 := by
  induction pre with
  | nil => exact if_pos rfl
  | cons y pre ih =>
    rw [List.mem_cons, not_or] at out
    rw [List.cons_append, position, if_neg out.1, ih out.2]
    rfl

/-! ### The place of a map in the rebuild work -/

theorem mapPlace_of_building {s : State} {m : MapName}
    (building : (s.route.build.any fun b => decide (b.map = m)) = true) :
    s.mapPlace m = [2#8, Config.freeByte s.fresh 2, Config.freeByte s.fresh 3] := if_pos building

theorem mapPlace_of_urgent {s : State} {m : MapName}
    (idle : (s.route.build.any fun b => decide (b.map = m)) = false) {pre post : List MapName}
    (queue : s.route.urgent = pre ++ m :: post) (first : m ∉ pre) :
    s.mapPlace m = [1#8, 0#8] ++ u8 (pre.length + 1) := by
  rw [State.mapPlace, if_neg (Bool.eq_false_iff.mp idle), queue, position_of_split post first]
  rfl

theorem mapPlace_of_ordinary {s : State} {m : MapName}
    (idle : (s.route.build.any fun b => decide (b.map = m)) = false) (out : m ∉ s.route.urgent)
    {pre post : List MapName} (queue : s.route.ordinary = pre ++ m :: post) (first : m ∉ pre) :
    s.mapPlace m = [1#8, 1#8] ++ u8 (pre.length + 1) := by
  rw [State.mapPlace, if_neg (Bool.eq_false_iff.mp idle), position_of_not_mem out, queue, position_of_split post first]
  rfl

theorem mapPlace_of_unqueued {s : State} {m : MapName}
    (idle : (s.route.build.any fun b => decide (b.map = m)) = false) (out : m ∉ s.rebuildQueue) :
    s.mapPlace m = [0#8, Config.freeByte s.fresh 2, Config.freeByte s.fresh 3] := by
  rw [State.rebuildQueue, List.mem_append, not_or] at out
  rw [State.mapPlace, if_neg (Bool.eq_false_iff.mp idle), position_of_not_mem out.1, position_of_not_mem out.2]

theorem length_mapPlace (s : State) (m : MapName) : (s.mapPlace m).length = 3 := by
  rw [State.mapPlace]
  split
  · rfl
  · split <;> rfl

/-! ### The answer's arrow (R43) -/

theorem arrow_of_leading {a : RouteAnswer} (leads : a.kind = .route ∨ a.kind = .provisional) (f : Facing) :
    a.arrow f = a.leave.map fun d => d.arrow f := by
  rw [RouteAnswer.arrow]
  rcases leads with kind | kind <;> rw [kind]

theorem arrow_of_here {a : RouteAnswer} (here : a.kind = .here) (f : Facing) : a.arrow f = some .here := by
  rw [RouteAnswer.arrow, here]

theorem arrow_of_silent {a : RouteAnswer} (silent : a.kind = .noRoute ∨ a.kind = .hold) (f : Facing) :
    a.arrow f = none := by
  rw [RouteAnswer.arrow]
  rcases silent with kind | kind <;> rw [kind]

/-! ### The checks (R40) -/

/-- Every field of a ROUTE_ASK is in its range. -/
def RouteAskBody.Fits (b : RouteAskBody) : Prop :=
  b.origin ≤ 1023 ∧ b.target ≤ 63 ∧ b.profile ≤ 1 ∧ b.trace ≤ 1 ∧
  (b.facing = 0 ∨ b.facing = 2 ∨ b.facing = 4 ∨ b.facing = 6 ∨ b.facing = 255)

/-- The map that a ROUTE_ASK names. -/
def RouteAskBody.map (b : RouteAskBody) : MapName :=
  { target := b.target, profile := if b.profile = 0 then .general else .stepFree }

theorem profile_ofCode (n : Nat) :
    Profile.ofCode n = if n ≤ 1 then some (if n = 0 then .general else .stepFree) else none := by
  match n with
  | 0 => rfl
  | 1 => rfl
  | n + 2 => exact (if_neg (by omega)).symm

theorem facingOfRaw_of_fits {n : Nat} (fits : n = 0 ∨ n = 2 ∨ n = 4 ∨ n = 6 ∨ n = 255) :
    facingOfRaw n = some (Facing.ofCode n) := by
  rcases fits with rfl | rfl | rfl | rfl | rfl <;> rfl

theorem facingOfRaw_eq_none {n : Nat} (out : ¬(n = 0 ∨ n = 2 ∨ n = 4 ∨ n = 6 ∨ n = 255)) : facingOfRaw n = none := by
  simp only [not_or] at out
  obtain ⟨fore, starboard, aft, port, absent⟩ := out
  have none : Facing.ofCode n = none := by
    unfold Facing.ofCode
    split
    · exact absurd rfl fore
    · exact absurd rfl starboard
    · exact absurd rfl aft
    · exact absurd rfl port
    · rfl
  rw [facingOfRaw, if_neg absent, none]
  rfl

theorem routeAsk_refused {b : RouteAskBody} (out : ¬b.Fits) (s : State) : routeAsk b s = .refuse .badField := by
  rw [routeAsk]
  split
  · rename_i p f profile facing
    refine if_pos ?_
    rw [show Config.nodeSlots = 1024 from rfl, show Config.targetSlots = 64 from rfl]
    rw [profile_ofCode] at profile
    have low : b.profile ≤ 1 := by
      by_contra high
      rw [if_neg high] at profile
      cases profile
    have given : b.facing = 0 ∨ b.facing = 2 ∨ b.facing = 4 ∨ b.facing = 6 ∨ b.facing = 255 := by
      by_contra other
      rw [facingOfRaw_eq_none other] at facing
      cases facing
    rw [RouteAskBody.Fits] at out
    omega
  · rfl

theorem routeAsk_of_fits {b : RouteAskBody} (fits : b.Fits) (s : State) :
    routeAsk b s =
      if (s.targetAt b.target).isNone then .because .notFound .target
      else if (s.node b.origin).isNone then .because .notFound .node
      else .done (s.routeBytes b.map b.origin (b.trace = 1) (Facing.ofCode b.facing)) := by
  obtain ⟨origin, target, profile, trace, facing⟩ := fits
  rw [routeAsk, profile_ofCode, if_pos profile, facingOfRaw_of_fits facing]
  refine if_neg ?_
  rw [show Config.nodeSlots = 1024 from rfl, show Config.targetSlots = 64 from rfl]
  omega

theorem not_isNone {α : Type} {o : Option α} (live : o.isSome = true) : ¬o.isNone = true := by
  rw [Option.isNone_iff_eq_none]
  exact Option.isSome_iff_ne_none.mp live

theorem routeAsk_without_target {b : RouteAskBody} (fits : b.Fits) {s : State} (free : s.targetAt b.target = none) :
    routeAsk b s = .because .notFound .target := by
  rw [routeAsk_of_fits fits, if_pos (Option.isNone_iff_eq_none.mpr free)]

theorem routeAsk_without_node {b : RouteAskBody} (fits : b.Fits) {s : State} (live : (s.targetAt b.target).isSome)
    (free : s.node b.origin = none) : routeAsk b s = .because .notFound .node := by
  rw [routeAsk_of_fits fits, if_neg (not_isNone live), if_pos (Option.isNone_iff_eq_none.mpr free)]

theorem routeAsk_answers {b : RouteAskBody} (fits : b.Fits) {s : State} (live : (s.targetAt b.target).isSome)
    (there : (s.node b.origin).isSome) :
    routeAsk b s = .done (s.routeBytes b.map b.origin (b.trace = 1) (Facing.ofCode b.facing)) := by
  rw [routeAsk_of_fits fits, if_neg (not_isNone live), if_neg (not_isNone there)]

/-! ### What the answer reads -/

theorem follow_beginRequest (s : State) : s.beginRequest.follow = s.follow := by
  funext entries a fuel n
  induction fuel generalizing n with
  | zero => rfl
  | succ fuel ih => simp only [State.follow, beginRequest_edge, ih]

theorem lookup_beginRequest (s : State) : s.beginRequest.lookup = s.lookup := rfl

theorem traceOf_beginRequest (s : State) : s.beginRequest.traceOf = s.traceOf := by
  funext m n asked
  rw [State.traceOf, State.traceOf, follow_beginRequest, lookup_beginRequest]
  rfl

theorem execRouteAsk_eq (s : State) (tag : Byte) (body : List Byte) {b : RouteAskBody}
    (parsed : parseRouteAsk body = some b) :
    exec (.routeAsk tag body) s =
      .next (s.answering s tag (routeAsk b s.beginRequest).result (routeAsk b s.beginRequest).body) := by
  show Host.Outcome.next (serve tag (parseRouteAsk body) false (reading routeAsk) s) = _
  rw [parsed, serve_reading]

theorem presence_absent (fresh pos : Nat) :
    (presence fresh pos none).length = 3 ∧ (presence fresh pos none).head? = some 0#8 := ⟨rfl, rfl⟩

/-- Settles O9: a ROUTE_ASK in range is answered by the lookup and the trace (`routeAsk_of_fits`), with the map's place
read off its position in the queue. -/
theorem routeAskAnswersTheLookup : Obligations.RouteAskAnswersTheLookup := by
  refine ⟨fun a f => ⟨(arrow_of_leading · f), (arrow_of_here · f), (arrow_of_silent · f)⟩,
    fun s tag f1 f0 t p trace facing => ?_⟩
  intro origin i inRange
  let b : RouteAskBody :=
    { origin, target := t.toNat, profile := p.toNat, trace := trace.toNat, facing := facing.toNat }
  have ranges : inRange ↔ b.Fits := by
    simp [inRange, RouteAskBody.Fits, b, ← BitVec.toNat_inj]
  have asked : exec i s = .next (s.answering s tag (routeAsk b s.beginRequest).result
      (routeAsk b s.beginRequest).body) := execRouteAsk_eq s tag _ rfl
  rw [ranges, asked]
  refine ⟨fun out => ?_, fun fits free => ?_, fun fits live free => ?_, fun fits live there => ?_⟩
  · rw [routeAsk_refused out]
    rfl
  · rw [routeAsk_without_target fits (s := s.beginRequest) free]
    rfl
  · rw [routeAsk_without_node fits (s := s.beginRequest) live free]
    rfl
  · intro m a
    have map : b.map = m := by
      simp only [RouteAskBody.map, b, m, ← BitVec.toNat_inj]
      rfl
    have trace' : decide (b.trace = 1) = decide (trace = 1#8) := by
      simp only [b, ← BitVec.toNat_inj]
      rfl
    refine ⟨s.beginRequest.mapPlace m, presence s.fresh 0 ((s.mapAt m).bind (·.builtGen)), ?_, fun g built => ?_,
      fun built => ?_, length_mapPlace _ m, fun building => ?_, fun pre post idle queue first =>
        mapPlace_of_urgent (s := s.beginRequest) idle queue first, fun pre post idle out queue first =>
        mapPlace_of_ordinary (s := s.beginRequest) idle out queue first, fun idle out => ?_⟩
    · rw [routeAsk_answers fits (s := s.beginRequest) live there, map, trace', Reply.done,
        State.routeBytes, traceOf_beginRequest, lookup_beginRequest]
      rfl
    · rw [built]
      rfl
    · rw [built]
      exact presence_absent s.fresh 0
    · rw [mapPlace_of_building (s := s.beginRequest) building]
      rfl
    · rw [mapPlace_of_unqueued (s := s.beginRequest) idle out]
      rfl

end Sys2Proof.Machine
end

section
/-! BUILD_COMPLETION: the built map, the marks, the next build and the notice (R34, R36). -/

namespace Sys2Proof.Machine

/-! ### The slots that a completed map marks (R143) -/

theorem profile_eq_iff (x : Screen) (p : Profile) : x.profile = p ↔ (x.stepFree = true ↔ p = .stepFree) := by
  rw [Screen.profile]
  cases x.stepFree <;> cases p <;> simp

theorem namedVenue_iff (s : State) (t : Nat) :
    s.namedVenue t = true ↔ (∃ v, s.targetAt t = some v ∧ v.station = none) ∧ ∃ r ∈ s.programme.entries, r.2.venue = t := by
  simp [State.namedVenue, Option.any_eq_true]

theorem mapCauses_iff (s : State) (m : MapName) (n : Nat) (x : Screen) (k : SlotKind) :
    s.mapCauses m n x k = true ↔
      (k = .route ∧ m.target ∈ x.shown ∧ x.profile = m.profile) ∨
      (k = .programme ∧ x.profile = m.profile ∧ s.namedVenue m.target = true ∧ s.passes x m.target = true) ∨
      (k = .muster ∧ s.isStation m.target = true) := by
  simp only [State.mapCauses, routesShowing, Bool.or_eq_true, Bool.and_eq_true, decide_eq_true_eq, and_assoc, or_assoc]

/-! ### The next build -/

theorem mapAt_startBuild_of_idle {v : State} (idle : v.route.build = none) (n : MapName) :
    v.startBuild.mapAt n =
      (v.mapAt n).map fun r => if v.rebuildQueue.head? = some n then { r with state := .building } else r := by
  cases queue : v.rebuildQueue with
  | nil =>
    rw [startBuild_empty idle queue]
    exact Option.map_id'.symm
  | cons m ms =>
    obtain ⟨_, _, maps⟩ := startBuild_takes idle queue
    have moved : v.startBuild.mapAt n = (v.modMap m fun r => { r with state := .building }).mapAt n := mapAt_of_maps maps n
    rw [moved, mapAt_modMap]
    simp only [List.head?_cons, Option.some.injEq, eq_comm (a := m)]

theorem queue_startBuild_of_idle {v : State} (idle : v.route.build = none) :
    v.startBuild.rebuildQueue = v.rebuildQueue.tail := by
  cases queue : v.rebuildQueue with
  | nil => rw [startBuild_empty idle queue, queue]; rfl
  | cons m ms => exact (startBuild_takes idle queue).1

/-- After an idle engine has taken what waits, it is settled exactly if nothing waited. -/
theorem settled_startBuild_of_idle {v : State} (idle : v.route.build = none) :
    v.startBuild.settled = decide (v.rebuildQueue = []) := by
  cases queue : v.rebuildQueue with
  | nil =>
    obtain ⟨urgent, ordinary⟩ := List.append_eq_nil_iff.mp queue
    rw [startBuild_empty idle queue]
    simp [State.settled, idle, urgent, ordinary]
  | cons m ms =>
    obtain ⟨_, build, _⟩ := startBuild_takes idle queue
    simp [State.settled, build]

/-! ### The completion -/

/-- The engine once a map has been built and the build record is idle. -/
def State.withBuilt (s : State) (b : Build) : State :=
  (s.modMap b.map fun r => r.built (s.buildResult b.map) b.gen).grounded

theorem mapAt_withBuilt (s : State) (b : Build) (n : MapName) :
    (s.withBuilt b).mapAt n =
      if n = b.map then (s.mapAt n).map fun r => r.built (s.buildResult b.map) b.gen else s.mapAt n := by
  have moved : (s.withBuilt b).mapAt n = (s.modMap b.map fun r => r.built (s.buildResult b.map) b.gen).mapAt n := rfl
  rw [moved, mapAt_modMap]
  split
  · rfl
  · exact Option.map_id'

/-- The map of the build record is live and does not wait. -/
theorem building_not_queued {s : State} (inv : RouteInv s) {b : Build} (flying : s.route.build = some b) :
    (s.mapAt b.map).isSome ∧ b.map ∉ s.rebuildQueue := by
  obtain ⟨_, _, _, waiting, _, building, live, _⟩ := inv
  refine ⟨(live b flying).1, fun waits => ?_⟩
  obtain ⟨r, held, state⟩ := (waiting _).mp waits
  have now := (building _ r held).mpr ⟨b.gen, flying⟩
  rw [now] at state
  exact state.elim MapState.noConfusion MapState.noConfusion

/-- The state of a completion before the notice. -/
def State.buildTaken (s : State) (b : Build) : State := ((s.withBuilt b).mark (s.mapCauses b.map)).startBuild

theorem completeBuild_notice (s : State) (b : Build) :
    s.completeBuild b =
      if (s.buildTaken b).settled then (s.buildTaken b).raiseNotice .mapsSettled else s.buildTaken b := rfl

/-- The Route Engine of a completion, once its marks are made. -/
theorem marked_route (s : State) (b : Build) :
    ((s.withBuilt b).mark (s.mapCauses b.map)).route = (s.withBuilt b).route := by simp

theorem marked_idle (s : State) (b : Build) : ((s.withBuilt b).mark (s.mapCauses b.map)).route.build = none := by
  rw [marked_route]
  rfl

theorem marked_queue (s : State) (b : Build) :
    ((s.withBuilt b).mark (s.mapCauses b.map)).rebuildQueue = s.rebuildQueue := by
  rw [State.rebuildQueue, marked_route]
  rfl

theorem buildTaken_frame (s : State) (b : Build) :
    s.buildTaken b = { s with route := (s.buildTaken b).route, screen := (s.buildTaken b).screen } := by
  refine eq_of_blocks ?_ rfl ?_ ?_ ?_ ?_ rfl ?_ ?_ ?_ ?_ <;> simp [State.buildTaken] <;> rfl

theorem buildTaken_route (s : State) (b : Build) :
    (s.buildTaken b).route.build = s.rebuildQueue.head?.map (fun m => { map := m, gen := s.genOf m.profile }) ∧
    (s.buildTaken b).route.urgent = s.route.urgent.tail ∧
    (s.buildTaken b).route.ordinary = (if s.route.urgent = [] then s.route.ordinary.tail else s.route.ordinary) := by
  have taken := startBuild_idle (marked_idle s b)
  have gens : ((s.withBuilt b).mark (s.mapCauses b.map)).genOf = s.genOf := genOf_of_graph (by simp; rfl)
  rw [marked_route, gens] at taken
  exact taken

theorem buildTaken_marks {s : State} (sorted : Table.wf s.screen.screens = true) (b : Build) :
    MarkedBy s (s.buildTaken b) (s.mapCauses b.map) :=
  (mark_marks (s.withBuilt b) (s.mapCauses b.map) sorted).of_screen rfl (by simp [State.buildTaken])

theorem mapAt_buildTaken {s : State} (inv : RouteInv s) {b : Build} (flying : s.route.build = some b) (m : MapName) :
    (s.buildTaken b).mapAt m =
      if m = b.map then some { state := .current, contentHeld := true, builtGen := some b.gen,
                               entries := s.buildResult b.map }
      else (s.mapAt m).map fun r => if s.rebuildQueue.head? = some m then { r with state := .building } else r := by
  rw [State.buildTaken, mapAt_startBuild_of_idle (marked_idle s b), marked_queue, mapAt_of_route (marked_route s b),
    mapAt_withBuilt]
  by_cases same : m = b.map
  · subst same
    obtain ⟨live, out⟩ := building_not_queued inv flying
    obtain ⟨r, held⟩ := Option.isSome_iff_exists.mp live
    have later : s.rebuildQueue.head? ≠ some b.map := fun first => out (List.mem_of_head? first)
    rw [if_pos rfl, if_pos rfl, held, Option.map_some, Option.map_some, if_neg later]
    rfl
  · rw [if_neg same, if_neg same]

/-- Settles O7: the engine with the built map and an idle record (`State.withBuilt`) marks, takes the head of the queue
(`startBuild_takes`), and is settled if the queue was empty. -/
theorem buildCompletionMakesTheMapCurrent : Obligations.BuildCompletionMakesTheMapCurrent := by
  refine ⟨fun s m n x k => ?_, fun s b inv sorted flying => ⟨s.completeBuild b, ?_, ?_⟩⟩
  · rw [mapCauses_iff, namedVenue_iff, profile_eq_iff, and_assoc]
    rfl
  · show execBuildCompletion s = _
    rw [execBuildCompletion, flying]
  · obtain ⟨build, urgent, ordinary⟩ := buildTaken_route s b
    have settled : (s.buildTaken b).settled = decide (s.rebuildQueue = []) :=
      (settled_startBuild_of_idle (marked_idle s b)).trans (by rw [marked_queue])
    have queue : (s.buildTaken b).rebuildQueue = s.rebuildQueue.tail :=
      (queue_startBuild_of_idle (marked_idle s b)).trans (by rw [marked_queue])
    have port : (s.buildTaken b).port = s.port := by rw [buildTaken_frame]
    have marks := buildTaken_marks sorted b
    have maps := mapAt_buildTaken inv flying
    rw [completeBuild_notice, settled]
    by_cases empty : s.rebuildQueue = []
    · rw [if_pos (decide_eq_true empty), if_pos empty]
      refine ⟨maps, queue, urgent, ordinary, build, marks, ?_, ?_⟩
      · rw [buildTaken_frame]
        rfl
      · show (s.buildTaken b).port.events ||| _ = _
        rw [port]
    · rw [if_neg (by simpa using empty), if_neg empty]
      refine ⟨maps, queue, urgent, ordinary, build, marks, ?_, by rw [port]⟩
      rw [port]
      exact buildTaken_frame s b

end Sys2Proof.Machine
end

section
/-! TARGET_RETIRE and TARGET_GET: their checks, and what a retirement does to the maps, the queue and the engine
(R33, R36, R48, R49). -/

namespace Sys2Proof.Machine

/-! ### Requests that may raise a notice -/

/-- The state with the Service Port of another, the event notices apart. -/
def State.withEventsOf (u s : State) : State := { u with port := { s.port with events := u.port.events } }

/-- What an owner makes of a request that may raise a notice, seen from the state before the request. -/
theorem serve_noticed {α : Type} (tag : Byte) (b : α) (op : Owner α) (s : State) {u : State} {r : Reply}
    (ready : s.loading = false) (made : op b s.beginRequest = (u, r))
    (port : u.port = { s.beginRequest.port with events := u.port.events }) (fresh : u.fresh = s.fresh) :
    serve tag (some b) true op s = s.answering (u.withEventsOf s) tag r.result r.body := by
  rw [serve_changed tag b true op s (by simp [ready]) (by rw [made, port]; rfl) (by rw [made, fresh]), made]
  simp only [State.answering, State.withEventsOf]
  rw [port]
  rfl

/-- A changing request that its owner refuses. -/
theorem serve_refused {α : Type} (tag : Byte) (b : α) (op : Owner α) (s : State) (r : Reply) (ready : s.loading = false)
    (refused : op b s.beginRequest = (s.beginRequest, r)) :
    serve tag (some b) true op s = s.answering s tag r.result r.body :=
  serve_same tag b true op s r (by simp [ready]) refused

/-! What is read of the records is the same before the request is taken and after its answer is placed. -/

theorem effective_beginRequest (s : State) : s.beginRequest.effective = s.effective := rfl

theorem effective_withEventsOf (u s : State) : (u.withEventsOf s).effective = u.effective := rfl

theorem MarkedBy.of_request {s u : State} {p : Causes} (h : MarkedBy s.beginRequest u p) :
    MarkedBy s (u.withEventsOf s) p := h.of_screen rfl rfl

theorem FacesRaised.of_request {s u : State} {raised : Nat → Cabin → Bool} (h : FacesRaised s.beginRequest u raised) :
    FacesRaised s (u.withEventsOf s) raised := h

theorem TargetInv.withEventsOf {u : State} (h : TargetInv u) (s : State) : TargetInv (u.withEventsOf s) := h

/-! ### Ids of targets -/

theorem targetSlots_le {k : Nat} (out : 63 < k) : Config.targetSlots ≤ k := out

theorem not_targetSlots_le {k : Nat} (within : k ≤ 63) : ¬Config.targetSlots ≤ k :=
  Nat.not_le.mpr (Nat.lt_succ_of_le within)

/-! ### Both maps of a target -/

theorem mapsOf_eq (t : Nat) :
    mapsOf t = [{ target := t, profile := .general }, { target := t, profile := .stepFree }] := rfl

/-- A map is not one of the two of another target. -/
theorem ne_both_iff (m : MapName) (t : Nat) :
    (m ≠ { target := t, profile := .general } ∧ m ≠ { target := t, profile := .stepFree }) ↔ m.target ≠ t := by
  obtain ⟨k, p⟩ := m
  cases p <;> simp

/-! ### Maps that become free (R33) -/

/-- The Route Engine without the maps of a target. -/
theorem freeMaps_route (u : State) (t : Nat) :
    (u.freeMaps t).route.urgent = u.route.urgent.filter (fun m => decide (m.target ≠ t)) ∧
    (u.freeMaps t).route.ordinary = u.route.ordinary.filter (fun m => decide (m.target ≠ t)) ∧
    (u.freeMaps t).route.build = u.route.build.filter fun b => decide (b.map.target ≠ t) := by
  have route : (u.freeMaps t).route =
      ((u.freeMap { target := t, profile := .general }).freeMap { target := t, profile := .stepFree }).route := by
    show (if _ then _ else _ : State).route = _
    split <;> rfl
  have both : ∀ l : List MapName, (l.filter fun x => decide (x ≠ { target := t, profile := .general })).filter
      (fun x => decide (x ≠ { target := t, profile := .stepFree })) = l.filter fun m => decide (m.target ≠ t) :=
    fun l => by
      rw [List.filter_filter]
      refine List.filter_congr fun m _ => ?_
      rw [← Bool.decide_and, decide_eq_decide, and_comm]
      exact ne_both_iff m t
  rw [route]
  refine ⟨both _, both _, ?_⟩
  rw [freeMap_build, freeMap_build]
  cases u.route.build with
  | none => rfl
  | some b =>
    obtain ⟨⟨k, p⟩, g⟩ := b
    by_cases e : k = t
    · cases p <;> simp [e, Option.filter]
    · simp [e, Option.filter]

theorem mapAt_freeMaps (u : State) (t : Nat) (m : MapName) :
    (u.freeMaps t).mapAt m = if m.target = t then none else u.mapAt m := by
  have general := oneMoves_freeMap u { target := t, profile := .general }
  have stepFree := oneMoves_freeMap (u.freeMap { target := t, profile := .general }) { target := t, profile := .stepFree }
  have maps : (u.freeMaps t).route.maps =
      ((u.freeMap { target := t, profile := .general }).freeMap { target := t, profile := .stepFree }).route.maps := by
    show (if _ then _ else _ : State).route.maps = _
    split <;> rfl
  rw [mapAt_of_maps maps, stepFree.mapAt, general.mapAt]
  obtain ⟨k, p⟩ := m
  by_cases e : k = t
  · cases p <;> simp [e]
  · simp [e]

/-- The engine is settled (R36), as the statements say it. -/
theorem settled_iff (s : State) : s.settled = true ↔ s.rebuildQueue = [] ∧ s.route.build = none := by
  simp only [State.settled, State.rebuildQueue, Bool.and_eq_true, Option.isNone_iff_eq_none, List.isEmpty_iff,
    List.append_eq_nil_iff, and_assoc]
  tauto

theorem settled_of_route {s t : State} (h : t.route = s.route) : t.settled = s.settled := by
  rw [State.settled, h]
  rfl

/-- The engine tells that it has become settled by a retirement (R36). -/
theorem freeMaps_port (u : State) (t : Nat) :
    (u.freeMaps t).port = if (u.freeMaps t).settled = true ∧ u.settled = false then
      { u.port with events := u.port.events ||| Notice.mapsSettled.flag } else u.port := by
  let v := (u.freeMap { target := t, profile := .general }).freeMap { target := t, profile := .stepFree }
  have freed : u.freeMaps t = if v.settled && !u.settled then v.raiseNotice .mapsSettled else v := rfl
  have settled : (u.freeMaps t).settled = v.settled := settled_of_route (by rw [freed]; split <;> rfl)
  rw [settled, freed]
  by_cases tells : v.settled = true ∧ u.settled = false
  · rw [if_pos tells, if_pos (by simp [tells])]
    rfl
  · rw [if_neg tells, if_neg (by simpa using tells)]
    rfl

/-- The start of a build does not settle the engine, nor unsettle it. -/
theorem settled_startBuild (v : State) : v.startBuild.settled = v.settled := by
  cases flying : v.route.build with
  | some b => rw [startBuild_busy flying]
  | none =>
    rw [settled_startBuild_of_idle flying, Bool.eq_iff_iff, decide_eq_true_eq, settled_iff]
    simp [flying]

/-! ### TARGET_RETIRE (R48) -/

/-- The state of a TARGET_RETIRE with its marks made, before a build starts. -/
def State.targetFreed (s : State) (k : Nat) (x : Target) : State :=
  if x.station.isSome then ((s.targetGone k x).freeMaps k).mark everyMuster else (s.targetGone k x).freeMaps k

theorem removeTarget_eq (s : State) (k : Nat) (x : Target) : s.removeTarget k x = (s.targetFreed k x).startBuild := rfl

/-- Of a state only the screens and links differ. -/
def State.ScreenOf (v u : State) : Prop := v = { u with screen := v.screen }

theorem mark_screenOf (u : State) (p : Causes) : (u.mark p).ScreenOf u := by
  refine eq_of_blocks ?_ ?_ ?_ ?_ ?_ ?_ rfl ?_ ?_ ?_ ?_ <;> simp

theorem markIf_screenOf (u : State) (p : Causes) (c : Bool) : (if c then u.mark p else u : State).ScreenOf u := by
  split
  · exact mark_screenOf u p
  · rfl

theorem targetFreed_screenOf (s : State) (k : Nat) (x : Target) :
    (s.targetFreed k x).ScreenOf ((s.targetGone k x).freeMaps k) := markIf_screenOf _ _ _

theorem targetFreed_route (s : State) (k : Nat) (x : Target) :
    (s.targetFreed k x).route = ((s.targetGone k x).freeMaps k).route := by rw [targetFreed_screenOf]

/-- What a retirement leaves alone. -/
theorem removeTarget_frame (s : State) (k : Nat) (x : Target) :
    s.removeTarget k x = { s with
      graph := { s.graph with nodes := (s.removeTarget k x).graph.nodes }
      route := (s.removeTarget k x).route
      target := { s.target with targets := (s.removeTarget k x).target.targets }
      screen := (s.removeTarget k x).screen
      port := { s.port with events := (s.removeTarget k x).port.events } } := by
  have port : (s.removeTarget k x).port = ((s.targetGone k x).freeMaps k).port := by
    rw [removeTarget_eq, (startBuild_keeps _).2.2.2.2.2.2.2.1, targetFreed_screenOf]
  refine eq_of_blocks ?_ rfl ?_ ?_ ?_ ?_ rfl ?_ (port := ?port) ?_ ?_
  case port =>
    rw [port, freeMaps_port]
    split <;> rfl
  all_goals rw [removeTarget_eq, targetFreed_screenOf]; simp [State.targetGone, State.withTargets] <;> rfl

theorem targetAt_removeTarget (s : State) (k : Nat) (x : Target) (j : Nat) :
    (s.removeTarget k x).targetAt j = if j = k then none else s.targetAt j := by
  have target : (s.removeTarget k x).target = (s.targetGone k x).target := by
    rw [removeTarget_eq, (startBuild_keeps _).2.1, targetFreed_screenOf, (freeMaps_keeps _ _).2.1]
  rw [State.targetAt, target]
  exact targetAt_targetGone s k x j

theorem node_removeTarget (s : State) (k : Nat) (x : Target) (n : Nat) :
    (s.removeTarget k x).node n = (s.node n).map fun y => if n = x.anchor then { y with refs := y.refs - 1 } else y := by
  have graph : (s.removeTarget k x).graph = (s.targetGone k x).graph := by
    rw [removeTarget_eq, (startBuild_keeps _).1, targetFreed_screenOf, (freeMaps_keeps _ _).1]
  rw [State.node, graph]
  exact node_modNode _ _ _ _

/-- The build that goes on is that of another target's map. -/
theorem targetFreed_build (s : State) (k : Nat) (x : Target) :
    (s.targetFreed k x).route.build = s.route.build.filter fun b => decide (b.map.target ≠ k) := by
  rw [targetFreed_route]
  exact (freeMaps_route _ _).2.2

theorem mapAt_targetFreed (s : State) (k : Nat) (x : Target) (m : MapName) :
    (s.targetFreed k x).mapAt m = if m.target = k then none else s.mapAt m := by
  rw [mapAt_of_route (targetFreed_route s k x)]
  exact mapAt_freeMaps _ _ _

theorem mapAt_removeTarget {s : State} (one : s.buildsOne) (k : Nat) (x : Target) (m : MapName) :
    (s.removeTarget k x).mapAt m = if m.target = k then none else (s.mapAt m).map fun r => { r with
      state := if (s.removeTarget k x).route.build.any fun b => decide (b.map = m) then .building else r.state } := by
  rw [removeTarget_eq, mapAt_startBuild m, mapAt_targetFreed]
  · by_cases e : m.target = k
    · rw [if_pos e, if_pos e]
      rfl
    · rw [if_neg e, if_neg e]
  · rintro b r flying rfl live
    rw [targetFreed_build, Option.filter_eq_some_iff, decide_eq_true_eq] at flying
    rw [mapAt_targetFreed, if_neg flying.2] at live
    exact (one.1 b.map r live).mpr ⟨b.gen, flying.1⟩

/-- The queue without the maps of the target, and the build: the one that goes on, or the next. -/
theorem removeTarget_queue (s : State) (k : Nat) (x : Target) :
    let t := s.removeTarget k x
    let u := s.route.urgent.filter fun m => decide (m.target ≠ k)
    let o := s.route.ordinary.filter fun m => decide (m.target ≠ k)
    (∀ b, s.route.build = some b → b.map.target ≠ k →
      t.route.build = some b ∧ t.route.urgent = u ∧ t.route.ordinary = o) ∧
    ((∀ b, s.route.build = some b → b.map.target = k) →
      t.route.build = (u ++ o).head?.map (fun m => { map := m, gen := s.genOf m.profile }) ∧
      t.route.urgent = u.tail ∧ t.route.ordinary = if u = [] then o.tail else o) := by
  intro t u o
  have urgent : (s.targetFreed k x).route.urgent = u := by
    rw [targetFreed_route]
    exact (freeMaps_route _ _).1
  have ordinary : (s.targetFreed k x).route.ordinary = o := by
    rw [targetFreed_route]
    exact (freeMaps_route _ _).2.1
  have build := targetFreed_build s k x
  refine ⟨fun b flying other => ?_, fun gone => ?_⟩
  · have busy : (s.targetFreed k x).route.build = some b := by
      rw [build, flying, Option.filter_some, if_pos (decide_eq_true other)]
    have same : t = s.targetFreed k x := startBuild_busy busy
    rw [same]
    exact ⟨busy, urgent, ordinary⟩
  · have idle : (s.targetFreed k x).route.build = none := by
      rw [build, Option.filter_eq_none_iff]
      intro b flying
      simpa using gone b flying
    have gens : (s.targetFreed k x).genOf = s.genOf := by
      funext p
      rw [targetFreed_screenOf]
      cases p <;> simp [State.genOf] <;> rfl
    have taken := startBuild_idle idle
    rw [urgent, ordinary, gens] at taken
    exact taken

/-- A retirement tells that the engine has become settled by it (R36). -/
theorem removeTarget_events (s : State) (k : Nat) (x : Target) :
    let t := s.removeTarget k x
    t.port.events = if t.rebuildQueue = [] ∧ t.route.build = none ∧ ¬(s.rebuildQueue = [] ∧ s.route.build = none)
      then s.port.events ||| Notice.mapsSettled.flag else s.port.events := by
  intro t
  have port : t.port = ((s.targetGone k x).freeMaps k).port := by
    show (s.removeTarget k x).port = _
    rw [removeTarget_eq, (startBuild_keeps _).2.2.2.2.2.2.2.1, targetFreed_screenOf]
  have settled : ((s.targetGone k x).freeMaps k).settled = t.settled := by
    show _ = (s.removeTarget k x).settled
    rw [removeTarget_eq, settled_startBuild, settled_of_route (targetFreed_route s k x)]
  have before : (s.targetGone k x).settled = false ↔ ¬(s.rebuildQueue = [] ∧ s.route.build = none) := by
    rw [← settled_iff, Bool.not_eq_true]
    rfl
  have tells : ((s.targetGone k x).freeMaps k).settled = true ∧ (s.targetGone k x).settled = false ↔
      t.rebuildQueue = [] ∧ t.route.build = none ∧ ¬(s.rebuildQueue = [] ∧ s.route.build = none) := by
    rw [settled, settled_iff, before, and_assoc]
  rw [port, freeMaps_port]
  by_cases told : t.rebuildQueue = [] ∧ t.route.build = none ∧ ¬(s.rebuildQueue = [] ∧ s.route.build = none)
  · rw [if_pos (tells.mpr told), if_pos told]
    rfl
  · rw [if_neg (mt tells.mp told), if_neg told]
    rfl

/-- A STATION's retirement marks MUSTER of every screen, and a VENUE's marks nothing. -/
theorem removeTarget_marks {s : State} (sorted : Table.wf s.screen.screens = true) (k : Nat) (x : Target) :
    if x.station.isSome then MarkedBy s (s.removeTarget k x) everyMuster
    else (s.removeTarget k x).screen = s.screen := by
  have screen : (s.removeTarget k x).screen = (s.targetFreed k x).screen := (startBuild_keeps _).2.2.2.2.2.1
  have before : ((s.targetGone k x).freeMaps k).screen = s.screen := by
    rw [(freeMaps_keeps _ _).2.2.2.2.2.1]
    rfl
  by_cases station : x.station.isSome = true
  · rw [if_pos station]
    refine (mark_marks ((s.targetGone k x).freeMaps k) everyMuster (by rw [before]; exact sorted)).of_screen before.symm ?_
    rw [screen, State.targetFreed, if_pos station]
  · rw [if_neg station, screen, State.targetFreed, if_neg station, before]

theorem targetRetire_refused {k : Nat} (out : 63 < k) (s : State) : targetRetire k s = (s, .refuse .badField) := by
  rw [targetRetire, if_pos (targetSlots_le out)]

theorem targetRetire_of_range {k : Nat} (within : k ≤ 63) (s : State) :
    targetRetire k s = match s.targetAt k with
      | none => (s, .refuse .notFound)
      | some x =>
        if 0 < x.refs then (s, { result := .inUse, body := u16 x.refs }) else (s.removeTarget k x, .done []) := by
  rw [targetRetire]
  exact if_neg (not_targetSlots_le within)

/-! ### TARGET_GET (R49) -/

theorem targetGet_of_range {k : Nat} (within : k ≤ 63) (s : State) :
    targetGet k s = match s.targetAt k with
      | none => .refuse .notFound
      | some x => .done (s.targetBytes k x) := by
  rw [targetGet]
  exact if_neg (not_targetSlots_le within)

theorem execTargetGet_answers (s : State) (tag v : Byte) :
    exec (.targetGet tag [v]) s =
      .next (s.answering s tag (targetGet v.toNat s.beginRequest).result (targetGet v.toNat s.beginRequest).body) := rfl

theorem targetBytes_station (s : State) (k : Nat) {x : Target} {st : Station} (station : x.station = some st) :
    s.targetBytes k x = u8 k ++ [1#8] ++ u16 x.anchor ++ u16 x.label ++ u8 st.letter ++ u16 st.capacity ++
      u16 x.refs ++ u8 ((if st.blocked then 1 else 0) + (if st.overFlag then 2 else 0)) ++
      u16 st.assigned ++ u16 st.swept ++ u16 st.occupied := by
  simp only [State.targetBytes, station, stationPutBytes, stationKeptBytes, Option.isSome_some, if_true,
    ← List.append_assoc]
  rfl

/-- A VENUE has no station figures: the seven bytes in their place are free (log 7). -/
theorem targetBytes_venue (s : State) (k : Nat) {x : Target} (venue : x.station = none) :
    ∃ free : List Byte, free.length = 7 ∧ s.targetBytes k x = u8 k ++ [0#8] ++ u16 x.anchor ++ u16 x.label ++ [0xFF#8] ++
      [0xFF#8, 0xFF#8] ++ u16 x.refs ++ free := by
  refine ⟨stationKeptBytes s.fresh none, rfl, ?_⟩
  rw [State.targetBytes, venue]
  simp only [stationPutBytes, ← List.append_assoc]
  rfl

/-! ### The obligation -/

/-- TARGET_RETIRE by the range of its id, the slot it names and the claims on it (R48). -/
theorem execTargetRetire_meets (s : State) (tag v : Byte) (ready : s.loading = false) :
    let id := v.toNat
    let i := Instr.targetRetire tag [v]
    (63 < id → exec i s = .next (s.answering s tag .badField [])) ∧
    (id ≤ 63 → s.targetAt id = none → exec i s = .next (s.answering s tag .notFound [])) ∧
    (∀ x, id ≤ 63 → s.targetAt id = some x → 0 < x.refs →
      exec i s = .next (s.answering s tag .inUse (u16 x.refs))) ∧
    (∀ x, id ≤ 63 → s.targetAt id = some x → x.refs = 0 →
      exec i s = .next (s.answering ((s.beginRequest.removeTarget id x).withEventsOf s) tag .done [])) := by
  intro id i
  have taken : exec i s = .next (serve tag (some id) true targetRetire s) := rfl
  refine ⟨fun out => ?_, fun within free => ?_, fun x within live claimed => ?_, fun x within live unclaimed => ?_⟩
  · rw [taken, serve_refused tag id targetRetire s _ ready (targetRetire_refused out _)]
    rfl
  · rw [taken, serve_refused tag id targetRetire s (.refuse .notFound) ready]
    · rfl
    · rw [targetRetire_of_range within, show s.beginRequest.targetAt id = none from free]
  · rw [taken, serve_refused tag id targetRetire s { result := .inUse, body := u16 x.refs } ready]
    rw [targetRetire_of_range within, show s.beginRequest.targetAt id = some x from live]
    exact if_pos claimed
  · have made : targetRetire id s.beginRequest = (s.beginRequest.removeTarget id x, .done []) := by
      rw [targetRetire_of_range within, show s.beginRequest.targetAt id = some x from live]
      exact if_neg (Nat.not_lt.mpr (Nat.le_of_eq unclaimed))
    have frame := removeTarget_frame s.beginRequest id x
    rw [taken, serve_noticed tag id targetRetire s ready made (congrArg State.port frame)
      ((congrArg State.fresh frame).trans rfl)]
    rfl

/-- Settles O24: a retirement by what it frees (`mapAt_removeTarget`, `removeTarget_queue`, `removeTarget_events`), and
the record that TARGET_GET reads. -/
theorem targetsAreRetiredAndRead : Obligations.TargetsAreRetiredAndRead := by
  refine ⟨fun s tag v ready tables inv => ?_, fun s tag v => ⟨fun out => ?_, fun within free => ?_,
    fun x st within live station => ?_, fun x within live venue => ?_⟩⟩
  · obtain ⟨range, free, claimed, done⟩ := execTargetRetire_meets s tag v ready
    refine ⟨range, free, claimed, fun x within live unclaimed =>
      ⟨(s.beginRequest.removeTarget v.toNat x).withEventsOf s, done x within live unclaimed, ?_,
        targetAt_removeTarget s.beginRequest _ x, node_removeTarget s.beginRequest _ x,
        mapAt_removeTarget (s := s.beginRequest) inv.buildsOne _ x, removeTarget_queue s.beginRequest _ x,
        removeTarget_events s.beginRequest _ x, ?_⟩⟩
    · exact congrArg (fun u => u.withEventsOf s) (removeTarget_frame s.beginRequest v.toNat x)
    · obtain ⟨_, _, _, _, _, _, sorted, _⟩ := tables
      have marks := removeTarget_marks (s := s.beginRequest) sorted v.toNat x
      split
      · rename_i station
        rw [if_pos station] at marks
        exact marks.of_screen rfl rfl
      · rename_i venue
        rwa [if_neg venue] at marks
  · rw [execTargetGet_answers, targetGet, if_pos (targetSlots_le out)]
    rfl
  · rw [execTargetGet_answers, targetGet_of_range within, show s.beginRequest.targetAt v.toNat = none from free]
    rfl
  · rw [execTargetGet_answers, targetGet_of_range within, show s.beginRequest.targetAt v.toNat = some x from live]
    exact congrArg (fun bytes => Host.Outcome.next (s.answering s tag .done bytes))
      (targetBytes_station s.beginRequest v.toNat station)
  · obtain ⟨bytes, seven, read⟩ := targetBytes_venue s.beginRequest v.toNat venue
    refine ⟨bytes, seven, ?_⟩
    rw [execTargetGet_answers, targetGet_of_range within, show s.beginRequest.targetAt v.toNat = some x from live]
    exact congrArg (fun bytes => Host.Outcome.next (s.answering s tag .done bytes)) read

end Sys2Proof.Machine
end

section
/-! TARGET_PUT: its checks in their order, and the target that it creates (R5, R20, R26 to R28, R46). -/

namespace Sys2Proof.Machine

/-! ### The checks (R46) -/

/-- Every field of a TARGET_PUT is in its range (R46, check 1). -/
def TargetBody.InRange (b : TargetBody) : Prop :=
  b.id ≤ 63 ∧ b.kind ≤ 1 ∧ b.anchor ≤ 1023 ∧ (b.kind = 1 → b.letter ≤ 15 ∧ b.capacity ≤ 9999)

/-- The letter and capacity that the body of a STATION gives. -/
def TargetBody.stationGiven (b : TargetBody) : Option (Nat × Nat) :=
  if b.kind = 1 then some (b.letter, b.capacity) else none

theorem stationGiven_isSome (b : TargetBody) : b.stationGiven.isSome = decide (b.kind = 1) := by
  rw [TargetBody.stationGiven]
  split <;> simp [*]

theorem kindGiven_of_range {b : TargetBody} (fits : b.InRange) : b.kindGiven = some b.stationGiven := by
  obtain ⟨id, kind, anchor, station⟩ := fits
  have slots : ¬(Config.targetSlots ≤ b.id ∨ Config.nodeSlots ≤ b.anchor) := by
    rw [show Config.targetSlots = 64 from rfl, show Config.nodeSlots = 1024 from rfl]
    omega
  rw [TargetBody.kindGiven, if_neg slots, TargetBody.stationGiven]
  rcases Nat.le_one_iff_eq_zero_or_eq_one.mp kind with venue | one
  · rw [venue]
    rfl
  · obtain ⟨letter, capacity⟩ := station one
    rw [one]
    exact if_pos ⟨Nat.lt_succ_of_le letter, capacity⟩

theorem kindGiven_out_of_range {b : TargetBody} (out : ¬b.InRange) : b.kindGiven = none := by
  rw [TargetBody.kindGiven, show Config.targetSlots = 64 from rfl, show Config.nodeSlots = 1024 from rfl,
    show Config.liveStations = 16 from rfl, show Config.maxCapacity = 9999 from rfl]
  rw [TargetBody.InRange] at out
  split
  · rfl
  · split
    · omega
    · exact if_neg (by omega)
    · rfl

/-- The reference count lets the kind be as the body gives it (R46, check 3). -/
def State.kindFree (s : State) (b : TargetBody) : Prop :=
  ∀ x, s.targetAt b.id = some x → x.station.isSome ≠ decide (b.kind = 1) → x.refs = 0

theorem targetPut_out_of_range {b : TargetBody} (out : ¬b.InRange) (s : State) :
    targetPut b s = (s, .refuse .badField) := by
  rw [targetPut, kindGiven_out_of_range out]

theorem targetPut_without_anchor {b : TargetBody} (fits : b.InRange) {s : State} (free : s.node b.anchor = none) :
    targetPut b s = (s, .because .badField .anchor) := by
  rw [targetPut, kindGiven_of_range fits, free]
  rfl

theorem targetPut_in_use {b : TargetBody} (fits : b.InRange) {s : State} (anchor : (s.node b.anchor).isSome) {x : Target}
    (live : s.targetAt b.id = some x) (kind : x.station.isSome ≠ decide (b.kind = 1)) (claimed : 0 < x.refs) :
    targetPut b s = (s, { result := .inUse, body := u16 x.refs }) := by
  obtain ⟨n, node⟩ := Option.isSome_iff_exists.mp anchor
  simp [targetPut, kindGiven_of_range fits, node, live, kind, claimed, stationGiven_isSome]

/-- A TARGET_PUT that passes its first three checks. -/
theorem targetPut_of_checks {b : TargetBody} (fits : b.InRange) {s : State} (anchor : (s.node b.anchor).isSome)
    (kindFree : s.kindFree b) :
    targetPut b s = match b.stationGiven.bind fun g => s.holderOfLetter g.1 b.id with
      | some holder => (s, { result := .exists_, body := u8 holder })
      | none => match s.targetAt b.id with
        | none => (s.createTarget b b.stationGiven, .done [0#8])
        | some old => (s.amendTarget b b.stationGiven old, .done [1#8]) := by
  have unclaimed : ¬((s.targetAt b.id).any fun x => decide (x.station.isSome ≠ b.stationGiven.isSome) &&
      decide (0 < x.refs)) = true := by
    rw [Option.any_eq_true_iff_get]
    rintro ⟨live, differs⟩
    have free := kindFree _ (Option.some_get live).symm
    rw [stationGiven_isSome] at differs
    simp only [Bool.and_eq_true, decide_eq_true_eq] at differs
    exact Nat.ne_of_gt differs.2 (free differs.1)
  obtain ⟨n, node⟩ := Option.isSome_iff_exists.mp anchor
  rw [targetPut, kindGiven_of_range fits, node]
  dsimp only [Option.isNone_some]
  rw [if_neg Bool.false_ne_true]
  exact if_neg unclaimed

/-! ### The holder of a letter (R46, check 4) -/

/-- A holder found is a live STATION in another slot that holds the letter. -/
theorem holderOfLetter_some {s : State} (sorted : Table.wf s.target.targets = true) {letter except k : Nat}
    (found : s.holderOfLetter letter except = some k) :
    k ≠ except ∧ ∃ st, s.stationAt k = some st ∧ st.letter = letter := by
  obtain ⟨r, first, rfl⟩ := Option.map_eq_some_iff.mp found
  have holds := List.find?_some first
  simp only [Bool.and_eq_true, decide_eq_true_eq, Option.any_eq_true] at holds
  obtain ⟨other, st, station, same⟩ := holds
  have live := (Table.get_iff_mem _ sorted r.1 r.2).mpr (List.mem_of_find?_eq_some first)
  exact ⟨other, st, by rw [State.stationAt, State.targetAt, live]; exact station, same⟩

theorem holderOfLetter_none {s : State} (sorted : Table.wf s.target.targets = true) {letter except : Nat}
    (free : ∀ k st, k ≠ except → s.stationAt k = some st → st.letter ≠ letter) :
    s.holderOfLetter letter except = none := by
  refine Option.eq_none_iff_forall_ne_some.mpr fun k found => ?_
  obtain ⟨other, st, live, same⟩ := holderOfLetter_some sorted found
  exact free k st other live same

/-- The one other holder of a letter is found. -/
theorem holderOfLetter_unique {s : State} (sorted : Sorted s) {letter except h : Nat} {st : Station} (other : h ≠ except)
    (live : s.stationAt h = some st) (same : st.letter = letter)
    (unique : ∀ k sk, k ≠ except → s.stationAt k = some sk → sk.letter = letter → k = h) :
    s.holderOfLetter letter except = some h := by
  cases found : s.holderOfLetter letter except with
  | none => exact absurd same (letters_of_holder sorted found h st live other)
  | some k =>
    obtain ⟨apart, sk, station, letters⟩ := holderOfLetter_some sorted.targets found
    rw [unique k sk apart station letters]

/-- No live STATION in another slot holds the letter that a body gives. -/
def State.letterFree (s : State) (b : TargetBody) : Prop :=
  b.kind = 1 → ∀ k st, k ≠ b.id → s.stationAt k = some st → st.letter ≠ b.letter

theorem stationGiven_unheld {s : State} (sorted : Table.wf s.target.targets = true) {b : TargetBody}
    (free : s.letterFree b) : (b.stationGiven.bind fun g => s.holderOfLetter g.1 b.id) = none := by
  rw [TargetBody.stationGiven]
  split
  · exact holderOfLetter_none sorted (free ‹_›)
  · rfl

theorem targetPut_letter_held {b : TargetBody} (fits : b.InRange) {s : State} (anchor : (s.node b.anchor).isSome)
    (kindFree : s.kindFree b) (station : b.kind = 1) {h : Nat} (held : s.holderOfLetter b.letter b.id = some h) :
    targetPut b s = (s, { result := .exists_, body := u8 h }) := by
  rw [targetPut_of_checks fits anchor kindFree, TargetBody.stationGiven, if_pos station, Option.bind_some, held]

theorem targetPut_creates {b : TargetBody} (fits : b.InRange) {s : State} (anchor : (s.node b.anchor).isSome)
    (sorted : Table.wf s.target.targets = true) (letter : s.letterFree b) (free : s.targetAt b.id = none) :
    targetPut b s = (s.createTarget b b.stationGiven, .done [0#8]) := by
  rw [targetPut_of_checks fits anchor (fun x live => by rw [free] at live; cases live), stationGiven_unheld sorted letter,
    free]

theorem targetPut_amends {b : TargetBody} (fits : b.InRange) {s : State} (anchor : (s.node b.anchor).isSome)
    (sorted : Table.wf s.target.targets = true) (letter : s.letterFree b) {old : Target}
    (live : s.targetAt b.id = some old) (kind : old.station.isSome ≠ decide (b.kind = 1) → old.refs = 0) :
    targetPut b s = (s.amendTarget b b.stationGiven old, .done [1#8]) := by
  have kindFree : s.kindFree b := fun x held differs => by
    cases live.symm.trans held
    exact kind differs
  rw [targetPut_of_checks fits anchor kindFree, stationGiven_unheld sorted letter, live]

/-! ### The maps of a created target (R20, R26, R28) -/

theorem joinsUrgent_eq (s : State) (m : MapName) :
    s.joinsUrgent m = ((s.stationAt m.target).isSome && s.muster.state.proper) := by
  rw [State.joinsUrgent]
  cases s.muster.state <;> rfl

/-- Both maps of a target join one class. -/
theorem filter_joinsUrgent_mapsOf (s : State) (t : Nat) :
    (mapsOf t).filter s.joinsUrgent =
      (if (s.stationAt t).isSome && s.muster.state.proper then mapsOf t else []) ∧
    ((mapsOf t).filter fun m => !s.joinsUrgent m) =
      (if (s.stationAt t).isSome && s.muster.state.proper then [] else mapsOf t) := by
  simp only [mapsOf_eq, joinsUrgent_eq, List.filter_cons, List.filter_nil]
  cases (s.stationAt t).isSome && s.muster.state.proper <;> exact ⟨rfl, rfl⟩

theorem createMap_route (u : State) (m : MapName) :
    (u.createMap m).route = { u.route with
      maps := (u.createMap m).route.maps
      urgent := u.route.urgent ++ [m].filter u.joinsUrgent
      ordinary := u.route.ordinary ++ [m].filter fun m => !u.joinsUrgent m } := by
  let w : State := { u with route := { u.route with maps := Table.put u.route.maps m.slot RouteMap.fresh } }
  have joined : (u.createMap m).route = _ := joinTail_route w m
  rw [joined]
  rfl

theorem createMaps_route (u : State) (t : Nat) :
    (u.createMaps t).route = { u.route with
      maps := (u.createMaps t).route.maps
      urgent := u.route.urgent ++ (mapsOf t).filter u.joinsUrgent
      ordinary := u.route.ordinary ++ (mapsOf t).filter fun m => !u.joinsUrgent m } := by
  let v := u.createMap { target := t, profile := .general }
  have hurry : v.joinsUrgent = u.joinsUrgent := by
    refine joinsUrgent_of_blocks ?_ ?_ <;> simp [v, State.createMap]
  have both : (u.createMaps t).route = _ := createMap_route v { target := t, profile := .stepFree }
  rw [both, hurry, createMap_route u]
  simp only [mapsOf_eq, List.append_assoc, ← List.filter_append]
  rfl

theorem mapAt_createMaps (u : State) (t : Nat) (m : MapName) :
    (u.createMaps t).mapAt m = if m.target = t then some RouteMap.fresh else u.mapAt m := by
  have general := oneMoves_createMap u { target := t, profile := .general }
  have stepFree := oneMoves_createMap (u.createMap { target := t, profile := .general })
    { target := t, profile := .stepFree }
  have both : (u.createMaps t).mapAt m = _ := stepFree.mapAt m
  rw [both, general.mapAt]
  obtain ⟨k, p⟩ := m
  by_cases e : k = t
  · cases p <;> simp [e]
  · simp [e]

/-! ### A TARGET_PUT that creates (R46) -/

/-- The state of a TARGET_PUT that creates with its marks made, before a build starts. -/
def State.targetCreated (s : State) (b : TargetBody) : State :=
  if b.stationGiven.isSome then
    ((s.targetTaken b.id (b.target b.stationGiven)).createMaps b.id).mark everyMuster
  else (s.targetTaken b.id (b.target b.stationGiven)).createMaps b.id

theorem createTarget_startBuild (s : State) (b : TargetBody) :
    s.createTarget b b.stationGiven = (s.targetCreated b).startBuild := rfl

theorem targetCreated_screenOf (s : State) (b : TargetBody) :
    (s.targetCreated b).ScreenOf ((s.targetTaken b.id (b.target b.stationGiven)).createMaps b.id) :=
  markIf_screenOf _ _ _

/-- What a creation leaves alone. -/
theorem createTarget_frame (s : State) (b : TargetBody) :
    s.createTarget b b.stationGiven = { s with
      graph := { s.graph with nodes := (s.createTarget b b.stationGiven).graph.nodes }
      route := (s.createTarget b b.stationGiven).route
      target := { s.target with targets := (s.createTarget b b.stationGiven).target.targets }
      screen := (s.createTarget b b.stationGiven).screen } := by
  refine eq_of_blocks ?_ rfl ?_ ?_ ?_ ?_ rfl ?_ ?_ ?_ ?_
  all_goals rw [createTarget_startBuild, targetCreated_screenOf]; simp [State.targetTaken, State.withTargets] <;> rfl

theorem targetAt_createTarget (s : State) (b : TargetBody) (k : Nat) :
    (s.createTarget b b.stationGiven).targetAt k = if k = b.id then some (b.target b.stationGiven) else s.targetAt k := by
  have target : (s.createTarget b b.stationGiven).target = (s.targetTaken b.id (b.target b.stationGiven)).target := by
    rw [createTarget_startBuild, (startBuild_keeps _).2.1, targetCreated_screenOf, (createMaps_keeps _ _).2.1]
  rw [State.targetAt, target]
  exact targetAt_targetTaken s b.id _ k

theorem node_createTarget (s : State) (b : TargetBody) (n : Nat) :
    (s.createTarget b b.stationGiven).node n =
      (s.node n).map fun x => if n = b.anchor then { x with refs := x.refs + 1 } else x := by
  have graph : (s.createTarget b b.stationGiven).graph = (s.targetTaken b.id (b.target b.stationGiven)).graph := by
    rw [createTarget_startBuild, (startBuild_keeps _).1, targetCreated_screenOf, (createMaps_keeps _ _).1]
  rw [State.node, graph]
  exact node_modNode _ _ _ _

theorem createTarget_marks {s : State} (sorted : Table.wf s.screen.screens = true) (b : TargetBody) :
    if b.kind = 1 then MarkedBy s (s.createTarget b b.stationGiven) everyMuster
    else (s.createTarget b b.stationGiven).screen = s.screen := by
  have screen : (s.createTarget b b.stationGiven).screen = (s.targetCreated b).screen :=
    (startBuild_keeps _).2.2.2.2.2.1
  have before : ((s.targetTaken b.id (b.target b.stationGiven)).createMaps b.id).screen = s.screen := by
    rw [(createMaps_keeps _ _).2.2.2.2.2.1]
    rfl
  by_cases station : b.kind = 1
  · rw [if_pos station]
    refine (mark_marks ((s.targetTaken b.id (b.target b.stationGiven)).createMaps b.id) everyMuster
      (by rw [before]; exact sorted)).of_screen before.symm ?_
    rw [screen, State.targetCreated, stationGiven_isSome, if_pos (decide_eq_true station)]
  · rw [if_neg station, screen, State.targetCreated, stationGiven_isSome, if_neg (by simpa using station), before]

theorem targetCreated_route (s : State) (b : TargetBody) :
    (s.targetCreated b).route = { s.route with
      maps := (s.targetCreated b).route.maps
      urgent := s.route.urgent ++ if b.kind = 1 ∧ s.muster.state.proper = true then mapsOf b.id else []
      ordinary := s.route.ordinary ++ if b.kind = 1 ∧ s.muster.state.proper = true then [] else mapsOf b.id } := by
  let u := s.targetTaken b.id (b.target b.stationGiven)
  have station : (u.stationAt b.id).isSome = decide (b.kind = 1) := by
    rw [State.stationAt, targetAt_targetTaken, if_pos rfl, ← stationGiven_isSome]
    show (stationAfter b.stationGiven none).isSome = _
    cases b.stationGiven <;> rfl
  have hurry : ((u.stationAt b.id).isSome && u.muster.state.proper) = true ↔
      b.kind = 1 ∧ s.muster.state.proper = true := by
    rw [station, Bool.and_eq_true, decide_eq_true_eq]
    rfl
  have route : (s.targetCreated b).route = (u.createMaps b.id).route := by rw [targetCreated_screenOf]
  obtain ⟨urgent, ordinary⟩ := filter_joinsUrgent_mapsOf u b.id
  rw [route, createMaps_route, urgent, ordinary]
  simp only [hurry]
  rfl

theorem mapAt_targetCreated (s : State) (b : TargetBody) (m : MapName) :
    (s.targetCreated b).mapAt m = if m.target = b.id then some RouteMap.fresh else s.mapAt m := by
  have route : (s.targetCreated b).route = ((s.targetTaken b.id (b.target b.stationGiven)).createMaps b.id).route := by
    rw [targetCreated_screenOf]
  rw [mapAt_of_route route]
  exact mapAt_createMaps _ _ _

/-- An engine at work leaves both maps to wait. -/
theorem createTarget_busy {s : State} (b : TargetBody) {bd : Build} (flying : s.route.build = some bd) :
    s.createTarget b b.stationGiven = s.targetCreated b := by
  have busy : (s.targetCreated b).route.build = some bd := by
    rw [targetCreated_route]
    exact flying
  exact startBuild_busy busy

/-- An idle engine begins with the GENERAL map, and the STEP_FREE one waits (R27, R28). -/
theorem createTarget_idle {s : State} (b : TargetBody) (idle : s.route.build = none) (empty : s.rebuildQueue = []) :
    let t := s.createTarget b b.stationGiven
    let general : MapName := { target := b.id, profile := .general }
    let stepFree : MapName := { target := b.id, profile := .stepFree }
    t.route =
      { maps := t.route.maps
        urgent := if b.kind = 1 ∧ s.muster.state.proper = true then [stepFree] else []
        ordinary := if b.kind = 1 ∧ s.muster.state.proper = true then [] else [stepFree]
        build := some { map := general, gen := s.graph.genGeneral } } ∧
    ∀ m, t.mapAt m = ((s.targetCreated b).mapAt m).map fun r =>
      if m = general then { r with state := .building } else r := by
  intro t general stepFree
  obtain ⟨urgent, ordinary⟩ := List.append_eq_nil_iff.mp empty
  have before := targetCreated_route s b
  rw [urgent, ordinary, List.nil_append, List.nil_append] at before
  have grounded : (s.targetCreated b).route.build = none := by
    rw [before]
    exact idle
  have gen : (s.targetCreated b).genOf .general = s.graph.genGeneral := by
    rw [State.genOf, targetCreated_screenOf, (createMaps_keeps _ _).1]
    rfl
  have queue : (s.targetCreated b).rebuildQueue = [general, stepFree] := by
    rw [State.rebuildQueue, before]
    split <;> rfl
  obtain ⟨build, urgentLeft, ordinaryLeft⟩ := startBuild_idle grounded
  refine ⟨?_, fun m => ?_⟩
  · have head : (s.targetCreated b).route.urgent ++ (s.targetCreated b).route.ordinary = [general, stepFree] := queue
    rw [head] at build
    rw [List.head?_cons, Option.map_some, show general.profile = .general from rfl, gen] at build
    rw [before] at urgentLeft ordinaryLeft
    have urgentNow : t.route.urgent = if b.kind = 1 ∧ s.muster.state.proper = true then [stepFree] else [] := by
      refine urgentLeft.trans ?_
      split <;> rfl
    have ordinaryNow : t.route.ordinary = if b.kind = 1 ∧ s.muster.state.proper = true then [] else [stepFree] := by
      refine ordinaryLeft.trans ?_
      by_cases hurry : b.kind = 1 ∧ s.muster.state.proper = true
      · simp [hurry, mapsOf_eq]
      · simp [hurry, mapsOf_eq, stepFree]
    have buildNow : t.route.build = some { map := general, gen := s.graph.genGeneral } := build
    rw [← urgentNow, ← ordinaryNow, ← buildNow]
  · have started : t.mapAt m = _ := mapAt_startBuild_of_idle grounded m
    rw [started, queue, List.head?_cons]
    simp only [Option.some.injEq, eq_comm (a := general)]

/-- The maps after a creation: both of the target's are live and EMPTY, but for the one being built (R20, R27). -/
theorem mapAt_createTarget {s : State} (b : TargetBody) (rest : s.route.build = none → s.rebuildQueue = [])
    (m : MapName) :
    (s.createTarget b b.stationGiven).mapAt m = if m.target = b.id then some { RouteMap.fresh with
        state := if s.route.build = none ∧ m = { target := b.id, profile := .general } then .building else .empty }
      else s.mapAt m := by
  cases flying : s.route.build with
  | some bd =>
    rw [createTarget_busy b flying, mapAt_targetCreated]
    simp [RouteMap.fresh]
  | none =>
    rw [(createTarget_idle b flying (rest flying)).2, mapAt_targetCreated]
    by_cases general : m = { target := b.id, profile := .general }
    · simp [general]
    · by_cases mine : m.target = b.id <;> simp [general, mine, RouteMap.fresh]

/-! ### The obligation -/

/-- A TARGET_PUT is served by its parsed body. -/
theorem execTargetPut_serves {body : List Byte} {b : TargetBody} (parsed : parseTarget body = some b) (s : State)
    (tag : Byte) : exec (.targetPut tag body) s = .next (serve tag (some b) true targetPut s) := by
  rw [← parsed]
  rfl

/-- The checks of TARGET_PUT in their order (R46). -/
theorem execTargetPut_checks (s : State) (tag : Byte) (body : List Byte) (b : TargetBody) (ready : s.loading = false)
    (sorted : Sorted s) (parsed : parseTarget body = some b) :
    let i := Instr.targetPut tag body
    (¬b.InRange → exec i s = .next (s.answering s tag .badField [])) ∧
    (b.InRange → s.node b.anchor = none → exec i s = .next (s.answering s tag .badField [7#8])) ∧
    (∀ x, b.InRange → (s.node b.anchor).isSome → s.targetAt b.id = some x →
      x.station.isSome ≠ decide (b.kind = 1) → 0 < x.refs →
      exec i s = .next (s.answering s tag .inUse (u16 x.refs))) ∧
    (∀ h st, b.InRange → (s.node b.anchor).isSome → s.kindFree b → b.kind = 1 → h ≠ b.id →
      s.stationAt h = some st → st.letter = b.letter →
      (∀ k sk, k ≠ b.id → s.stationAt k = some sk → sk.letter = b.letter → k = h) →
      exec i s = .next (s.answering s tag .exists_ (u8 h))) := by
  intro i
  have refused : ∀ r, targetPut b s.beginRequest = (s.beginRequest, r) →
      exec i s = .next (s.answering s tag r.result r.body) := fun r refused => by
    rw [execTargetPut_serves parsed, serve_refused tag b targetPut s r ready refused]
  exact ⟨fun out => refused _ (targetPut_out_of_range out _),
    fun fits free => refused _ (targetPut_without_anchor fits (s := s.beginRequest) free),
    fun x fits anchor live kind claimed => refused _ (targetPut_in_use fits (s := s.beginRequest) anchor live kind claimed),
    fun h st fits anchor kindFree station other live same unique =>
      refused _ (targetPut_letter_held fits (s := s.beginRequest) anchor kindFree station
        (holderOfLetter_unique (s := s.beginRequest) ⟨sorted.edges, sorted.targets, sorted.cabins, sorted.entries,
          sorted.screens⟩ other live same unique))⟩

/-- Settles O22: the checks in order, and a creation by its record, its claim, its maps (`mapAt_targetCreated`) and the
engine at work (`createTarget_busy`) or idle (`createTarget_idle`). -/
theorem targetPutChecksThenCreates : Obligations.TargetPutChecksThenCreates := by
  refine ⟨fun s tag body b ready tables parsed =>
    execTargetPut_checks s tag body b ready (sorted_of_tables tables) parsed, ?_⟩
  intro s tag body b ready tables inv parsed id kind anchor range letters free general stepFree urgent new created
  have fits : b.InRange := ⟨id, kind, range, fun station => ⟨(letters station).1, (letters station).2.1⟩⟩
  have letter : s.letterFree b := fun station k st _ live => (letters station).2.2 k st live
  have targets := (sorted_of_tables tables).targets
  have screens := (sorted_of_tables tables).screens
  let u := s.beginRequest.createTarget b b.stationGiven
  have made : targetPut b s.beginRequest = (u, .done [0#8]) :=
    targetPut_creates fits (s := s.beginRequest) anchor targets letter free
  have frame := createTarget_frame s.beginRequest b
  have record : b.target b.stationGiven = created := by
    simp only [TargetBody.target, TargetBody.stationGiven, created]
    split <;> rfl
  have marks := createTarget_marks (s := s.beginRequest) screens b
  obtain ⟨_, _, _, _, rest, _⟩ := inv
  have maps := mapAt_createTarget (s := s.beginRequest) b rest
  refine ⟨u.withPortOf s, ?_, congrArg (fun u => u.withPortOf s) frame, fun k => ?_, node_createTarget s.beginRequest b,
    fun m other => ?_, fun m mine => ?_, fun bd flying => ?_, fun idle => ?_, ?_⟩
  · rw [execTargetPut_serves parsed, serve_moved tag b targetPut s ready made ((congrArg State.port frame).trans rfl)
      ((congrArg State.fresh frame).trans rfl)]
    rfl
  · rw [← record]
    exact targetAt_createTarget s.beginRequest b k
  · exact (maps m).trans (if_neg other)
  · exact (maps m).trans (if_pos mine)
  · show u.route = _
    rw [show u = s.beginRequest.targetCreated b from createTarget_busy b flying, targetCreated_route]
    rfl
  · exact (createTarget_idle (s := s.beginRequest) b idle (rest idle)).1
  · split
    · rename_i station
      rw [if_pos station] at marks
      exact marks.of_screen rfl rfl
    · rename_i venue
      rwa [if_neg venue] at marks

end Sys2Proof.Machine
end

section
/-! Changed faces (R68): the order in which they are taken, the content generations and plates of the cabins, and the
queues of the trunks. Then the trunks' pick, which does not read the Service Port. -/

namespace Sys2Proof.Machine

/-! ### The order of the cabin numbers -/

theorem insertBy_eq_orderedInsert {α : Type} (before : α → α → Bool) (x : α) (l : List α) :
    insertBy before x l = l.orderedInsert (fun a b => before a b = true) x := by
  induction l with
  | nil => rfl
  | cons y ys ih => rw [insertBy, List.orderedInsert, ih]

theorem sortBy_eq_insertionSort {α : Type} (before : α → α → Bool) (l : List α) :
    sortBy before l = l.insertionSort fun a b => (!before b a) = true := by
  induction l with
  | nil => rfl
  | cons x xs ih => rw [sortBy, List.insertionSort_cons, ih, insertBy_eq_orderedInsert]

theorem not_before_iff (a b : CabinNumber) : (!b.before a) = true ↔ notAfter a b := by
  simp only [CabinNumber.before, notAfter, Bool.not_eq_true', Bool.or_eq_false_iff, Bool.and_eq_false_iff,
    decide_eq_false_iff_not]
  omega

/-- Cabins in number order do not come after one another. -/
theorem inNumberOrder_pairwise (cs : List (Nat × Cabin)) :
    (inNumberOrder cs).Pairwise fun r q => notAfter r.2.number q.2.number := by
  have sorted := @List.pairwise_insertionSort _ (fun r q : Nat × Cabin => (!q.2.number.before r.2.number) = true) _
    ⟨fun r q => by simp only [not_before_iff, notAfter]; omega⟩
    ⟨fun r q p => by simp only [not_before_iff, notAfter]; omega⟩ cs
  rw [inNumberOrder, sortBy_eq_insertionSort]
  exact sorted.imp fun h => (not_before_iff _ _).mp h

theorem inNumberOrder_perm (cs : List (Nat × Cabin)) : (inNumberOrder cs).Perm cs := sortBy_perm _ _

/-! ### One changed face -/

theorem cabinAt_modCabin (s : State) (c n : Nat) (f : Cabin → Cabin) :
    (s.modCabin c f).cabinAt n = (s.cabinAt n).map fun x => if n = c then f x else x := by
  rw [State.cabinAt, State.modCabin, Table.get_modify]
  split
  · rfl
  · simp [State.cabinAt]

theorem cabinAt_of_cabin {s t : State} (h : t.cabin = s.cabin) (c : Nat) : t.cabinAt c = s.cabinAt c := by
  rw [State.cabinAt, h]
  rfl

theorem trunk_of_plate {s t : State} (h : t.plate = s.plate) (i : Fin 16) : t.trunk i = s.trunk i := by
  rw [State.trunk, h]
  rfl

theorem trunk_modTrunk (s : State) (i j : Fin 16) (f : Trunk → Trunk) :
    (s.modTrunk j f).trunk i = if j = i then f (s.trunk i) else s.trunk i := by
  split
  · rename_i e
    rw [e, trunk_modTrunk_same]
  · exact trunk_modTrunk_other _ _ _ _ (Ne.symm ‹_›)

/-- A cabin's plate address is on a trunk. -/
def State.plateOn (s : State) (i : Fin 16) (c : Nat) : Bool := (s.cabinAt c).any fun x => onTrunk x.plate i

theorem trunk_joinPlateQueue (s : State) (c : Nat) (i : Fin 16) :
    (s.joinPlateQueue c).trunk i =
      if s.plateOn i c then (s.trunk i).joinTail s.plateClassNow c else s.trunk i := by
  rw [State.joinPlateQueue, State.plateOn]
  cases live : s.cabinAt c with
  | none => rfl
  | some x =>
    cases address : x.plate with
    | none => simp [onTrunk, address]
    | some p =>
      simp only [Option.bind_some, Option.any_some, onTrunk, address, trunk_modTrunk, decide_eq_true_eq]

/-- A face that changes joins a trunk's queue: its plate is there, and is owed anew. -/
def State.faceJoins (s : State) (i : Fin 16) (c : Nat) : Bool :=
  (s.cabinAt c).any fun x => x.owedAnew && onTrunk x.plate i

/-- What owing a plate anew makes of a cabin's record. -/
def Cabin.plateOwed (x : Cabin) : Cabin := { x with plateState := .pending, retries := 0 }

theorem faceRaised_eq (x : Cabin) :
    x.faceRaised = if x.owedAnew then { x with contentGen := raise x.contentGen }.plateOwed
      else { x with contentGen := raise x.contentGen } := by
  rw [Cabin.faceRaised]
  split <;> rfl

/-- A placed plate: owed anew if it was CURRENT or FAILED. -/
theorem placePlate_eq (s : State) (c : Nat) :
    s.placePlate c = if (s.cabinAt c).any Cabin.owedAnew then s.owePlate c else s := by
  rw [State.placePlate]
  cases s.cabinAt c with
  | none => rfl
  | some x =>
    cases state : x.plateState <;> simp [Cabin.owedAnew, state]

theorem cabinAt_placePlate (s : State) (c n : Nat) :
    (s.placePlate c).cabinAt n =
      (s.cabinAt n).map fun x => if n = c ∧ x.owedAnew = true then x.plateOwed else x := by
  rw [placePlate_eq]
  by_cases owed : (s.cabinAt c).any Cabin.owedAnew = true
  · rw [if_pos owed, State.owePlate, cabinAt_of_cabin (joinPlateQueue_keeps _ _).2.2.2.1, cabinAt_modCabin]
    by_cases e : n = c
    · subst e
      obtain ⟨x, live, anew⟩ := (Option.any_eq_true _ _).mp owed
      simp [live, anew, Cabin.plateOwed]
    · simp [e]
  · rw [if_neg owed]
    by_cases e : n = c
    · subst e
      cases live : s.cabinAt n with
      | none => rfl
      | some x =>
        rw [live, Option.any_some] at owed
        simp [owed]
    · simp [e]

theorem trunk_placePlate (s : State) (c : Nat) (i : Fin 16) :
    (s.placePlate c).trunk i = if s.faceJoins i c then (s.trunk i).joinTail s.plateClassNow c else s.trunk i := by
  rw [placePlate_eq, State.faceJoins]
  cases live : s.cabinAt c with
  | none => rfl
  | some x =>
    rw [Option.any_some, Option.any_some]
    cases x.owedAnew with
    | false => rfl
    | true =>
      have address : (s.modCabin c Cabin.plateOwed).plateOn i c = onTrunk x.plate i := by
        rw [State.plateOn, cabinAt_modCabin, live]
        simp [Cabin.plateOwed]
      have joined : (s.owePlate c).trunk i = _ := trunk_joinPlateQueue (s.modCabin c Cabin.plateOwed) c i
      rw [if_pos rfl, joined, address, Bool.true_and]
      rfl

theorem cabinAt_faceChanged (s : State) (c n : Nat) :
    (s.faceChanged c).cabinAt n = (s.cabinAt n).map fun x => if n = c then x.faceRaised else x := by
  rw [State.faceChanged, cabinAt_placePlate, State.raiseContent, cabinAt_modCabin, Option.map_map]
  congr 1
  funext x
  by_cases e : n = c
  · simp only [Function.comp, e, if_true, true_and, faceRaised_eq]
    rfl
  · simp [e]

theorem trunk_faceChanged (s : State) (c : Nat) (i : Fin 16) :
    (s.faceChanged c).trunk i = if s.faceJoins i c then (s.trunk i).joinTail s.plateClassNow c else s.trunk i := by
  have joins : (s.raiseContent c).faceJoins i c = s.faceJoins i c := by
    rw [State.faceJoins, State.raiseContent, cabinAt_modCabin, State.faceJoins]
    cases s.cabinAt c <;> simp [Cabin.owedAnew]
  rw [State.faceChanged, trunk_placePlate, joins]
  rfl

/-- A changed face is of no matter to the joining of another cabin. -/
theorem faceJoins_faceChanged (s : State) {c n : Nat} (other : n ≠ c) (i : Fin 16) :
    (s.faceChanged c).faceJoins i n = s.faceJoins i n := by
  rw [State.faceJoins, cabinAt_faceChanged, State.faceJoins]
  simp [other]

/-! ### Many changed faces -/

/-- The faces of the cabins of some slots change one after another. -/
def State.faceAll (s : State) (cs : List Nat) : State := cs.foldl State.faceChanged s

theorem facesChanged_eq (s : State) (cs : List (Nat × Cabin)) :
    s.facesChanged cs = s.faceAll ((inNumberOrder cs).map (·.1)) := by
  rw [State.facesChanged, State.faceAll, List.foldl_map]

theorem cabinAt_faceAll (s : State) {cs : List Nat} (once : cs.Nodup) (n : Nat) :
    (s.faceAll cs).cabinAt n = (s.cabinAt n).map fun x => if n ∈ cs then x.faceRaised else x := by
  induction cs generalizing s with
  | nil => simp [State.faceAll]
  | cons c cs ih =>
    obtain ⟨out, rest⟩ := List.nodup_cons.mp once
    have step : s.faceAll (c :: cs) = (s.faceChanged c).faceAll cs := rfl
    rw [step, ih _ rest, cabinAt_faceChanged, Option.map_map]
    congr 1
    funext x
    by_cases e : n = c
    · subst e
      simp [out]
    · simp [e]

/-- Cabins that join one class of a trunk, one after another. -/
def Trunk.joinAll (t : Trunk) (k : QueueClass) (cs : List Nat) : Trunk := cs.foldl (fun t c => t.joinTail k c) t

theorem Trunk.joinAll_eq (t : Trunk) (k : QueueClass) (cs : List Nat) :
    t.joinAll k cs = { t with
      urgent := t.urgent ++ if k = .urgent then cs else []
      ordinary := t.ordinary ++ if k = .urgent then [] else cs } := by
  induction cs generalizing t with
  | nil => simp [Trunk.joinAll]
  | cons c cs ih =>
    have step : t.joinAll k (c :: cs) = (t.joinTail k c).joinAll k cs := rfl
    rw [step, ih]
    cases k <;> simp [Trunk.joinTail]

theorem trunk_faceAll (s : State) {cs : List Nat} (once : cs.Nodup) (i : Fin 16) :
    (s.faceAll cs).trunk i = (s.trunk i).joinAll s.plateClassNow (cs.filter (s.faceJoins i)) := by
  induction cs generalizing s with
  | nil => rfl
  | cons c cs ih =>
    obtain ⟨out, rest⟩ := List.nodup_cons.mp once
    have step : s.faceAll (c :: cs) = (s.faceChanged c).faceAll cs := rfl
    have later : cs.filter ((s.faceChanged c).faceJoins i) = cs.filter (s.faceJoins i) :=
      List.filter_congr fun n mem => faceJoins_faceChanged s (ne_of_mem_of_not_mem mem out) i
    have class_ : (s.faceChanged c).plateClassNow = s.plateClassNow := by
      rw [State.plateClassNow, State.musterNow, (faceChanged_keeps s c).2.2.2.2.2.1]
      rfl
    rw [step, ih _ rest, later, class_, trunk_faceChanged, List.filter_cons]
    split <;> rfl

theorem plateClassNow_eq (s : State) :
    s.plateClassNow = if s.muster.state = .drill ∨ s.muster.state = .alarm then .urgent else .ordinary := by
  rw [State.plateClassNow, State.musterNow]
  cases s.muster.state <;> rfl

theorem faceJoins_iff (s : State) (i : Fin 16) (c : Nat) :
    s.faceJoins i c = true ↔ ∃ x p, s.cabinAt c = some x ∧ x.owedAnew = true ∧ x.plate = some p ∧ p.trunk = i := by
  simp only [State.faceJoins, onTrunk, Option.any_eq_true, Bool.and_eq_true, decide_eq_true_eq]
  constructor
  · rintro ⟨x, live, anew, p, address, there⟩
    exact ⟨x, p, live, anew, address, there⟩
  · rintro ⟨x, p, live, anew, address, there⟩
    exact ⟨x, live, anew, p, address, there⟩

/-- Faces that change are a matter of the cabins and the trunks. -/
theorem FacesRaised.of_blocks {s u t : State} {raised : Nat → Cabin → Bool} (h : FacesRaised s u raised)
    (cabin : t.cabin = u.cabin) (plate : t.plate = u.plate) : FacesRaised s t raised := by
  simpa only [FacesRaised, cabinAt_of_cabin cabin, trunk_of_plate plate] using h

/-- Changed faces, once and for all (R68): the content generations of the listed cabins are raised, and those whose
plates are owed anew join their trunks' queues in ascending cabin number. -/
theorem facesChanged_raises {s u : State} (sorted : Table.wf s.cabin.cabins = true) (cabin : u.cabin = s.cabin)
    (plate : u.plate = s.plate) (muster : u.muster = s.muster) (raised : Nat → Cabin → Bool) :
    FacesRaised s (u.facesChanged (s.cabin.cabins.filter fun r => raised r.1 r.2)) raised := by
  let cs := s.cabin.cabins.filter fun r => raised r.1 r.2
  let slots := (inNumberOrder cs).map (·.1)
  have listed : ∀ r, r ∈ inNumberOrder cs ↔ s.cabinAt r.1 = some r.2 ∧ raised r.1 r.2 = true := fun r => by
    rw [(inNumberOrder_perm cs).mem_iff, List.mem_filter]
    exact and_congr_left' (Table.get_iff_mem _ sorted r.1 r.2).symm
  have mem : ∀ c, c ∈ slots ↔ ∃ x, s.cabinAt c = some x ∧ raised c x = true := fun c => by
    rw [List.mem_map]
    constructor
    · rintro ⟨r, there, rfl⟩
      exact ⟨r.2, (listed r).mp there⟩
    · rintro ⟨x, there⟩
      exact ⟨(c, x), (listed (c, x)).mpr there, rfl⟩
  have once : slots.Nodup := by
    refine ((inNumberOrder_perm cs).map (·.1)).nodup_iff.mpr ?_
    exact (((Table.wf_iff _).mp sorted).imp Nat.ne_of_lt).sublist (List.filter_sublist.map _)
  have held : ∀ c, u.cabinAt c = s.cabinAt c := cabinAt_of_cabin cabin
  have joins : ∀ i, u.faceJoins i = s.faceJoins i := fun i => by
    funext c
    rw [State.faceJoins, held]
    rfl
  have class_ : u.plateClassNow = s.plateClassNow := by
    rw [State.plateClassNow, State.musterNow, muster]
    rfl
  rw [facesChanged_eq]
  refine ⟨fun c => ?_, fun i => ⟨slots.filter (s.faceJoins i), once.filter _, ?_, fun c => ?_, ?_⟩⟩
  · rw [cabinAt_faceAll u once, held]
    cases live : s.cabinAt c with
    | none => rfl
    | some x =>
      have reached : c ∈ slots ↔ raised c x = true := by simp [mem, live]
      simp only [Option.map_some, reached]
  · refine List.Pairwise.filter _ (List.pairwise_map.mpr ?_)
    refine (inNumberOrder_pairwise cs).imp_of_mem fun {r q : Nat × Cabin} hr hq order x y hx hy => ?_
    cases ((listed r).mp hr).1.symm.trans hx
    cases ((listed q).mp hq).1.symm.trans hy
    exact order
  · rw [List.mem_filter, mem, faceJoins_iff]
    constructor
    · rintro ⟨⟨x, live, reached⟩, y, p, live', owed⟩
      cases live.symm.trans live'
      exact ⟨x, p, live, reached, owed⟩
    · rintro ⟨x, p, live, reached, owed⟩
      exact ⟨⟨x, live, reached⟩, x, p, live, owed⟩
  · have trunk := trunk_faceAll u once i
    rw [joins, class_, trunk_of_plate plate, Trunk.joinAll_eq, plateClassNow_eq] at trunk
    refine trunk.trans ?_
    by_cases proper : s.muster.state = .drill ∨ s.muster.state = .alarm <;> simp [proper]

/-- What changed faces leave alone. -/
theorem facesChanged_frame (u : State) (cs : List (Nat × Cabin)) :
    u.facesChanged cs = { u with
      cabin := { u.cabin with cabins := (u.facesChanged cs).cabin.cabins }
      plate := { u.plate with trunks := (u.facesChanged cs).plate.trunks } } := by
  have placed : ∀ (v : State) (c : Nat), (v.faceChanged c).cabin.service = v.cabin.service ∧
      (v.faceChanged c).plate = { v.plate with trunks := (v.faceChanged c).plate.trunks } := fun v c => by
    rw [State.faceChanged, placePlate_eq]
    split
    · rw [State.owePlate, (joinPlateQueue_keeps _ _).2.2.2.1, State.joinPlateQueue]
      split <;> exact ⟨rfl, rfl⟩
    · exact ⟨rfl, rfl⟩
  have service : (u.facesChanged cs).cabin.service = u.cabin.service :=
    foldl_keeps (·.cabin.service) _ (fun v (r : Nat × Cabin) => (placed v r.1).1) _ u
  have inbound : (u.facesChanged cs).plate.inbound = u.plate.inbound :=
    foldl_keeps (·.plate.inbound) _ (fun v (r : Nat × Cabin) => by rw [(placed v r.1).2]) _ u
  have period : (u.facesChanged cs).plate.surveyPeriod = u.plate.surveyPeriod :=
    foldl_keeps (·.plate.surveyPeriod) _ (fun v (r : Nat × Cabin) => by rw [(placed v r.1).2]) _ u
  have limit : (u.facesChanged cs).plate.holdLimit = u.plate.holdLimit :=
    foldl_keeps (·.plate.holdLimit) _ (fun v (r : Nat × Cabin) => by rw [(placed v r.1).2]) _ u
  refine eq_of_blocks ?_ ?_ ?_ (cabin := ?cabin) (plate := ?plate) ?_ ?_ ?_ ?_ ?_ ?_
  case cabin => exact congrArg (CabinTable.mk (u.facesChanged cs).cabin.cabins) service
  case plate =>
    show _ = PlateBus.mk _ u.plate.inbound u.plate.surveyPeriod u.plate.holdLimit
    rw [← inbound, ← period, ← limit]
  all_goals simp

/-! ### The trunks' pick and the Service Port -/

/-- The state with another Service Port. -/
def State.withPort (s : State) (p : ServicePort) : State := { s with port := p }

theorem startWrite_withPort (s : State) (p : ServicePort) (i : Fin 16) (c : Nat) (k : QueueClass) :
    (s.withPort p).startWrite i c k = (s.startWrite i c k).withPort p := by
  rw [State.startWrite, State.startWrite, show (s.withPort p).cabinAt c = s.cabinAt c from rfl]
  cases s.cabinAt c <;> rfl

theorem pickOrdinary_withPort (s : State) (p : ServicePort) (i : Fin 16) :
    (s.withPort p).pickOrdinary i = (s.pickOrdinary i).withPort p := by
  rw [State.pickOrdinary, State.pickOrdinary, show (s.withPort p).trunk i = s.trunk i from rfl]
  cases (s.trunk i).ordinary with
  | nil => rfl
  | cons c cs => exact startWrite_withPort s p i c .ordinary

theorem pickSurvey_withPort (s : State) (p : ServicePort) (i : Fin 16) :
    (s.withPort p).pickSurvey i = (s.pickSurvey i).withPort p := by
  rw [State.pickSurvey, State.pickSurvey, show (s.withPort p).trunk i = s.trunk i from rfl,
    show (s.withPort p).freeEntries = s.freeEntries from rfl,
    show (s.withPort p).surveyPlate i = s.surveyPlate i from rfl]
  split
  · cases s.surveyPlate i with
    | none => exact pickOrdinary_withPort (s.modTrunk i fun t => { t with surveyDue := false }) p i
    | some a => rfl
  · exact pickOrdinary_withPort s p i

theorem pick_withPort (s : State) (p : ServicePort) (i : Fin 16) :
    (s.withPort p).pick i = (s.pick i).withPort p := by
  rw [State.pick, State.pick, show (s.withPort p).trunk i = s.trunk i from rfl,
    show (s.withPort p).musterNow = s.musterNow from rfl]
  split
  · split
    · rfl
    · cases (s.trunk i).urgent with
      | nil => exact pickSurvey_withPort s p i
      | cons c cs => exact startWrite_withPort s p i c .urgent
  · rfl

/-- The trunks pick whatever the Service Port holds. -/
theorem pickAll_withPort (s : State) (p : ServicePort) : (s.withPort p).pickAll = s.pickAll.withPort p := by
  have fold : ∀ (is : List (Fin 16)) (u : State),
      is.foldl State.pick (u.withPort p) = (is.foldl State.pick u).withPort p := fun is => by
    induction is with
    | nil => exact fun _ => rfl
    | cons i is ih => exact fun u => by rw [List.foldl_cons, pick_withPort, ih, List.foldl_cons]
  exact fold allTrunks s

theorem pickAll_withEventsOf (u s : State) : u.pickAll.withEventsOf s = (u.withEventsOf s).pickAll := by
  have events : u.pickAll.withEventsOf s = u.pickAll.withPort { s.port with events := u.port.events } := by
    rw [State.withEventsOf, (pickAll_keeps u).2.2.2.2.2.2.2.1]
    rfl
  rw [events, ← pickAll_withPort]
  rfl

end Sys2Proof.Machine
end

section
/-! STATION_BLOCK and STATION_UNBLOCK: the effective stations (R51), what the move of the affected cabins does to the
records of the targets, and the notice of an over flag that is set (R53 to R55). -/

namespace Sys2Proof.Machine

/-! ### The effective station (R51) -/

/-- A cabin may be assigned to a target: it is a live STATION and not blocked. -/
def State.serves (s : State) (k : Nat) : Prop := ∃ st, s.stationAt k = some st ∧ st.blocked = false

theorem unblocked_iff (s : State) (k : Nat) : s.unblocked k = true ↔ s.serves k := by
  rw [State.unblocked, State.serves]
  cases s.stationAt k <;> simp

theorem effective_primary {s : State} {x : Cabin} (serves : s.serves x.primary) : s.effective x = some x.primary := by
  rw [State.effective, if_pos ((unblocked_iff s _).mpr serves)]

theorem effective_alternate {s : State} {x : Cabin} {a : Nat} (primary : ¬s.serves x.primary)
    (alternate : x.alternate = some a) (serves : s.serves a) : s.effective x = some a := by
  rw [State.effective, if_neg (mt (unblocked_iff s _).mp primary), alternate]
  exact if_pos ((unblocked_iff s a).mpr serves)

theorem effective_none {s : State} {x : Cabin} (primary : ¬s.serves x.primary)
    (alternate : ∀ a, x.alternate = some a → ¬s.serves a) : s.effective x = none := by
  rw [State.effective, if_neg (mt (unblocked_iff s _).mp primary)]
  cases e : x.alternate with
  | none => rfl
  | some a => exact if_neg (mt (unblocked_iff s a).mp (alternate a e))

/-! ### The notice of an over flag (R53) -/

/-- Judging tells of a flag that goes from clear to set, and of nothing else. -/
theorem judgeOver_port (s before : State) :
    (s.judgeOver before).port = if (s.toJudge before).any (fun k => (s.stationAt k).any fun st =>
        !st.overFlag && st.isOver) then { s.port with events := s.port.events ||| Notice.stationOver.flag }
      else s.port := by
  have judged : (s.judge (s.toJudge before)).port = s.port :=
    foldl_keeps (fun u : State => u.port) _ (fun _ _ => by rfl) _ s
  have told : s.judgeOver before = if (s.toJudge before).any (fun k => (s.stationAt k).any fun st =>
      !st.overFlag && st.isOver) then (s.judge (s.toJudge before)).raiseNotice .stationOver
      else s.judge (s.toJudge before) := rfl
  rw [told]
  split
  · rw [State.raiseNotice, judged]
  · exact judged

theorem mem_toJudge_live {s before : State} {k : Nat} (h : k ∈ s.toJudge before) : (s.targetAt k).isSome := by
  rw [State.toJudge, List.mem_filter] at h
  have := mt (Table.get_eq_none_iff s.target.targets k).mp (not_not.mpr h.1)
  exact Option.isSome_iff_ne_none.mpr this

/-- If no over flag has moved since a state, judging against it sets some flag exactly if a station that is judged is
over with its flag clear. -/
theorem overSet_judgeOver {s before : State} (same : ∀ k, s.flagAt k = before.flagAt k) :
    OverSet before (s.judgeOver before) ↔
      (s.toJudge before).any (fun k => (s.stationAt k).any fun st => !st.overFlag && st.isOver) = true := by
  simp only [OverSet, List.any_eq_true, Option.any_eq_true, Bool.and_eq_true, Bool.not_eq_true', stationAt_judgeOver]
  constructor
  · rintro ⟨k, a, b, was, now, clear, set⟩
    obtain ⟨st, live, rfl⟩ := Option.map_eq_some_iff.mp now
    have flag : st.overFlag = a.overFlag := by simpa [State.flagAt, was, live] using same k
    by_cases judged : k ∈ s.toJudge before
    · rw [if_pos judged] at set
      exact ⟨k, judged, st, live, flag.trans clear, set⟩
    · rw [if_neg judged, flag, clear] at set
      cases set
  · rintro ⟨k, judged, st, live, clear, full⟩
    have shown := same k
    rw [State.flagAt, State.flagAt, live, Option.map_some, eq_comm, Option.map_eq_some_iff] at shown
    obtain ⟨a, was, flag⟩ := shown
    exact ⟨k, a, _, was, by rw [live, Option.map_some, if_pos judged], flag.trans clear, full⟩

theorem portTellsOver_judgeOver {s before : State} (same : ∀ k, s.flagAt k = before.flagAt k)
    (port : s.port = before.port) : PortTellsOver before (s.judgeOver before) := by
  rw [PortTellsOver, overSet_judgeOver same, judgeOver_port, port]
  exact ⟨fun told => if_pos told, fun silent => if_neg silent⟩

/-- What the port tells of over flags is a matter of the targets and the port. -/
theorem PortTellsOver.of_blocks {s t u : State} (h : PortTellsOver s t) (target : u.target = t.target)
    (port : u.port = t.port) : PortTellsOver s u := by
  simpa only [PortTellsOver, OverSet, stationAt_of_target target, port] using h

/-- The status byte that opened the request does not enter into what the port tells. -/
theorem PortTellsOver.of_request {s t : State} (h : PortTellsOver s.beginRequest t) :
    PortTellsOver s (t.withEventsOf s) := by
  obtain ⟨told, silent⟩ := h
  refine ⟨fun set => ?_, fun none => ?_⟩
  · rw [State.withEventsOf, told set]
    rfl
  · rw [State.withEventsOf, silent none]
    rfl

/-! ### Figures that move with the cabins (R52) -/

/-- The targets' part of the invariants stays right where only blocked flags and figures of targets move, and the
figures and over flags that come of it are right. -/
theorem TargetsRight.refigured {s t : State} (h : TargetsRight s) (cabin : t.cabin = s.cabin)
    (programme : t.programme = s.programme) (screen : t.screen = s.screen)
    (letters : ∀ k, (t.stationAt k).map (·.letter) = (s.stationAt k).map (·.letter))
    (refs : ∀ k, t.refsAt k = s.refsAt k)
    (tallies : ∀ g k n, t.figureAt g k = some n → n = t.tally g (some k)) (flags : t.flagsRight)
    (unassigned : t.target.unassigned = t.tally .assigned none) : TargetsRight t := by
  have station : ∀ k, (t.stationAt k).isSome = (s.stationAt k).isSome := fun k => by
    simpa using congrArg Option.isSome (letters k)
  have target : ∀ k, (t.targetAt k).isSome = (s.targetAt k).isSome := fun k => by
    simpa [State.refsAt] using congrArg Option.isSome (refs k)
  have venue : ∀ k, s.isVenue k → t.isVenue k := fun k ⟨v, live, plain⟩ => by
    obtain ⟨w, there⟩ := Option.isSome_iff_exists.mp ((target k).trans (by rw [live]; rfl))
    refine ⟨w, there, ?_⟩
    simpa [State.stationAt, there, live, plain] using station k
  refine ⟨cabinNames_of_views station (by rw [cabin]) h.cabins, venues_of_views venue (by rw [programme]) h.venues,
    screenNames_of_views station target (by rw [screen]) h.screens, fun j k a b hj hk same => ?_, fun k n hk => ?_,
    tallies, flags, unassigned⟩
  · have ej := letters j
    have ek := letters k
    rw [hj, Option.map_some, eq_comm, Option.map_eq_some_iff] at ej
    rw [hk, Option.map_some, eq_comm, Option.map_eq_some_iff] at ek
    obtain ⟨a', ha, la⟩ := ej
    obtain ⟨b', hb, lb⟩ := ek
    exact h.letters j k a' b' ha hb (la.trans (same.trans lb.symm))
  · rw [refs] at hk
    exact (h.refs k n hk).trans
      (claimsOnTarget_of_views (by rw [cabin]) (by rw [programme]) (by rw [screen]) k).symm

/-! ### What a target keeps while figures move -/

/-- A station's record, its figures and its over flag apart. -/
def Station.tallyless (st : Station) : Station := { st.emptied with overFlag := false }

/-- A target's record, the figures and the over flag of a station apart. -/
def Target.tallyless (x : Target) : Target := { x with station := x.station.map Station.tallyless }

theorem tallyless_modStation (s : State) (k : Nat) (f : Station → Station) (h : ∀ st, (f st).tallyless = st.tallyless) :
    Table.view Target.tallyless (s.modStation k f).target.targets = Table.view Target.tallyless s.target.targets := by
  have same : ∀ x : Target, ({ x with station := x.station.map f } : Target).tallyless = x.tallyless := fun x => by
    simp only [Target.tallyless, Option.map_map]
    congr 2
    funext st
    exact h st
  exact Table.view_modify Target.tallyless _ s.target.targets k same

theorem tallyless_contributeAll (s : State) (cs : List Cabin) :
    Table.view Target.tallyless (s.contributeAll cs).target.targets = Table.view Target.tallyless s.target.targets := by
  refine foldl_keeps (fun u : State => Table.view Target.tallyless u.target.targets) _ (fun u c => ?_) cs s
  rw [State.contribute]
  split
  · exact tallyless_modStation u _ _ fun _ => by rfl
  · rfl

theorem tallyless_withdrawAll (s : State) (cs : List Cabin) :
    Table.view Target.tallyless (s.withdrawAll cs).target.targets = Table.view Target.tallyless s.target.targets := by
  refine foldl_keeps (fun u : State => Table.view Target.tallyless u.target.targets) _ (fun u c => ?_) cs s
  rw [State.withdraw]
  split
  · exact tallyless_modStation u _ _ fun _ => by rfl
  · rfl

theorem tallyless_judgeOver (s before : State) :
    Table.view Target.tallyless (s.judgeOver before).target.targets = Table.view Target.tallyless s.target.targets := by
  rw [judgeOver_target, State.judge]
  exact foldl_keeps (fun u : State => Table.view Target.tallyless u.target.targets) _
    (fun u k => tallyless_modStation u k _ fun _ => by rfl) _ s

/-- What a blocked flag changes of a target's record. -/
def Target.withBlocked (blocked : Bool) (x : Target) : Target :=
  { x with station := x.station.map fun st => { st with blocked } }

theorem tallyless_withBlocked (blocked : Bool) (x : Target) :
    (x.withBlocked blocked).tallyless = x.tallyless.withBlocked blocked := by
  rw [Target.withBlocked, Target.tallyless, Target.tallyless, Target.withBlocked]
  cases x.station <;> rfl

theorem tallyless_flagged (s : State) (k : Nat) (blocked : Bool) :
    Table.view Target.tallyless (s.flagged k blocked).target.targets =
      Table.modify (Table.view Target.tallyless s.target.targets) k (Target.withBlocked blocked) :=
  view_modify_comm Target.tallyless (Target.withBlocked blocked) (Target.withBlocked blocked)
    (tallyless_withBlocked blocked) s.target.targets k

/-- The state of a block or unblock once figures and over flags are right, before the faces change (R55, step 4). -/
def State.rejudged (s : State) (k : Nat) (blocked : Bool) : State := (s.reblocked k blocked).judgeOver s

theorem tallyless_rejudged (s : State) (k : Nat) (blocked : Bool) :
    Table.view Target.tallyless (s.rejudged k blocked).target.targets =
      Table.modify (Table.view Target.tallyless s.target.targets) k (Target.withBlocked blocked) := by
  rw [State.rejudged, tallyless_judgeOver, State.reblocked, tallyless_contributeAll, tallyless_flagged,
    tallyless_withdrawAll]

/-- A target after a block or unblock: figures and over flag apart, its record is as before but for the flag. -/
theorem targetAt_rejudged (s : State) (k : Nat) (blocked : Bool) (j : Nat) :
    ((s.rejudged k blocked).targetAt j).map Target.tallyless =
      (s.targetAt j).map fun x => if j = k then (x.withBlocked blocked).tallyless else x.tallyless := by
  have shown := congrArg (fun u => Table.get u j) (tallyless_rejudged s k blocked)
  simp only [Table.get_modify, Table.get_view] at shown
  refine shown.trans ?_
  split
  · rw [Option.map_map]
    congr 1
    funext x
    exact (tallyless_withBlocked blocked x).symm
  · rfl

/-! ### The blocked flag changes (R55) -/

theorem rejudged_keeps (s : State) (k : Nat) (blocked : Bool) :
    (s.rejudged k blocked).graph = s.graph ∧ (s.rejudged k blocked).route = s.route ∧
    (s.rejudged k blocked).cabin = s.cabin ∧ (s.rejudged k blocked).plate = s.plate ∧
    (s.rejudged k blocked).programme = s.programme ∧ (s.rejudged k blocked).screen = s.screen ∧
    (s.rejudged k blocked).muster = s.muster ∧ (s.rejudged k blocked).fresh = s.fresh ∧
    (s.rejudged k blocked).pending = s.pending := by
  simp [State.rejudged, State.reblocked, State.flagged]

theorem plans_rejudged (s : State) (k : Nat) (blocked : Bool) :
    Table.view Target.plan (s.rejudged k blocked).target.targets =
      Table.view Target.plan (s.flagged k blocked).target.targets :=
  (plans_judgeOver _ _).trans (plans_reblocked _ _ _)

theorem effective_rejudged (s : State) (k : Nat) (blocked : Bool) :
    (s.rejudged k blocked).effective = (s.flagged k blocked).effective := effective_of_plans (plans_rejudged s k blocked)

theorem tally_rejudged (s : State) (k : Nat) (blocked : Bool) (g : Figure) (p : Option Nat) :
    (s.rejudged k blocked).tally g p = s.tally g p - share s.effective p g (s.movedBy k blocked) +
      share (s.flagged k blocked).effective p g (s.movedBy k blocked) := by
  rw [tally_reblocked, State.tally, effective_rejudged, (rejudged_keeps s k blocked).2.2.1]

theorem rejudged_right {s : State} (h : TargetsRight s) (k : Nat) (blocked : Bool) :
    TargetsRight (s.rejudged k blocked) := by
  obtain ⟨_, _, cabin, _, programme, screen, _⟩ := rejudged_keeps s k blocked
  obtain ⟨figures, unassigned⟩ := figures_reblocked s k blocked
  refine h.refigured cabin programme screen
    (fun j => (letterAt_of_plans (plans_rejudged s k blocked) j).trans (stationAt_flagged_shows s k blocked j))
    (fun j => (refsAt_judgeOver _ _ j).trans (refsAt_reblocked s k blocked j)) (fun g j n hj => ?_)
    (flagsRight_judgeOver h.flags (flagAt_reblocked s k blocked)) ?_
  · rw [State.rejudged, figureAt_judgeOver, figures, Option.map_eq_some_iff] at hj
    obtain ⟨m, hm, rfl⟩ := hj
    rw [tally_rejudged, h.tallies g j m hm]
  · rw [State.rejudged, unassigned_judgeOver, unassigned, h.unassigned]
    exact (tally_rejudged s k blocked .assigned none).symm

/-- The state of a block or unblock with faces changed and marks made, before the trunks pick. -/
def State.blockMoved (s : State) (k : Nat) (blocked : Bool) : State := (s.setBlocked k blocked).mark everyMuster

theorem changeBlocked_eq (s : State) (k : Nat) (blocked : Bool) :
    s.changeBlocked k blocked = (s.blockMoved k blocked).pickAll := rfl

theorem setBlocked_rejudged (s : State) (k : Nat) (blocked : Bool) :
    s.setBlocked k blocked = (s.rejudged k blocked).facesChanged ((s.flagged k blocked).reassigned s) := rfl

theorem blockMoved_target (s : State) (k : Nat) (blocked : Bool) :
    (s.blockMoved k blocked).target = (s.rejudged k blocked).target := by
  rw [State.blockMoved, (mark_keeps _ _).2.2.1, setBlocked_rejudged, (facesChanged_keeps _ _).2.2.1]

theorem blockMoved_port (s : State) (k : Nat) (blocked : Bool) :
    (s.blockMoved k blocked).port = (s.rejudged k blocked).port := by
  rw [State.blockMoved, (mark_keeps _ _).2.2.2.2.2.2.2.1, setBlocked_rejudged,
    (facesChanged_keeps _ _).2.2.2.2.2.2.1]

theorem rejudged_port (s : State) (k : Nat) (blocked : Bool) :
    (s.rejudged k blocked).port = { s.port with events := (s.rejudged k blocked).port.events } := by
  have port : (s.reblocked k blocked).port = s.port := by simp [State.reblocked, State.flagged]
  rw [State.rejudged, judgeOver_port, port]
  split <;> rfl

/-- What a change of a blocked flag leaves alone. -/
theorem blockMoved_frame (s : State) (k : Nat) (blocked : Bool) :
    s.blockMoved k blocked = { s with
      target := (s.blockMoved k blocked).target
      cabin := { s.cabin with cabins := (s.blockMoved k blocked).cabin.cabins }
      plate := { s.plate with trunks := (s.blockMoved k blocked).plate.trunks }
      screen := (s.blockMoved k blocked).screen
      port := { s.port with events := (s.blockMoved k blocked).port.events } } := by
  obtain ⟨graph, route, cabin, plate, programme, _, muster, fresh, pending⟩ := rejudged_keeps s k blocked
  have faces := facesChanged_frame (s.rejudged k blocked) ((s.flagged k blocked).reassigned s)
  refine eq_of_blocks ?_ ?_ rfl (cabin := ?cabin) (plate := ?plate) ?_ rfl ?_ (port := ?port) ?_ ?_
  case cabin =>
    rw [State.blockMoved, (mark_keeps _ _).2.2.2.1, setBlocked_rejudged, faces, cabin]
  case plate =>
    rw [State.blockMoved, (mark_keeps _ _).2.2.2.2.1, setBlocked_rejudged, faces, plate]
  case port =>
    rw [blockMoved_port, rejudged_port]
  all_goals rw [State.blockMoved, setBlocked_rejudged]; simp [graph, route, programme, muster, fresh, pending]

theorem effective_blockMoved (s : State) (k : Nat) (blocked : Bool) :
    (s.blockMoved k blocked).effective = (s.flagged k blocked).effective := by
  rw [← effective_rejudged]
  exact effective_of_plans (by rw [blockMoved_target])

/-- The affected cabins (R55, step 2) are those whose effective station differs once all is done. -/
theorem reassigned_blockMoved (s : State) (k : Nat) (blocked : Bool) :
    (s.flagged k blocked).reassigned s =
      s.cabin.cabins.filter fun r => decide (s.effective r.2 ≠ (s.blockMoved k blocked).effective r.2) := by
  rw [effective_blockMoved]
  refine List.filter_congr fun r _ => ?_
  rw [decide_eq_decide]
  exact ne_comm

theorem blockMoved_inv {s : State} (inv : TargetInv s) (k : Nat) (blocked : Bool) : TargetInv (s.blockMoved k blocked) := by
  have right := rejudged_right ((targetsRight_iff s).mpr inv) k blocked
  refine (targetsRight_iff _).mp (right.of_views (blockMoved_target s k blocked) ?_ ?_ ?_)
  · rw [State.blockMoved, (mark_keeps _ _).2.2.2.1, setBlocked_rejudged, stakes_facesChanged]
  · rw [State.blockMoved, (mark_keeps _ _).2.2.2.2.2.1, setBlocked_rejudged, (facesChanged_keeps _ _).2.2.2.1]
  · rw [State.blockMoved, stakes_mark, setBlocked_rejudged, (facesChanged_keeps _ _).2.2.2.2.1]

theorem blockMoved_faces {s : State} (sorted : Table.wf s.cabin.cabins = true) (k : Nat) (blocked : Bool) :
    FacesRaised s (s.blockMoved k blocked)
      fun _ x => decide (s.effective x ≠ (s.blockMoved k blocked).effective x) := by
  obtain ⟨_, _, cabin, plate, _, _, muster, _⟩ := rejudged_keeps s k blocked
  have faces := facesChanged_raises sorted cabin plate muster
    fun _ x => decide (s.effective x ≠ (s.blockMoved k blocked).effective x)
  rw [← reassigned_blockMoved] at faces
  exact faces.of_blocks (mark_keeps _ _).2.2.2.1 (mark_keeps _ _).2.2.2.2.1

theorem blockMoved_tells (s : State) (k : Nat) (blocked : Bool) : PortTellsOver s (s.blockMoved k blocked) :=
  (portTellsOver_judgeOver (flagAt_reblocked s k blocked)
    (by simp [State.reblocked, State.flagged])).of_blocks (blockMoved_target s k blocked) (blockMoved_port s k blocked)

theorem blockMoved_marks {s : State} (sorted : Table.wf s.screen.screens = true) (k : Nat) (blocked : Bool) :
    MarkedBy s (s.blockMoved k blocked) everyMuster := by
  have screen : (s.setBlocked k blocked).screen = s.screen := (setBlocked_keeps s k blocked).2.2.2.1
  exact (mark_marks (s.setBlocked k blocked) everyMuster (by rw [screen]; exact sorted)).of_screen screen.symm rfl

theorem targetAt_blockMoved (s : State) (k : Nat) (blocked : Bool) (j : Nat) :
    ((s.blockMoved k blocked).targetAt j).map Target.tallyless =
      (s.targetAt j).map fun x => if j = k then (x.withBlocked blocked).tallyless else x.tallyless := by
  rw [← targetAt_rejudged, State.targetAt, blockMoved_target]
  rfl

theorem targetAt_blockMoved_none {s : State} {k : Nat} {blocked : Bool} {j : Nat} (free : s.targetAt j = none) :
    (s.blockMoved k blocked).targetAt j = none := by
  simpa [free] using targetAt_blockMoved s k blocked j

/-- Records that agree, figures and over flag apart. -/
theorem agree_of_tallyless {x y : Target} (same : y.tallyless = x.tallyless) :
    y = { x with station := y.station } ∧ (x.station = none → y.station = none) ∧
    ∀ a, x.station = some a → ∃ b, y.station = some b ∧ b.letter = a.letter ∧ b.capacity = a.capacity ∧
      b.blocked = a.blocked := by
  obtain ⟨anchor, label, refs, station⟩ := x
  obtain ⟨anchor', label', refs', station'⟩ := y
  simp only [Target.tallyless, Target.mk.injEq] at same
  obtain ⟨rfl, rfl, rfl, same⟩ := same
  refine ⟨rfl, fun venue => ?_, fun a held => ?_⟩
  · cases venue
    simpa using same
  · cases held
    rw [Option.map_some, Option.map_eq_some_iff] at same
    obtain ⟨b, now, same⟩ := same
    exact ⟨b, now, congrArg (·.letter) same, congrArg (·.capacity) same, congrArg (·.blocked) same⟩

/-- A target after a change of a blocked flag: the flag of the one, and the figures and over flags of stations. -/
theorem targetAt_blockMoved_some {s : State} {k : Nat} {blocked : Bool} {j : Nat} {x : Target}
    (live : s.targetAt j = some x) :
    ∃ y, (s.blockMoved k blocked).targetAt j = some y ∧ y = { x with station := y.station } ∧
      (x.station = none → y.station = none) ∧
      ∀ a, x.station = some a → ∃ b, y.station = some b ∧ b.letter = a.letter ∧ b.capacity = a.capacity ∧
        b.blocked = if j = k then blocked else a.blocked := by
  have shown := targetAt_blockMoved s k blocked j
  rw [live, Option.map_some, Option.map_eq_some_iff] at shown
  obtain ⟨y, there, same⟩ := shown
  refine ⟨y, there, ?_⟩
  by_cases mine : j = k
  · rw [if_pos mine] at same
    obtain ⟨record, venue, kept⟩ := agree_of_tallyless same
    refine ⟨record, fun none => venue (by rw [Target.withBlocked, none]; rfl), fun a held => ?_⟩
    obtain ⟨b, now, letter, capacity, flag⟩ := kept { a with blocked } (by rw [Target.withBlocked, held]; rfl)
    exact ⟨b, now, letter, capacity, flag.trans (if_pos mine).symm⟩
  · rw [if_neg mine] at same
    obtain ⟨record, venue, kept⟩ := agree_of_tallyless same
    refine ⟨record, venue, fun a held => ?_⟩
    obtain ⟨b, now, letter, capacity, flag⟩ := kept a held
    exact ⟨b, now, letter, capacity, flag.trans (if_neg mine).symm⟩

/-! ### The request (R54) -/

theorem stationSet_out_of_range {k : Nat} (out : 63 < k) (blocked : Bool) (s : State) :
    stationSet blocked k s = (s, .refuse .badField) := by
  rw [stationSet, if_pos (targetSlots_le out)]

theorem stationSet_not_found {k : Nat} (within : k ≤ 63) (blocked : Bool) {s : State} (free : s.targetAt k = none) :
    stationSet blocked k s = (s, .refuse .notFound) := by
  rw [stationSet, if_neg (not_targetSlots_le within), free]

theorem stationSet_venue {k : Nat} (within : k ≤ 63) (blocked : Bool) {s : State} {x : Target}
    (live : s.targetAt k = some x) (venue : x.station = none) :
    stationSet blocked k s = (s, .because .badField .kind) := by
  rw [stationSet, if_neg (not_targetSlots_le within), live]
  dsimp only
  rw [venue]

/-- A STATION_BLOCK or STATION_UNBLOCK of a live STATION. -/
theorem stationSet_station {k : Nat} (within : k ≤ 63) (blocked : Bool) {s : State} {st : Station}
    (live : s.stationAt k = some st) :
    stationSet blocked k s = if st.blocked = blocked then
        (s, .done (u8 Outcome.unchanged.code ++ u16 0 ++ st.tallyBytes))
      else (s.changeBlocked k blocked, .done (u8 Outcome.changed.code ++ u16 (s.affectedCount k blocked) ++
        (((s.changeBlocked k blocked).stationAt k).map (·.tallyBytes)).getD [])) := by
  obtain ⟨x, target, station⟩ := Option.bind_eq_some_iff.mp live
  rw [stationSet, if_neg (not_targetSlots_le within), target]
  dsimp only
  rw [station]

/-- The effect and the answer of a change (R55). -/
theorem serve_stationSet_changes {s : State} {k : Nat} (within : k ≤ 63) (tag : Byte) (blocked : Bool)
    (ready : s.loading = false) {st st' : Station} (live : s.stationAt k = some st) (differs : st.blocked ≠ blocked)
    (now : (s.beginRequest.blockMoved k blocked).stationAt k = some st') :
    let t := (s.beginRequest.blockMoved k blocked).withEventsOf s
    serve tag (some k) true (stationSet blocked) s = s.answering t.pickAll tag .done ([3#8] ++
      u16 (s.cabin.cabins.filter fun r => decide (s.effective r.2 ≠ t.effective r.2)).length ++
      u16 st'.assigned ++ u16 st'.swept ++ u16 st'.occupied) := by
  intro t
  have made := stationSet_station within blocked (s := s.beginRequest) live
  have after : (s.beginRequest.changeBlocked k blocked).stationAt k = some st' := by
    rw [changeBlocked_eq, stationAt_of_target (pickAll_keeps _).2.2.1, now]
  have count : s.beginRequest.affectedCount k blocked =
      (s.cabin.cabins.filter fun r => decide (s.effective r.2 ≠ t.effective r.2)).length := by
    rw [effective_withEventsOf, ← effective_beginRequest]
    exact congrArg List.length (reassigned_blockMoved s.beginRequest k blocked)
  rw [if_neg differs, after, count, Option.map_some, Option.getD_some] at made
  have frame := blockMoved_frame s.beginRequest k blocked
  have port : (s.beginRequest.changeBlocked k blocked).port =
      { s.beginRequest.port with events := (s.beginRequest.changeBlocked k blocked).port.events } := by
    rw [changeBlocked_eq, (pickAll_keeps _).2.2.2.2.2.2.2.1, frame]
  have fresh : (s.beginRequest.changeBlocked k blocked).fresh = s.fresh := by
    rw [changeBlocked_eq, (pickAll_keeps _).2.2.2.2.2.2.2.2.1]
    exact (congrArg State.fresh frame).trans rfl
  rw [serve_noticed tag k (stationSet blocked) s ready made port fresh, changeBlocked_eq, pickAll_withEventsOf]
  simp only [Reply.done, Station.tallyBytes, List.append_assoc]
  rfl

/-- STATION_BLOCK and STATION_UNBLOCK by the case of their table (R54, R55). -/
theorem stationSet_meets {s : State} (ready : s.loading = false) (tables : TablesWf s) (inv : TargetInv s) (tag : Byte)
    (k : Nat) (block : Bool) (i : Instr) (taken : exec i s = .next (serve tag (some k) true (stationSet block) s)) :
    (63 < k → exec i s = .next (s.answering s tag .badField [])) ∧
    (k ≤ 63 → s.targetAt k = none → exec i s = .next (s.answering s tag .notFound [])) ∧
    (∀ x, k ≤ 63 → s.targetAt k = some x → x.station = none →
      exec i s = .next (s.answering s tag .badField [8#8])) ∧
    (∀ st, k ≤ 63 → s.stationAt k = some st → st.blocked = block →
      exec i s = .next (s.answering s tag .done ([2#8, 0#8, 0#8] ++ u16 st.assigned ++ u16 st.swept ++
        u16 st.occupied))) ∧
    (∀ st, k ≤ 63 → s.stationAt k = some st → st.blocked ≠ block →
      ∃ (t : State) (st' : Station), exec i s = .next (s.answering t.pickAll tag .done ([3#8] ++
          u16 (s.cabin.cabins.filter fun r => decide (s.effective r.2 ≠ t.effective r.2)).length ++
          u16 st'.assigned ++ u16 st'.swept ++ u16 st'.occupied)) ∧
        t = { s with target := t.target, cabin := { s.cabin with cabins := t.cabin.cabins },
                     plate := { s.plate with trunks := t.plate.trunks }, screen := t.screen, port := t.port } ∧
        t.stationAt k = some st' ∧ st'.blocked = block ∧
        (∀ j, s.targetAt j = none → t.targetAt j = none) ∧
        (∀ j x, s.targetAt j = some x → ∃ x', t.targetAt j = some x' ∧
          x' = { x with station := x'.station } ∧
          (x.station = none → x'.station = none) ∧
          ∀ a, x.station = some a → ∃ a', x'.station = some a' ∧ a'.letter = a.letter ∧
            a'.capacity = a.capacity ∧ (j ≠ k → a'.blocked = a.blocked)) ∧
        TargetInv t ∧
        FacesRaised s t (fun _ x => decide (s.effective x ≠ t.effective x)) ∧
        PortTellsOver s t ∧
        MarkedBy s t fun _ _ q => decide (q = .muster)) := by
  have refused : ∀ r, stationSet block k s.beginRequest = (s.beginRequest, r) →
      exec i s = .next (s.answering s tag r.result r.body) := fun r same => by
    rw [taken, serve_refused tag k (stationSet block) s r ready same]
  refine ⟨fun out => refused _ (stationSet_out_of_range out block _),
    fun within free => refused _ (stationSet_not_found within block (s := s.beginRequest) free),
    fun x within live venue => refused _ (stationSet_venue within block (s := s.beginRequest) live venue),
    fun st within live same => ?_, fun st within live differs => ?_⟩
  · have answer := refused (.done (u8 Outcome.unchanged.code ++ u16 0 ++ st.tallyBytes))
      ((stationSet_station within block (s := s.beginRequest) live).trans (if_pos same))
    rw [answer]
    simp only [Reply.done, Station.tallyBytes, List.append_assoc]
    rfl
  · obtain ⟨x, target, station⟩ := Option.bind_eq_some_iff.mp live
    obtain ⟨y, there, _, _, kept⟩ := targetAt_blockMoved_some (k := k) (blocked := block) (s := s.beginRequest) target
    obtain ⟨st', now, _, _, flag⟩ := kept st station
    have stationNow : (s.beginRequest.blockMoved k block).stationAt k = some st' := by
      rw [State.stationAt, there]
      exact now
    have sorted := sorted_of_tables tables
    refine ⟨(s.beginRequest.blockMoved k block).withEventsOf s, st', ?_, ?_, stationNow, flag.trans (if_pos rfl),
      fun j free => targetAt_blockMoved_none (s := s.beginRequest) free, fun j x held => ?_, ?_, ?_, ?_, ?_⟩
    · rw [taken, serve_stationSet_changes within tag block ready live differs stationNow]
    · exact congrArg (fun u => u.withEventsOf s) (blockMoved_frame s.beginRequest k block)
    · obtain ⟨y, there, same, venue, kept⟩ := targetAt_blockMoved_some (k := k) (blocked := block) (s := s.beginRequest) held
      refine ⟨y, there, same, venue, fun a station => ?_⟩
      obtain ⟨b, now, letter, capacity, flag⟩ := kept a station
      exact ⟨b, now, letter, capacity, fun other => flag.trans (if_neg other)⟩
    · exact (blockMoved_inv (s := s.beginRequest) inv k block).withEventsOf s
    · rw [effective_withEventsOf, ← effective_beginRequest]
      exact (blockMoved_faces (s := s.beginRequest) sorted.cabins k block).of_request
    · exact (blockMoved_tells s.beginRequest k block).of_request
    · exact (blockMoved_marks (s := s.beginRequest) sorted.screens k block).of_request

/-- Settles O25: the effective station, and both requests by the case of their table (`stationSet_meets`). -/
theorem stationBlockMovesTheAffectedCabins : Obligations.StationBlockMovesTheAffectedCabins := by
  refine ⟨fun s x => ⟨effective_primary, fun a primary alternate => effective_alternate primary alternate,
    effective_none⟩, fun s tag v ready tables inv => ⟨?_, ?_⟩⟩
  · exact stationSet_meets ready tables inv tag v.toNat true (.stationBlock tag [v]) rfl
  · exact stationSet_meets ready tables inv tag v.toNat false (.stationUnblock tag [v]) rfl

end Sys2Proof.Machine
end

section
/-! A TARGET_PUT that amends, at the Route Engine (R31, R32): the maps of a VENUE that becomes a STATION hurry, and
those of a target whose anchor has moved are cleared and go out of date. -/

namespace Sys2Proof

theorem Table.modify_comm {α : Type} (t : Table α) {j k : Nat} (apart : j ≠ k) (f g : α → α) :
    Table.modify (Table.modify t j f) k g = Table.modify (Table.modify t k g) j f := by
  simp only [Table.modify, List.map_map]
  refine List.map_congr_left fun r _ => ?_
  simp only [Function.comp]
  by_cases e : r.1 = j
  · have other : ¬r.1 = k := fun same => apart (e.symm.trans same)
    simp [e, apart]
  · by_cases e' : r.1 = k <;> simp [e, e', Ne.symm apart]

namespace Machine

/-! ### Maps that hurry (R31) -/

theorem hurryMap_route (u : State) (m : MapName) :
    (u.hurryMap m).route = { u.route with
      urgent := u.route.urgent ++ [m].filter fun n => decide (n ∈ u.route.ordinary)
      ordinary := u.route.ordinary.filter fun n => decide (n ≠ m) } := by
  rw [State.hurryMap]
  by_cases waits : m ∈ u.route.ordinary
  · simp [waits]
  · have same : (u.route.ordinary.filter fun n => decide (n ≠ m)) = u.route.ordinary :=
      List.filter_eq_self.mpr fun n mem => decide_eq_true (ne_of_mem_of_not_mem mem waits)
    rw [if_neg waits, same]
    simp [waits]

/-- The maps of a target that wait in ORDINARY. -/
def State.waitingOf (s : State) (t : Nat) : List MapName := (mapsOf t).filter fun m => decide (m ∈ s.route.ordinary)

theorem hurryTarget_route (u : State) (t : Nat) :
    (u.hurryTarget t).route = { u.route with
      urgent := u.route.urgent ++ u.waitingOf t
      ordinary := u.route.ordinary.filter fun m => decide (m ∉ u.waitingOf t) } := by
  let general : MapName := { target := t, profile := .general }
  let stepFree : MapName := { target := t, profile := .stepFree }
  have apart : stepFree ≠ general := by simp [stepFree, general]
  have both : (u.hurryTarget t).route = _ := hurryMap_route (u.hurryMap general) stepFree
  have stays : ([stepFree].filter fun n => decide (n ∈ (u.hurryMap general).route.ordinary)) =
      [stepFree].filter fun n => decide (n ∈ u.route.ordinary) := by
    refine List.filter_congr fun n mem => ?_
    cases List.mem_singleton.mp mem
    rw [hurryMap_route, decide_eq_decide, List.mem_filter]
    simp [apart]
  have left : ∀ l : List MapName, (∀ m ∈ l, m ∈ u.route.ordinary) →
      ((l.filter fun n => decide (n ≠ general)).filter fun n => decide (n ≠ stepFree)) =
        l.filter fun m => decide (m ∉ u.waitingOf t) := fun l waits => by
    rw [List.filter_filter]
    refine List.filter_congr fun m mem => ?_
    have there := waits m mem
    rw [← Bool.decide_and, decide_eq_decide, State.waitingOf, List.mem_filter, mem_mapsOf, and_comm, ne_both_iff]
    simp [there]
  rw [both, stays, hurryMap_route u general]
  dsimp only
  rw [left _ fun _ => id, List.append_assoc, ← List.filter_append]
  rfl

/-! ### Maps that are cleared (R32) -/

/-- Both maps of a target lose their content. -/
def State.clearMaps (s : State) (t : Nat) : State :=
  (mapsOf t).foldl (fun s m => s.modMap m fun r => { r with entries := [] }) s

theorem mapAt_clearMaps (s : State) (t : Nat) (m : MapName) :
    (s.clearMaps t).mapAt m = (s.mapAt m).map fun r => { r with entries := if m.target = t then [] else r.entries } := by
  let general : MapName := { target := t, profile := .general }
  let stepFree : MapName := { target := t, profile := .stepFree }
  have both : (s.clearMaps t).mapAt m = _ :=
    mapAt_modMap (s.modMap general fun r => { r with entries := [] }) stepFree m fun r => { r with entries := [] }
  rw [both, mapAt_modMap, Option.map_map]
  congr 1
  funext r
  simp only [Function.comp, general, stepFree]
  obtain ⟨k, p⟩ := m
  by_cases e : k = t
  · cases p <;> simp [e]
  · simp [e]

theorem clearMaps_queues (s : State) (t : Nat) :
    (s.clearMaps t).route = { s.route with maps := (s.clearMaps t).route.maps } := rfl

theorem wf_clearMaps (s : State) (t : Nat) : Table.wf (s.clearMaps t).route.maps = Table.wf s.route.maps :=
  foldl_keeps (fun u : State => Table.wf u.route.maps) _
    (fun u (m : MapName) => Table.wf_modify u.route.maps m.slot fun r => { r with entries := [] }) (mapsOf t) s

theorem modMap_comm (s : State) {m n : MapName} (apart : m ≠ n) (f g : RouteMap → RouteMap) :
    (s.modMap m f).modMap n g = (s.modMap n g).modMap m f := by
  simp only [State.modMap]
  rw [Table.modify_comm _ fun same => apart (slot_injective same)]

/-- A change of a map's record does not enter into how another goes out of date. -/
theorem outdate_modMap_comm (s : State) {m n : MapName} (apart : m ≠ n) (f : RouteMap → RouteMap) :
    (s.outdate m).modMap n f = (s.modMap n f).outdate m := by
  have held : (s.modMap n f).mapAt m = s.mapAt m := by
    rw [mapAt_modMap]
    simp [apart]
  have tail : ∀ u : State, (u.joinTail m).modMap n f = (u.modMap n f).joinTail m := fun u => by
    rw [State.joinTail, State.joinTail, show (u.modMap n f).classOf m = u.classOf m from rfl]
    cases u.classOf m <;> rfl
  have head : ∀ u : State, (u.joinHead m).modMap n f = (u.modMap n f).joinHead m := fun u => by
    rw [State.joinHead, State.joinHead, show (u.modMap n f).classOf m = u.classOf m from rfl]
    cases u.classOf m <;> rfl
  rw [State.outdate, State.outdate, held]
  cases s.mapAt m with
  | none => rfl
  | some r =>
    cases state : r.state with
    | current => simp only [state, tail, modMap_comm _ apart]
    | building =>
      simp only [state, State.abandon, head, modMap_comm _ apart]
      rfl
    | stale => simp only [state]
    | empty => simp only [state]

/-- A moved anchor: both maps are cleared, and then both go out of date. -/
theorem anchorMoved_eq (s : State) (t : Nat) : s.anchorMoved t = (mapsOf t).foldl State.outdate (s.clearMaps t) := by
  let general : MapName := { target := t, profile := .general }
  let stepFree : MapName := { target := t, profile := .stepFree }
  have apart : general ≠ stepFree := by simp [stepFree, general]
  exact congrArg (fun u : State => u.outdate stepFree)
    (outdate_modMap_comm (s.modMap general fun r => { r with entries := [] }) apart fun r => { r with entries := [] })

/-! ### Both, and the build that starts -/

theorem antisymm_of_mapBefore {m n : MapName} (h : mapBefore m n) (h' : mapBefore n m) : m = n := by
  rcases h with lt | ⟨same, general, _⟩ <;> rcases h' with lt' | ⟨same', _, stepFree⟩
  · omega
  · omega
  · omega
  · rw [general] at stepFree
    cases stepFree

/-- The live maps of a target with both maps live. -/
theorem liveMaps_filter_target {u : State} (sorted : Table.wf u.route.maps = true) {t : Nat}
    (live : ∀ m, m.target = t → (u.mapAt m).isSome) :
    (u.liveMaps.filter fun m => decide (m.target = t)) = mapsOf t := by
  have ascending : (mapsOf t).Pairwise mapBefore := by simp [mapsOf_eq, mapBefore]
  have listed := (liveMaps_pairwise sorted).filter fun m => decide (m.target = t)
  refine List.Perm.eq_of_pairwise (fun _ _ _ _ => antisymm_of_mapBefore) listed ascending ?_
  refine (List.perm_ext_iff_of_nodup (listed.imp ne_of_mapBefore) (ascending.imp ne_of_mapBefore)).mpr fun m => ?_
  rw [List.mem_filter, mem_liveMaps sorted, decide_eq_true_eq, mem_mapsOf]
  exact and_iff_right_of_imp (live m)

/-- Maps that are cleared as they go out of date. -/
theorem MapsOutdated.of_cleared {s w t : State} {urgent ordinary : List MapName} {out : MapName → Bool}
    (h : MapsOutdated w t urgent ordinary out false) (build : w.route.build = s.route.build)
    (records : ∀ m, w.mapAt m = (s.mapAt m).map fun r => { r with entries := if out m then [] else r.entries }) :
    MapsOutdated s t urgent ordinary out true := by
  have current : ∀ m, (∃ r, w.mapAt m = some r ∧ r.state = .current) ↔ ∃ r, s.mapAt m = some r ∧ r.state = .current :=
    fun m => by
      rw [records]
      cases s.mapAt m <;> simp
  simp only [MapsOutdated, build, current] at h ⊢
  refine ⟨h.1, fun m => (h.2 m).trans ?_⟩
  rw [records, Option.map_map]
  simp only [Function.comp_def, Bool.and_false, Bool.false_eq_true, if_false, Bool.and_true]

/-- What is outdated is a matter of the Route Engine, the generations and the classes. -/
theorem MapsOutdated.of_blocks {s t t' : State} {urgent ordinary : List MapName} {out : MapName → Bool} {cleared : Bool}
    (h : MapsOutdated s t urgent ordinary out cleared) (route : t'.route = t.route) (gens : t'.genOf = t.genOf)
    (hurry : t'.joinsUrgent = t.joinsUrgent) : MapsOutdated s t' urgent ordinary out cleared := by
  have mapAt : ∀ m, t'.mapAt m = t.mapAt m := mapAt_of_route route
  simpa only [MapsOutdated, route, gens, hurry, mapAt] using h

theorem MapsOutdated.of_request {s u : State} {urgent ordinary : List MapName} {out : MapName → Bool} {cleared : Bool}
    (h : MapsOutdated s.beginRequest u urgent ordinary out cleared) :
    MapsOutdated s (u.withEventsOf s) urgent ordinary out cleared := h

/-- The maps of a target after a put: hurried to URGENT if `hurried`, cleared and put out of date if `moved`. -/
theorem targetRerouted_outdates {s v : State} (inv : RouteInv s) (route : v.route = s.route) {k : Nat}
    (live : (s.targetAt k).isSome) (hurried moved : Bool) :
    let ms := if hurried && v.musterNow.proper then s.waitingOf k else []
    MapsOutdated s (v.targetRerouted k hurried moved).startBuild (s.route.urgent ++ ms)
      (s.route.ordinary.filter fun m => decide (m ∉ ms)) (fun m => decide (m.target = k) && moved) true := by
  intro ms
  let w := v.hurriedTo k (hurried && v.musterNow.proper)
  let c := if moved then w.clearMaps k else w
  have queues : w.route = { s.route with
      urgent := s.route.urgent ++ ms, ordinary := s.route.ordinary.filter fun m => decide (m ∉ ms) } := by
    show (State.hurriedTo _ _ _).route = _
    rw [State.hurriedTo]
    by_cases hurries : (hurried && v.musterNow.proper) = true
    · simp only [ms, if_pos hurries]
      rw [hurryTarget_route, State.waitingOf, route]
      rfl
    · simp only [ms, if_neg hurries]
      simp [route]
  have held : ∀ m, w.mapAt m = s.mapAt m := mapAt_of_maps (by rw [queues])
  have records : ∀ m, c.mapAt m = (s.mapAt m).map fun r =>
      { r with entries := if decide (m.target = k) && moved then [] else r.entries } := fun m => by
    cases e : moved with
    | false => simp [c, e, held]
    | true => simp [c, e, mapAt_clearMaps, held]
  have same : c.route = { w.route with maps := c.route.maps } := by
    cases e : moved with
    | false => simp [c, e]
    | true =>
      simp only [c, e, if_true]
      exact clearMaps_queues w k
  have sorted : Table.wf c.route.maps = true := by
    have wf : Table.wf w.route.maps = true := by rw [queues]; exact inv.1
    cases e : moved with
    | false => simpa [c, e] using wf
    | true =>
      simp only [c, e, if_true]
      exact (wf_clearMaps w k).trans wf
  have build : c.route.build = s.route.build := by rw [same, queues]
  have one : c.buildsOne := by
    obtain ⟨building, flying⟩ := inv.buildsOne
    refine ⟨fun m r there => ?_, fun b e => ?_⟩
    · rw [records] at there
      obtain ⟨q, held, rfl⟩ := Option.map_eq_some_iff.mp there
      rw [build]
      exact building m q held
    · rw [records, Option.isSome_map]
      exact flying b (build.symm.trans e)
  have fold : v.targetRerouted k hurried moved =
      (c.liveMaps.filter fun m => decide (m.target = k) && moved).foldl State.outdate c := by
    rw [targetRerouted_eq]
    cases e : moved with
    | false => simp [c, e, w]
    | true =>
      have both := liveMaps_filter_target sorted (t := k) fun m at_ => by
        rw [records, Option.isSome_map, inv.2.1 m, at_]
        exact live
      simp only [Bool.and_true, both]
      simp only [c, e, if_true]
      exact anchorMoved_eq w k
  have outdated := mapsOutdated_of_outdate (u := c) rfl sorted one fun m => decide (m.target = k) && moved
  rw [← fold, same, queues] at outdated
  exact outdated.of_cleared build records

end Machine
end Sys2Proof
end

section
/-! A TARGET_PUT that amends (R47): the record and the claims, the over flag (R53), the plates that a changed letter
owes anew (R68), and the marks of a changed label (R143). -/

namespace Sys2Proof.Machine

/-! ### The slots that a changed label marks (R143) -/

theorem labelCauses_iff (s : State) (k n : Nat) (x : Screen) (q : SlotKind) :
    s.labelCauses k n x q = true ↔
      (q = .route ∧ k ∈ x.shown) ∨
      (q = .programme ∧ (∃ v, s.targetAt k = some v ∧ v.station = none) ∧
        (∃ r ∈ s.programme.entries, r.2.venue = k) ∧ s.passes x k = true) ∨
      (q = .muster ∧ (s.stationAt k).isSome) := by
  simp only [State.labelCauses, routesShowing, Bool.or_eq_true, Bool.and_eq_true, decide_eq_true_eq, namedVenue_iff,
    and_assoc, or_assoc]
  rfl

/-- The slots that a changed label marks are a matter of the nodes, the targets and the entries. -/
theorem labelCauses_of_blocks {s t : State} (graph : t.graph = s.graph) (target : t.target = s.target)
    (programme : t.programme = s.programme) : t.labelCauses = s.labelCauses := by
  have node : t.node = s.node := funext fun n => by rw [State.node, graph]; rfl
  have passes : t.passes = s.passes := by
    funext x v
    simp only [State.passes, State.sameAt, State.anchorOf, State.targetAt, node, target]
  funext k n x q
  simp only [State.labelCauses, passes, State.namedVenue, State.isStation, stationAt_of_target target, State.targetAt,
    target, programme]

/-! ### The over flags once judged (R53) -/

theorem targetAt_judge (s : State) (ks : List Nat) (k : Nat) :
    (s.judge ks).targetAt k = (s.targetAt k).map fun x => if k ∈ ks then x.rejudged else x := by
  induction ks generalizing s with
  | nil => simp [State.judge]
  | cons j ks ih =>
    have step : s.judge (j :: ks) = (s.modStation j Station.rejudged).judge ks := rfl
    rw [step, ih, State.modStation, targetAt_modTarget, Option.map_map]
    congr 1
    funext x
    by_cases e : k = j
    · subst e
      simp only [Function.comp, if_true, List.mem_cons, true_or]
      split
      · simp only [Target.rejudged, Option.map_map]
        rfl
      · rfl
    · simp [e]

/-- A record whose over flag is right is as judged. -/
theorem rejudged_of_right {x : Target} (right : ∀ st, x.station = some st → st.overFlag = st.isOver) :
    x.rejudged = x := by
  obtain ⟨anchor, label, refs, station⟩ := x
  cases station with
  | none => rfl
  | some st =>
    have flag := right st rfl
    simp only [Target.rejudged, Option.map_some, Station.rejudged]
    rw [← flag]

/-- Where the flags come out right, judging some has judged all. -/
theorem targetAt_judgedIf {s before : State} {kept : Bool} (right : (s.judgedIf before kept).flagsRight) (k : Nat) :
    (s.judgedIf before kept).targetAt k = (s.targetAt k).map Target.rejudged := by
  have judged : ∃ ks, (s.judgedIf before kept).target = (s.judge ks).target := by
    rw [State.judgedIf]
    split
    · exact ⟨s.toJudge before, judgeOver_target s before⟩
    · exact ⟨[], rfl⟩
  obtain ⟨ks, target⟩ := judged
  have now : (s.judgedIf before kept).targetAt k = (s.judge ks).targetAt k := by
    rw [State.targetAt, target]
    rfl
  rw [now, targetAt_judge]
  cases live : s.targetAt k with
  | none => rfl
  | some x =>
    rw [Option.map_some, Option.map_some]
    split
    · rfl
    · rename_i unjudged
      refine congrArg some (rejudged_of_right fun st station => right k st ?_).symm
      rw [State.stationAt, now, targetAt_judge, live, Option.map_some, if_neg unjudged]
      exact station

/-! ### The record of an amended target -/

/-- The fields of a STATION that a TARGET_PUT keeps one, with its over flag judged. -/
def TargetBody.keeps (b : TargetBody) (st : Station) : Station :=
  { st with letter := b.letter, capacity := b.capacity
            overFlag := decide (0 < b.capacity) && decide (b.capacity < st.occupied) }

/-- The record of an amended target, its over flag judged. -/
def TargetBody.amended (b : TargetBody) (old : Target) : Target :=
  { anchor := b.anchor, label := b.label, refs := old.refs
    station := if b.kind = 1 then some ((old.station.map b.keeps).getD (Station.fresh b.letter b.capacity)) else none }

theorem amends_rejudged (b : TargetBody) (old : Target) :
    (b.amends b.stationGiven old).rejudged = b.amended old := by
  rw [TargetBody.amends, TargetBody.amended, TargetBody.stationGiven, Target.rejudged]
  by_cases station : b.kind = 1
  · rw [if_pos station, if_pos station]
    cases old.station with
    | none =>
      have fresh : (Station.fresh b.letter b.capacity).rejudged = Station.fresh b.letter b.capacity := by
        rw [Station.rejudged, isOver_fresh]
        rfl
      simp only [stationAfter, Option.map_some, Option.map_none, Option.getD_none, fresh]
    | some st => rfl
  · rw [if_neg station, if_neg station]
    rfl

theorem amends_isSome (b : TargetBody) (old : Target) :
    (b.amends b.stationGiven old).station.isSome = decide (b.kind = 1) := by
  rw [← stationGiven_isSome, TargetBody.amends]
  cases b.stationGiven <;> cases old.station <;> rfl

/-- The letter of a STATION that stays one changes (R47). -/
def TargetBody.changesLetter (b : TargetBody) (old : Target) : Bool :=
  ((b.amends b.stationGiven old).station.isSome && old.station.isSome) &&
    decide ((b.amends b.stationGiven old).station.map (·.letter) ≠ old.station.map (·.letter))

theorem changesLetter_iff (b : TargetBody) (old : Target) :
    b.changesLetter old = true ↔ b.kind = 1 ∧ ∃ st, old.station = some st ∧ st.letter ≠ b.letter := by
  rw [TargetBody.changesLetter, amends_isSome, TargetBody.amends, TargetBody.stationGiven]
  by_cases station : b.kind = 1
  · cases old.station with
    | none => simp
    | some st => simp [station, stationAfter, eq_comm (a := b.letter)]
  · simp [station]

/-- The kind changes (R47). -/
def TargetBody.changesKind (b : TargetBody) (old : Target) : Bool :=
  decide ((b.amends b.stationGiven old).station.isSome ≠ old.station.isSome)

theorem changesKind_iff (b : TargetBody) (old : Target) :
    b.changesKind old = true ↔ old.station.isSome ≠ decide (b.kind = 1) := by
  rw [TargetBody.changesKind, amends_isSome, decide_eq_true_eq]
  exact ne_comm

/-! ### The state once records, maps and over flags are right -/

variable {s : State} {b : TargetBody} {old : Target}

/-- The state of an amendment before faces change and marks are made. -/
def State.amendedBy (s : State) (b : TargetBody) (old : Target) : State :=
  s.targetAmended b.id old (b.amends b.stationGiven old)

theorem targetMoved_keeps (s : State) (k : Nat) (old new : Target) :
    (s.targetMoved k old new).route = s.route ∧ (s.targetMoved k old new).plate = s.plate ∧
    (s.targetMoved k old new).muster = s.muster ∧ (s.targetMoved k old new).port = s.port ∧
    (s.targetMoved k old new).fresh = s.fresh ∧ (s.targetMoved k old new).pending = s.pending := by
  rw [State.targetMoved]
  and_intros <;> split <;> rfl

theorem targetRerouted_keeps_rest (s : State) (k : Nat) (hurried moved : Bool) :
    (s.targetRerouted k hurried moved).plate = s.plate ∧ (s.targetRerouted k hurried moved).muster = s.muster ∧
    (s.targetRerouted k hurried moved).port = s.port ∧ (s.targetRerouted k hurried moved).fresh = s.fresh ∧
    (s.targetRerouted k hurried moved).pending = s.pending := by
  rw [State.targetRerouted]
  and_intros <;> split <;> split <;> simp

theorem judgedIf_keeps_rest (s before : State) (kept : Bool) :
    (s.judgedIf before kept).route = s.route ∧ (s.judgedIf before kept).plate = s.plate ∧
    (s.judgedIf before kept).muster = s.muster ∧ (s.judgedIf before kept).fresh = s.fresh ∧
    (s.judgedIf before kept).pending = s.pending ∧
    (s.judgedIf before kept).port = { s.port with events := (s.judgedIf before kept).port.events } := by
  rw [State.judgedIf]
  split
  · refine ⟨(judgeOver_keeps s before).2.1, (judgeOver_keeps s before).2.2.2.1, (judgeOver_keeps s before).2.2.2.2.2.2.1,
      (judgeOver_keeps s before).2.2.2.2.2.2.2.1, (judgeOver_keeps s before).2.2.2.2.2.2.2.2, ?_⟩
    rw [judgeOver_port]
    split <;> rfl
  · exact ⟨rfl, rfl, rfl, rfl, rfl, rfl⟩

/-- The record and the maps of an amendment, the over flags not judged yet. -/
def State.amendedMaps (s : State) (b : TargetBody) (old : Target) : State :=
  (s.targetMoved b.id old (b.amends b.stationGiven old)).targetRerouted b.id
    (decide ((b.amends b.stationGiven old).station.isSome ≠ old.station.isSome) &&
      (b.amends b.stationGiven old).station.isSome)
    (decide ((b.amends b.stationGiven old).anchor ≠ old.anchor))

theorem amendedBy_eq (s : State) (b : TargetBody) (old : Target) :
    s.amendedBy b old = (s.amendedMaps b old).judgedIf s
      ((b.amends b.stationGiven old).station.isSome && old.station.isSome) := rfl

theorem amendedBy_keeps (s : State) (b : TargetBody) (old : Target) :
    (s.amendedBy b old).cabin = s.cabin ∧ (s.amendedBy b old).plate = s.plate ∧
    (s.amendedBy b old).programme = s.programme ∧ (s.amendedBy b old).screen = s.screen ∧
    (s.amendedBy b old).muster = s.muster ∧ (s.amendedBy b old).fresh = s.fresh ∧
    (s.amendedBy b old).pending = s.pending ∧ (s.amendedBy b old).target.unassigned = s.target.unassigned ∧
    (s.amendedBy b old).port = { s.port with events := (s.amendedBy b old).port.events } := by
  obtain ⟨_, plate₀, muster₀, port₀, fresh₀, pending₀⟩ :=
    targetMoved_keeps s b.id old (b.amends b.stationGiven old)
  obtain ⟨plate₁, muster₁, port₁, fresh₁, pending₁⟩ := targetRerouted_keeps_rest
    (s.targetMoved b.id old (b.amends b.stationGiven old)) b.id
    (decide ((b.amends b.stationGiven old).station.isSome ≠ old.station.isSome) &&
      (b.amends b.stationGiven old).station.isSome)
    (decide ((b.amends b.stationGiven old).anchor ≠ old.anchor))
  obtain ⟨_, plate₂, muster₂, fresh₂, pending₂, port₂⟩ := judgedIf_keeps_rest (s.amendedMaps b old) s
    ((b.amends b.stationGiven old).station.isSome && old.station.isSome)
  obtain ⟨_, cabin, programme, screen, unassigned, _⟩ :=
    targetAmended_blocks s b.id old (b.amends b.stationGiven old)
  refine ⟨cabin, plate₂.trans (plate₁.trans plate₀), programme, screen, muster₂.trans (muster₁.trans muster₀),
    fresh₂.trans (fresh₁.trans fresh₀), pending₂.trans (pending₁.trans pending₀), unassigned, port₂.trans ?_⟩
  rw [State.amendedMaps, port₁, port₀]
  rfl

theorem amendedMaps_port (s : State) (b : TargetBody) (old : Target) : (s.amendedMaps b old).port = s.port :=
  (targetRerouted_keeps_rest _ _ _ _).2.2.1.trans (targetMoved_keeps _ _ _ _).2.2.2.1

/-- The records before the over flags are judged. -/
theorem targetAt_amendedMaps (was : s.targetAt b.id = some old) (j : Nat) :
    (s.amendedMaps b old).targetAt j = if j = b.id then some (b.amends b.stationGiven old) else s.targetAt j := by
  rw [State.targetAt, State.amendedMaps, (targetRerouted_keeps _ _ _ _).2.1]
  refine (targetAt_targetMoved s b.id old _ j).trans ?_
  rw [was]
  rfl

theorem amendedBy_flags (right : s.flagsRight) (was : s.targetAt b.id = some old) : (s.amendedBy b old).flagsRight := by
  refine targetAmended_flags right (fun j => ?_) was (amends_flag b b.stationGiven old)
  rw [targetAt_modTarget]
  split
  · rename_i e
    rw [e, was]
    rfl
  · exact congrFun Option.map_id _

/-- The records once the over flags are judged: the one amended, and the others as before. -/
theorem targetAt_amendedBy (right : s.flagsRight) (was : s.targetAt b.id = some old) (j : Nat) :
    (s.amendedBy b old).targetAt j = if j = b.id then some (b.amended old) else s.targetAt j := by
  have judged : (s.amendedBy b old).targetAt j = _ := targetAt_judgedIf (amendedBy_flags right was) j
  rw [judged]
  refine (congrArg (Option.map Target.rejudged) (targetAt_amendedMaps was j)).trans ?_
  split
  · exact congrArg some (amends_rejudged b old)
  · cases live : s.targetAt j with
    | none => rfl
    | some x =>
      refine congrArg some (rejudged_of_right fun st station => right j st ?_)
      rw [State.stationAt, live]
      exact station

theorem stationAt_amendedBy (right : s.flagsRight) (was : s.targetAt b.id = some old) (j : Nat) :
    (s.amendedBy b old).stationAt j = if j = b.id then (b.amended old).station else s.stationAt j := by
  rw [State.stationAt, targetAt_amendedBy right was]
  split <;> rfl

theorem node_reanchor (s : State) (a c n : Nat) :
    (s.reanchor a c).node n = (s.node n).map fun x => { x with
      refs := x.refs - (if n = a ∧ a ≠ c then 1 else 0) + (if n = c ∧ a ≠ c then 1 else 0) } := by
  rw [State.reanchor]
  by_cases same : a = c
  · simp [same]
  · rw [if_neg same, node_claimNode, node_releaseNode, Option.map_map]
    simp only [Function.comp_def, eq_comm (a := n), same, ne_eq, not_false_eq_true, and_true]

theorem node_amendedBy (s : State) (b : TargetBody) (old : Target) (n : Nat) :
    (s.amendedBy b old).node n = (s.node n).map fun x => { x with
      refs := x.refs - (if n = old.anchor ∧ old.anchor ≠ b.anchor then 1 else 0) +
        (if n = b.anchor ∧ old.anchor ≠ b.anchor then 1 else 0) } := by
  have graph : (s.amendedBy b old).graph = _ := (targetAmended_blocks s b.id old (b.amends b.stationGiven old)).1
  rw [State.node, graph]
  exact node_reanchor (s.modTarget b.id (b.amends b.stationGiven old).given) old.anchor b.anchor n

theorem reanchor_graph (s : State) (a c : Nat) :
    (s.reanchor a c).graph = { s.graph with nodes := (s.reanchor a c).graph.nodes } := by
  rw [State.reanchor]
  split <;> rfl

theorem amendedBy_graph (s : State) (b : TargetBody) (old : Target) :
    (s.amendedBy b old).graph = { s.graph with nodes := (s.amendedBy b old).graph.nodes } := by
  have graph : (s.amendedBy b old).graph = _ := (targetAmended_blocks s b.id old (b.amends b.stationGiven old)).1
  rw [graph]
  exact reanchor_graph (s.modTarget b.id (b.amends b.stationGiven old).given) _ _

/-! ### What the amendment tells, and what it does to the maps -/

/-- STATION_OVER tells of the amended station's over flag: no other flag moves (R53). -/
theorem amendedBy_tells (right : s.flagsRight) (was : s.targetAt b.id = some old) :
    PortTellsOver s (s.amendedBy b old) := by
  have stations := stationAt_amendedBy right was
  rw [amendedBy_eq] at stations ⊢
  rw [State.judgedIf] at stations ⊢
  by_cases kept : ((b.amends b.stationGiven old).station.isSome && old.station.isSome) = true
  · rw [if_pos kept]
    refine portTellsOver_judgeOver (fun j => ?_) (amendedMaps_port s b old)
    rw [State.flagAt, State.stationAt, targetAt_amendedMaps was, State.flagAt, State.stationAt]
    split
    · rename_i e
      rw [Bool.and_eq_true] at kept
      obtain ⟨st, station⟩ := Option.isSome_iff_exists.mp kept.1
      rw [e, was, Option.bind_some, Option.bind_some, station]
      rcases amends_flag b b.stationGiven old st station with same | ⟨none, _⟩
      · exact same.symm
      · simp [none] at kept
    · rfl
  · rw [if_neg kept] at stations ⊢
    have unset : ¬OverSet s (s.amendedMaps b old) := by
      rintro ⟨j, a, c, before, after, clear, set⟩
      rw [stations] at after
      split at after
      · rename_i e
        rw [e, State.stationAt, was, Option.bind_some] at before
        have station : (b.amended old).station.isSome := by rw [after]; rfl
        have one : b.kind = 1 := by
          by_contra venue
          simp [TargetBody.amended, venue] at station
        exact kept (by rw [amends_isSome, before]; simp [one])
      · rw [before] at after
        cases after
        rw [clear] at set
        cases set
    exact ⟨fun set => absurd set unset, fun _ => amendedMaps_port s b old⟩

/-- The maps that an amendment moves to URGENT: those that wait in ORDINARY, of a VENUE that becomes a STATION in
DRILL or ALARM (R31). -/
def State.hurriedBy (s : State) (b : TargetBody) (old : Target) : List MapName :=
  if (b.changesKind old && (b.amends b.stationGiven old).station.isSome) && s.musterNow.proper then s.waitingOf b.id
  else []

theorem hurriedBy_iff (s : State) (b : TargetBody) (old : Target) :
    ((b.changesKind old && (b.amends b.stationGiven old).station.isSome) && s.musterNow.proper) = true ↔
      old.station.isSome ≠ decide (b.kind = 1) ∧ b.kind = 1 ∧ (s.muster.state = .drill ∨ s.muster.state = .alarm) := by
  have proper : s.musterNow.proper = true ↔ s.muster.state = .drill ∨ s.muster.state = .alarm := by
    rw [State.musterNow]
    cases s.muster.state <;> simp [MusterState.proper]
  rw [Bool.and_eq_true, Bool.and_eq_true, changesKind_iff, amends_isSome, decide_eq_true_eq, proper, and_assoc]

/-- The maps of an amended target: hurried, cleared and out of date, as the kind and the anchor change. -/
theorem amendedMaps_outdates (inv : RouteInv s) (was : s.targetAt b.id = some old) :
    MapsOutdated s (s.amendedMaps b old).startBuild (s.route.urgent ++ s.hurriedBy b old)
      (s.route.ordinary.filter fun m => decide (m ∉ s.hurriedBy b old))
      (fun m => decide (m.target = b.id) && decide (old.anchor ≠ b.anchor)) true := by
  obtain ⟨route, _, muster, _⟩ := targetMoved_keeps s b.id old (b.amends b.stationGiven old)
  have moved : decide ((b.amends b.stationGiven old).anchor ≠ old.anchor) = decide (old.anchor ≠ b.anchor) :=
    decide_eq_decide.mpr ne_comm
  have outdated := targetRerouted_outdates inv route (k := b.id) (by rw [was]; rfl)
    (b.changesKind old && (b.amends b.stationGiven old).station.isSome) (decide (old.anchor ≠ b.anchor))
  rw [State.musterNow, muster] at outdated
  rw [State.amendedMaps, moved]
  exact outdated

/-! ### The state before the trunks pick -/

/-- The state of an amendment with its faces changed. -/
def State.amendedFaces (s : State) (b : TargetBody) (old : Target) : State :=
  if b.changesLetter old then (s.amendedBy b old).facesChanged ((s.amendedBy b old).assignedTo b.id)
  else s.amendedBy b old

/-- The state of an amendment with its marks made and a build started. -/
def State.amendedAll (s : State) (b : TargetBody) (old : Target) : State :=
  ((s.amendedFaces b old).mark ((s.amendedFaces b old).amendTargetCauses b.id (b.changesKind old) (b.changesLetter old)
    (decide (b.label ≠ old.label)))).startBuild

theorem amendTarget_pickAll (s : State) (b : TargetBody) (old : Target) :
    s.amendTarget b b.stationGiven old = (s.amendedAll b old).pickAll := rfl

/-- A changed letter leaves the effective stations as they are. -/
theorem effective_amendedBy (right : s.flagsRight) (was : s.targetAt b.id = some old)
    (letter : b.changesLetter old = true) : (s.amendedBy b old).effective = s.effective := by
  obtain ⟨one, st, station, _⟩ := (changesLetter_iff b old).mp letter
  refine effective_of_unblocked fun j => ?_
  have shown := stationAt_amendedBy right was j
  rw [State.unblocked, State.unblocked, shown]
  by_cases e : j = b.id
  · rw [if_pos e, e, State.stationAt, was, Option.bind_some, TargetBody.amended, if_pos one, station]
    rfl
  · rw [if_neg e]

/-- The cabins whose faces change: with the letter, those assigned to the target (R47). -/
theorem amendedFaces_eq (right : s.flagsRight) (was : s.targetAt b.id = some old) :
    s.amendedFaces b old = (s.amendedBy b old).facesChanged
      (s.cabin.cabins.filter fun r => decide (s.effective r.2 = some b.id) && b.changesLetter old) := by
  rw [State.amendedFaces]
  by_cases letter : b.changesLetter old = true
  · rw [if_pos letter, State.assignedTo, (amendedBy_keeps s b old).1, effective_amendedBy right was letter]
    simp only [letter, Bool.and_true]
  · have none : (s.cabin.cabins.filter fun r => decide (s.effective r.2 = some b.id) && b.changesLetter old) = [] := by
      simp [letter]
    rw [if_neg letter, none]
    rfl

/-- What changed faces leave alone. -/
theorem amendedFaces_frame (s : State) (b : TargetBody) (old : Target) :
    s.amendedFaces b old = { s.amendedBy b old with
      cabin := { s.cabin with cabins := (s.amendedFaces b old).cabin.cabins }
      plate := { s.plate with trunks := (s.amendedFaces b old).plate.trunks } } := by
  obtain ⟨cabin, plate, _⟩ := amendedBy_keeps s b old
  rw [← cabin, ← plate, State.amendedFaces]
  split
  · exact facesChanged_frame _ _
  · rfl

theorem amendedFaces_raises (right : s.flagsRight) (was : s.targetAt b.id = some old)
    (sorted : Table.wf s.cabin.cabins = true) :
    FacesRaised s (s.amendedFaces b old) fun _ x => decide (s.effective x = some b.id) && b.changesLetter old := by
  obtain ⟨cabin, plate, _, _, muster, _⟩ := amendedBy_keeps s b old
  rw [amendedFaces_eq right was]
  exact facesChanged_raises sorted cabin plate muster
    fun _ x => decide (s.effective x = some b.id) && b.changesLetter old

/-- The blocks of the end of the event that the marks and the build do not touch. -/
theorem amendedAll_blocks (s : State) (b : TargetBody) (old : Target) :
    (s.amendedAll b old).graph = (s.amendedBy b old).graph ∧ (s.amendedAll b old).target = (s.amendedBy b old).target ∧
    (s.amendedAll b old).cabin = (s.amendedFaces b old).cabin ∧
    (s.amendedAll b old).plate = (s.amendedFaces b old).plate ∧ (s.amendedAll b old).programme = s.programme ∧
    (s.amendedAll b old).muster = s.muster ∧ (s.amendedAll b old).port = (s.amendedBy b old).port ∧
    (s.amendedAll b old).fresh = s.fresh ∧ (s.amendedAll b old).pending = s.pending := by
  obtain ⟨_, _, programme, _, muster, fresh, pending, _⟩ := amendedBy_keeps s b old
  rw [← programme, ← muster, ← fresh, ← pending]
  unfold State.amendedAll
  and_intros <;> simp only [startBuild_keeps, mark_keeps] <;> rw [amendedFaces_frame]

/-- What an amendment leaves alone. -/
theorem amendedAll_frame (s : State) (b : TargetBody) (old : Target) :
    s.amendedAll b old = { s with
      graph := { s.graph with nodes := (s.amendedAll b old).graph.nodes }
      route := (s.amendedAll b old).route
      target := { s.target with targets := (s.amendedAll b old).target.targets }
      cabin := { s.cabin with cabins := (s.amendedAll b old).cabin.cabins }
      plate := { s.plate with trunks := (s.amendedAll b old).plate.trunks }
      screen := (s.amendedAll b old).screen
      port := { s.port with events := (s.amendedAll b old).port.events } } := by
  obtain ⟨graph, target, cabin, plate, programme, muster, port, fresh, pending⟩ := amendedAll_blocks s b old
  obtain ⟨_, _, _, _, _, _, _, unassigned, events⟩ := amendedBy_keeps s b old
  have faces := amendedFaces_frame s b old
  refine eq_of_blocks (graph := ?graph) rfl (target := ?target) (cabin := ?cabin) (plate := ?plate) programme rfl muster
    (port := ?port) fresh pending
  case graph => rw [graph, amendedBy_graph]
  case target =>
    rw [target]
    exact congrArg (TargetTable.mk (s.amendedBy b old).target.targets) unassigned
  case cabin => rw [cabin, faces]
  case plate => rw [plate, faces]
  case port => rw [port, events]

/-- The build that starts is a matter of the Route Engine and the generations. -/
theorem startBuild_route_of {u v : State} (route : u.route = v.route) (graph : u.graph = v.graph) :
    u.startBuild.route = v.startBuild.route := by
  have gens := genOf_of_graph graph
  simp only [State.startBuild, State.modMap, route, gens]
  split
  · exact route
  · split
    · rfl
    · rfl
    · exact route

theorem amendedAll_outdates (inv : RouteInv s) (was : s.targetAt b.id = some old) :
    MapsOutdated s (s.amendedAll b old) (s.route.urgent ++ s.hurriedBy b old)
      (s.route.ordinary.filter fun m => decide (m ∉ s.hurriedBy b old))
      (fun m => decide (m.target = b.id) && decide (old.anchor ≠ b.anchor)) true := by
  obtain ⟨graph, target, _, _, _, muster, _⟩ := amendedAll_blocks s b old
  obtain ⟨judgedGraph, _, _, _, _, plans, _⟩ := judgedIf_keeps (s.amendedMaps b old) s
    ((b.amends b.stationGiven old).station.isSome && old.station.isSome)
  obtain ⟨judgedRoute, _, judgedMuster, _⟩ := judgedIf_keeps_rest (s.amendedMaps b old) s
    ((b.amends b.stationGiven old).station.isSome && old.station.isSome)
  obtain ⟨startedGraph, startedTarget, _, _, _, _, startedMuster, _⟩ := startBuild_keeps (s.amendedMaps b old)
  refine (amendedMaps_outdates inv was).of_blocks (startBuild_route_of ?_ ?_) (genOf_of_graph ?_) (funext fun m => ?_)
  · rw [(mark_keeps _ _).2.1, amendedFaces_frame]
    exact judgedRoute
  · rw [(mark_keeps _ _).1, amendedFaces_frame]
    exact judgedGraph
  · rw [graph, startedGraph]
    exact judgedGraph
  · have station : ((s.amendedAll b old).stationAt m.target).isSome =
        ((s.amendedMaps b old).startBuild.stationAt m.target).isSome :=
      isSome_stationAt_of_plans (by rw [target, startedTarget]; exact plans) m.target
    have now : (s.amendedMaps b old).muster = s.muster := judgedMuster.symm.trans (amendedBy_keeps s b old).2.2.2.2.1
    rw [joinsUrgent_eq, joinsUrgent_eq, station, muster, startedMuster, now]

/-- The slots that an amendment marks (R47, R143). -/
theorem amendedAll_marks (sorted : Table.wf s.screen.screens = true) :
    MarkedBy s (s.amendedAll b old) ((s.amendedAll b old).amendTargetCauses b.id (b.changesKind old)
      (b.changesLetter old) (decide (b.label ≠ old.label))) := by
  obtain ⟨graph, target, _, _, programme, _⟩ := amendedAll_blocks s b old
  have faces := amendedFaces_frame s b old
  have screen : (s.amendedFaces b old).screen = s.screen := by
    rw [faces]
    exact (amendedBy_keeps s b old).2.2.2.1
  have labels : (s.amendedAll b old).labelCauses = (s.amendedFaces b old).labelCauses := by
    refine labelCauses_of_blocks ?_ ?_ ?_
    · rw [graph, faces]
    · rw [target, faces]
    · rw [programme, faces]
      exact (amendedBy_keeps s b old).2.2.1.symm
  have causes : (s.amendedAll b old).amendTargetCauses = (s.amendedFaces b old).amendTargetCauses := by
    unfold State.amendTargetCauses
    rw [labels]
  rw [causes]
  exact (mark_marks (s.amendedFaces b old) _ (by rw [screen]; exact sorted)).of_screen screen.symm
    (startBuild_keeps _).2.2.2.2.2.1

/-- The causes of an amendment, slot by slot: MUSTER of every screen, ROUTE of those that show the target, and what a
changed label marks beside. -/
theorem amendTargetCauses_eq (u : State) (t : Nat) (kind letter label : Bool) :
    u.amendTargetCauses t kind letter label = fun n x k =>
      (decide (k = .muster) && (kind || letter)) ||
      (decide (k = .route) && decide (t ∈ x.shown) && (letter || label)) || (label && u.labelCauses t n x k) := by
  funext n x k
  rw [State.amendTargetCauses, everyMuster, routesShowing, State.labelCauses, routesShowing]
  cases kind <;> cases letter <;> cases label <;> simp [Bool.or_assoc]

/-! ### The obligation -/

theorem labelCauses_withEventsOf (u s : State) : (u.withEventsOf s).labelCauses = u.labelCauses := rfl

/-- A TARGET_PUT that amends: its answer, and the state before the trunks pick. -/
theorem execTargetPut_amends {body : List Byte} (parsed : parseTarget body = some b) (tag : Byte)
    (ready : s.loading = false) (made : targetPut b s.beginRequest = (s.beginRequest.amendTarget b b.stationGiven old, .done [1#8])) :
    exec (.targetPut tag body) s =
      .next (s.answering ((s.beginRequest.amendedAll b old).withEventsOf s).pickAll tag .done [1#8]) := by
  have frame := amendedAll_frame s.beginRequest b old
  rw [amendTarget_pickAll] at made
  have port : (s.beginRequest.amendedAll b old).pickAll.port =
      { s.beginRequest.port with events := (s.beginRequest.amendedAll b old).pickAll.port.events } := by
    rw [(pickAll_keeps _).2.2.2.2.2.2.2.1, frame]
  have fresh : (s.beginRequest.amendedAll b old).pickAll.fresh = s.fresh := by
    rw [(pickAll_keeps _).2.2.2.2.2.2.2.2.1]
    exact (congrArg State.fresh frame).trans rfl
  rw [execTargetPut_serves parsed, serve_noticed tag b targetPut s ready made port fresh, pickAll_withEventsOf]
  rfl

/-- Settles O23: an amendment by its record (`targetAt_amendedBy`), its claims, its maps (`amendedAll_outdates`), its
faces, its notice and its marks. -/
theorem targetPutAmends : Obligations.TargetPutAmends := by
  refine ⟨labelCauses_iff, ?_⟩
  intro s tag body b old ready tables inv targetInv parsed id kind anchor range letters was kindFree kept new amended
    kindChanged letterChanged labelChanged hurried
  have fits : b.InRange := ⟨id, kind, range, fun station => ⟨(letters station).1, (letters station).2.1⟩⟩
  have sorted := sorted_of_tables tables
  have made := targetPut_amends fits (s := s.beginRequest) anchor sorted.targets
    (fun station => (letters station).2.2) was kindFree
  have right : s.beginRequest.flagsRight := ((targetsRight_iff s).mpr targetInv).flags
  have was' : s.beginRequest.targetAt b.id = some old := was
  have letter : decide letterChanged = b.changesLetter old := by
    rw [Bool.eq_iff_iff, decide_eq_true_eq, changesLetter_iff]
  have kindBit : decide kindChanged = b.changesKind old := by
    rw [Bool.eq_iff_iff, decide_eq_true_eq, changesKind_iff]
  have label : decide labelChanged = decide (b.label ≠ old.label) := decide_eq_decide.mpr ne_comm
  have hurry : s.beginRequest.hurriedBy b old = hurried := by
    have condition := hurriedBy_iff s.beginRequest b old
    by_cases hurries : kindChanged ∧ b.kind = 1 ∧ (s.muster.state = .drill ∨ s.muster.state = .alarm)
    · exact (if_pos (condition.mpr hurries)).trans (if_pos hurries).symm
    · exact (if_neg (mt condition.mp hurries)).trans (if_neg hurries).symm
  obtain ⟨graph, target, cabin, plate, _, _, port, _⟩ := amendedAll_blocks s.beginRequest b old
  refine ⟨(s.beginRequest.amendedAll b old).withEventsOf s, execTargetPut_amends parsed tag ready made,
    congrArg (fun u => u.withEventsOf s) (amendedAll_frame s.beginRequest b old), fun k => ?_, fun n => ?_, ?_, ?_, ?_, ?_⟩
  · show Table.get (s.beginRequest.amendedAll b old).target.targets k = _
    rw [target]
    exact targetAt_amendedBy right was' k
  · show Table.get (s.beginRequest.amendedAll b old).graph.nodes n = _
    rw [graph]
    exact node_amendedBy s.beginRequest b old n
  · rw [← hurry]
    exact (amendedAll_outdates (s := s.beginRequest) inv was').of_request
  · rw [letter]
    exact ((amendedFaces_raises (s := s.beginRequest) right was' sorted.cabins).of_blocks cabin plate).of_request
  · exact ((amendedBy_tells (s := s.beginRequest) right was').of_blocks target port).of_request
  · rw [letter, kindBit, label, labelCauses_withEventsOf]
    have marks := amendedAll_marks (s := s.beginRequest) (b := b) (old := old) sorted.screens
    rw [amendTargetCauses_eq] at marks
    exact marks.of_request

end Sys2Proof.Machine
end

section
/-! Where the plates stand, trunk by trunk (section 4.1, R69), and how the state, the wires, the work and the timers of
a trunk go together (R85 to R89, R101, R105). -/

namespace Sys2Proof.Machine

/-! ### A cabin on a trunk -/

/-- How often a cabin stands on a trunk: in its queues, or as the subject of its write. -/
def Trunk.places (t : Trunk) (c : Nat) : Nat :=
  t.urgent.count c + t.ordinary.count c + (t.writing c).toNat

/-- A plate is PENDING on a trunk. -/
def Cabin.pendingOn (x : Cabin) (i : Fin 16) : Bool := decide (x.plateState = .pending) && onTrunk x.plate i

/-- The plate of a cabin is PENDING on a trunk. -/
def State.awaits (s : State) (i : Fin 16) (c : Nat) : Bool := (s.cabinAt c).any (·.pendingOn i)

/-- A trunk owns work that the cabin tables and the queues speak of. -/
structure Trunk.SameJobs (t u : Trunk) : Prop where
  urgent : u.urgent = t.urgent
  ordinary : u.ordinary = t.ordinary
  work : u.work = t.work

theorem writing_of_work {t u : Trunk} (h : u.work = t.work) (c : Nat) : u.writing c = t.writing c := by
  rw [Trunk.writing, h]
  rfl

theorem surveying_of_work {t u : Trunk} (h : u.work = t.work) : u.surveying = t.surveying := by
  rw [Trunk.surveying, h]
  rfl

theorem Trunk.SameJobs.places {t u : Trunk} (h : t.SameJobs u) (c : Nat) : u.places c = t.places c := by
  rw [Trunk.places, h.urgent, h.ordinary, writing_of_work h.work, Trunk.places]

@[simp] theorem writing_none {t : Trunk} (h : t.work = none) (c : Nat) : t.writing c = false := by
  rw [Trunk.writing, h]

theorem writing_write {t : Trunk} {d a : Nat} {f : Face} {k : QueueClass} (h : t.work = some (.write (some d) a f k))
    (c : Nat) : t.writing c = decide (d = c) := by
  rw [Trunk.writing, h]

/-- A cabin that waits or is written stands on the trunk. -/
theorem places_pos_iff (t : Trunk) (c : Nat) :
    0 < t.places c ↔ c ∈ t.urgent ∨ c ∈ t.ordinary ∨ t.writing c = true := by
  have written : 0 < (t.writing c).toNat ↔ t.writing c = true := by cases t.writing c <;> simp
  rw [Trunk.places, ← List.count_pos_iff, ← List.count_pos_iff, ← written]
  omega

theorem sum_allTrunks (f : Fin 16 → Nat) : (allTrunks.map f).sum = ∑ i, f i := by
  rw [Fin.sum_univ_def]
  rfl

theorem platePlaces_eq (s : State) (c : Nat) : s.platePlaces c = ∑ i, (s.trunk i).places c := by
  rw [State.platePlaces, sum_allTrunks]
  refine Finset.sum_congr rfl fun i _ => ?_
  rw [Trunk.places]
  cases (s.trunk i).writing c <;> rfl

/-- A cabin that waits on a trunk waits on no other. -/
theorem awaits_unique {s : State} {i j : Fin 16} {c : Nat} (hi : s.awaits i c = true) (hj : s.awaits j c = true) :
    i = j := by
  obtain ⟨x, live, pending⟩ := (Option.any_eq_true _ _).mp hi
  obtain ⟨y, live', pending'⟩ := (Option.any_eq_true _ _).mp hj
  cases live.symm.trans live'
  simp only [Cabin.pendingOn, onTrunk, Bool.and_eq_true, Option.any_eq_true, decide_eq_true_eq] at pending pending'
  obtain ⟨_, p, address, rfl⟩ := pending
  obtain ⟨_, q, address', rfl⟩ := pending'
  cases address.symm.trans address'
  rfl

/-! ### The invariant of plates and trunks, trunk by trunk -/

/-- Plates and trunks are in order (R69, R85 to R89, R101, R105), but for the places of the cabins that are `off`: those
stand nowhere for now. -/
structure Plated (off : Nat → Bool) (s : State) : Prop where
  sorted : Table.wf s.cabin.cabins = true
  kinds : ∀ c x, s.cabinAt c = some x → (x.plate = none ↔ x.plateState = .noPlate)
  places : ∀ i c, (s.trunk i).places c = (s.awaits i c && !off c).toNat
  trunks : ∀ i, TrunkOk (s.trunk i)
  room : s.held + s.reserved ≤ 64

/-- No cabin is off. -/
def nobody : Nat → Bool := fun _ => false

theorem plated_iff (s : State) : Plated nobody s ↔ PlateInv s ∧ TrunkInv s := by
  constructor
  · intro h
    refine ⟨⟨h.sorted, h.kinds, fun c => ?_, fun c x p live plate pending => ?_⟩, h.trunks, h.room⟩
    · have places : ∀ i, (s.trunk i).places c = (s.awaits i c).toNat := fun i => by simp [h.places, nobody]
      simp only [platePlaces_eq, places]
      cases live : s.cabinAt c with
      | none => simp [State.awaits, live]
      | some x =>
        cases plate : x.plate with
        | none => simp [State.awaits, live, Cabin.pendingOn, onTrunk, plate, (h.kinds c x live).mp plate]
        | some p =>
          have awaits : ∀ i, (s.awaits i c).toNat = if p.trunk = i then (decide (x.plateState = .pending)).toNat else 0 :=
            fun i => by
              rw [State.awaits, live, Option.any_some, Cabin.pendingOn, onTrunk, plate, Option.any_some]
              split <;> simp [*]
          simp only [awaits, Finset.sum_ite_eq, Finset.mem_univ, if_true, Option.any_some]
          split <;> simp [*]
    · have here : s.awaits p.trunk c = true := by simp [State.awaits, live, Cabin.pendingOn, onTrunk, plate, pending]
      exact (places_pos_iff _ _).mp (by simp [h.places, here, nobody])
  · rintro ⟨⟨sorted, kinds, places, owed⟩, trunks, room⟩
    refine ⟨sorted, kinds, fun i c => ?_, trunks, room⟩
    have total := (platePlaces_eq s c).symm.trans (places c)
    have bound : (s.trunk i).places c ≤ ∑ i, (s.trunk i).places c :=
      Finset.single_le_sum (f := fun i => (s.trunk i).places c) (fun _ _ => Nat.zero_le _) (Finset.mem_univ i)
    simp only [nobody, Bool.not_false, Bool.and_true]
    by_cases pending : (s.cabinAt c).any (fun x => decide (x.plateState = .pending)) = true
    · rw [if_pos pending] at total
      obtain ⟨x, live, state⟩ := (Option.any_eq_true _ _).mp pending
      simp only [decide_eq_true_eq] at state
      obtain ⟨p, plate⟩ := Option.ne_none_iff_exists'.mp
        (mt (kinds c x live).mp (by rw [state]; decide))
      have there : 0 < (s.trunk p.trunk).places c := (places_pos_iff _ _).mpr (owed c x p live plate state)
      have awaits : s.awaits i c = decide (p.trunk = i) := by
        simp [State.awaits, live, Cabin.pendingOn, onTrunk, plate, state]
      rw [awaits]
      by_cases e : p.trunk = i
      · subst e
        simp only [decide_true, Bool.toNat_true]
        omega
      · have pair := Finset.add_le_sum (f := fun i => (s.trunk i).places c) (fun _ _ => Nat.zero_le _)
          (Finset.mem_univ i) (Finset.mem_univ p.trunk) (Ne.symm e)
        simp only [e, decide_false, Bool.toNat_false]
        omega
    · rw [if_neg pending] at total
      have awaits : s.awaits i c = false := by
        rw [State.awaits]
        cases live : s.cabinAt c with
        | none => rfl
        | some x =>
          rw [live, Option.any_some] at pending
          rw [Option.any_some, Cabin.pendingOn, Bool.eq_false_iff.mpr pending, Bool.false_and]
      rw [awaits]
      simp only [Bool.toNat_false]
      omega

end Sys2Proof.Machine
end

section
/-! How the state, the wires, the work and the timers of a trunk go together (R85 to R89, R101), move by move. -/

namespace Sys2Proof.Machine

/-! ### The timers that follow state and wires -/

/-- What is in order on a trunk, but for the idle guard and the stuck timer. -/
structure Trunk.Steady (t : Trunk) : Prop where
  enabled : t.enabled = true ↔ t.state ≠ .disabled
  work : t.work.isSome = true ↔ t.state = .talking ∨ t.state = .held
  hold : t.holdTimer.isSome = true ↔ t.state = .held
  survey : t.surveyTimer.isSome = t.enabled
  talking : t.state = .talking → t.bothHigh = true
  held : t.state = .held → t.clockHigh = false ∧ t.dataHigh = true
  low : t.state = .recovering ∨ t.state = .fault → t.bothHigh = false

theorem TrunkOk.steady {t : Trunk} (h : TrunkOk t) : t.Steady := by
  obtain ⟨enabled, work, hold, survey, _, _, talking, held, low⟩ := h
  exact ⟨enabled, work, hold, survey, talking, held, low⟩

theorem TrunkOk.guard {t : Trunk} (h : TrunkOk t) :
    t.guardTimer.isSome = true ↔ (t.state = .settling ∨ t.state = .listening) ∧ t.bothHigh = true := h.2.2.2.2.1

theorem TrunkOk.stuck {t : Trunk} (h : TrunkOk t) :
    t.stuckTimer.isSome = true ↔ (t.state = .settling ∨ t.state = .idle ∨ t.state = .listening ∨
      t.state = .recovering) ∧ t.bothHigh = false := h.2.2.2.2.2.1

@[simp] theorem isSome_runWhile (c : Bool) (t : Timer) : (runWhile c t).isSome = c := by
  rw [runWhile]
  cases c with
  | false => rfl
  | true =>
    rw [if_pos rfl]
    split
    · assumption
    · rfl

theorem guards_iff (st : TrunkState) : st.guards = true ↔ st = .settling ∨ st = .listening := by
  cases st <;> simp [TrunkState.guards]

theorem watches_iff (st : TrunkState) :
    st.watches = true ↔ st = .settling ∨ st = .idle ∨ st = .listening ∨ st = .recovering := by
  cases st <;> simp [TrunkState.watches]

/-- A trunk whose idle guard and stuck timer are set as its state and wires want them. -/
theorem trunkOk_retime {t : Trunk} (h : t.Steady) : TrunkOk t.retime := by
  refine ⟨h.enabled, h.work, h.hold, h.survey, ?_, ?_, h.talking, h.held, h.low⟩
  · rw [← guards_iff, ← Bool.and_eq_true]
    exact iff_of_eq (congrArg (· = true) (isSome_runWhile _ _))
  · rw [← watches_iff, ← Bool.not_eq_true', ← Bool.and_eq_true]
    exact iff_of_eq (congrArg (· = true) (isSome_runWhile _ _))

/-- A trunk goes to another state than HELD, if its work, its timers and its wires suit that state. -/
theorem trunkOk_goTo {t : Trunk} {st : TrunkState} (enabled : t.enabled = true ↔ st ≠ .disabled)
    (work : t.work.isSome = true ↔ st = .talking) (survey : t.surveyTimer.isSome = t.enabled) (notHeld : st ≠ .held)
    (talking : st = .talking → t.bothHigh = true) (low : st = .recovering ∨ st = .fault → t.bothHigh = false) :
    TrunkOk (t.goTo st) :=
  trunkOk_retime ⟨enabled, work.trans (by simp [notHeld]), by simp [notHeld, stopped], survey, talking,
    fun held => absurd held notHeld, low⟩

/-- An enabled trunk without work goes to a state in which the part does not talk, whatever its wires. -/
theorem trunkOk_rests (t : Trunk) (on : t.enabled = true) (work : t.work = none) (survey : t.surveyTimer.isSome = true)
    {st : TrunkState} (rests : st = .settling ∨ st = .idle ∨ st = .listening) : TrunkOk (t.goTo st) := by
  refine trunkOk_goTo ?_ ?_ (survey.trans on.symm) ?_ ?_ ?_ <;> rcases rests with rfl | rfl | rfl <;> simp [on, work]

/-! ### The jobs of a trunk -/

theorem Trunk.SameJobs.refl (t : Trunk) : t.SameJobs t := ⟨rfl, rfl, rfl⟩

theorem Trunk.SameJobs.trans {t u v : Trunk} (h : t.SameJobs u) (g : u.SameJobs v) : t.SameJobs v :=
  ⟨g.urgent.trans h.urgent, g.ordinary.trans h.ordinary, g.work.trans h.work⟩

theorem sameJobs_goTo (t : Trunk) (st : TrunkState) : t.SameJobs (t.goTo st) := ⟨rfl, rfl, rfl⟩

theorem sameJobs_wiresSeen (t : Trunk) : t.SameJobs t.wiresSeen := by
  rw [Trunk.wiresSeen]
  cases t.state <;> dsimp only
  case recovering => split <;> exact ⟨rfl, rfl, rfl⟩
  case fault => split <;> exact ⟨rfl, rfl, rfl⟩
  all_goals exact ⟨rfl, rfl, rfl⟩

/-- A trunk's wires stand elsewhere: its jobs are the same. -/
theorem sameJobs_wires (t : Trunk) (c d : Bool) : t.SameJobs (t.wires c d) := ⟨rfl, rfl, rfl⟩

theorem sameJobs_wireChange (t : Trunk) (c d : Bool) : t.SameJobs (t.wireChange c d) := by
  rw [Trunk.wireChange]
  cases t.state <;> dsimp only
  case talking => exact .refl t
  case held => split <;> exact ⟨rfl, rfl, rfl⟩
  case disabled => exact sameJobs_wires t c d
  all_goals exact (sameJobs_wires t c d).trans (sameJobs_wiresSeen _)

theorem sameJobs_otherOpen (t : Trunk) : t.SameJobs t.otherOpen := by
  rw [Trunk.otherOpen]
  cases t.state <;> dsimp only
  case talking => exact .refl t
  case held => exact .refl t
  case disabled => exact sameJobs_wires t _ _
  case idle => exact (sameJobs_wires t _ _).trans (sameJobs_goTo _ _)
  case settling => exact (sameJobs_wires t _ _).trans (sameJobs_goTo _ _)
  all_goals exact (sameJobs_wires t _ _).trans (sameJobs_wiresSeen _)

theorem sameJobs_otherClose (t : Trunk) : t.SameJobs t.otherClose := by
  rw [Trunk.otherClose]
  cases t.state <;> dsimp only
  case talking => exact .refl t
  case held => exact .refl t
  case disabled => exact sameJobs_wires t _ _
  case listening => exact (sameJobs_wires t _ _).trans (sameJobs_goTo _ _)
  all_goals exact (sameJobs_wires t _ _).trans (sameJobs_wiresSeen _)

/-! ### The wires change -/

/-- A trunk that is neither DISABLED nor talking is enabled and owns no work. -/
theorem TrunkOk.quiet {t : Trunk} (h : TrunkOk t) (off : t.state ≠ .disabled) (talking : t.state ≠ .talking)
    (held : t.state ≠ .held) : t.enabled = true ∧ t.work = none := by
  refine ⟨h.steady.enabled.mpr off, ?_⟩
  have := mt h.steady.work.mp (by simp [talking, held])
  simpa using this

/-- The wires of a trunk on which the part does not talk are sensed anew (R85 to R88). -/
theorem trunkOk_wiresSeen {t : Trunk} (h : TrunkOk t) (off : t.state ≠ .disabled) (talking : t.state ≠ .talking)
    (held : t.state ≠ .held) (c d : Bool) : TrunkOk (t.wires c d).wiresSeen := by
  obtain ⟨on, work⟩ := h.quiet off talking held
  have again : (t.state = .recovering ∨ t.state = .fault → (t.wires c d).bothHigh = false) →
      TrunkOk (t.wires c d).retime := fun low =>
    trunkOk_retime ⟨h.steady.enabled, h.steady.work, h.steady.hold, h.steady.survey, fun e => absurd e talking,
      fun e => absurd e held, low⟩
  have survey := h.steady.survey.trans on
  rw [Trunk.wiresSeen]
  cases state : (t.wires c d).state <;> dsimp only
  case recovering =>
    split
    · exact trunkOk_rests (t.wires c d) on work survey (.inl rfl)
    · exact again fun _ => Bool.eq_false_iff.mpr ‹_›
  case fault =>
    split
    · exact trunkOk_rests { t.wires c d with believed := none } on work survey (.inl rfl)
    · exact again fun _ => Bool.eq_false_iff.mpr ‹_›
  case disabled => exact absurd state off
  case talking => exact absurd state talking
  case held => exact absurd state held
  all_goals exact again fun low => by rw [show t.state = _ from state] at low; simp at low

/-- The wires of a DISABLED trunk are of no matter. -/
theorem trunkOk_wires_disabled {t : Trunk} (h : TrunkOk t) (off : t.state = .disabled) (c d : Bool) :
    TrunkOk (t.wires c d) := by
  obtain ⟨enabled, work, hold, survey, guard, stuck, _⟩ := h
  refine ⟨enabled, work, hold, survey, ?_, ?_, ?_, ?_, ?_⟩ <;> simp_all [Trunk.wires]

/-- The part talks on after a hold (R83). -/
theorem trunkOk_released {t : Trunk} (h : TrunkOk t) (held : t.state = .held) :
    TrunkOk ((t.wires true t.dataHigh).goTo .talking) := by
  have job : t.work.isSome = true := h.steady.work.mpr (.inr held)
  have on : t.enabled = true := h.steady.enabled.mpr (by rw [held]; decide)
  refine trunkOk_goTo (iff_of_true on (by decide)) (iff_of_true job rfl) h.steady.survey (by decide) (fun _ => ?_)
    (by simp)
  simp [Trunk.bothHigh, Trunk.wires, (h.steady.held held).2]

theorem trunkOk_wireChange {t : Trunk} (h : TrunkOk t) (c d : Bool) : TrunkOk (t.wireChange c d) := by
  have seen := trunkOk_wiresSeen h (c := c) (d := d)
  rw [Trunk.wireChange]
  cases state : t.state <;> dsimp only
  case talking => exact h
  case held =>
    split
    · exact trunkOk_released h state
    · exact h
  case disabled => exact trunkOk_wires_disabled h state c d
  all_goals exact seen (by simp [state]) (by simp [state]) (by simp [state])

theorem trunkOk_otherOpen {t : Trunk} (h : TrunkOk t) : TrunkOk t.otherOpen := by
  have seen := trunkOk_wiresSeen h (c := true) (d := false)
  have listens : t.state ≠ .disabled → t.state ≠ .talking → t.state ≠ .held →
      TrunkOk ((t.wires true false).goTo .listening) := fun off talking held => by
    obtain ⟨on, work⟩ := h.quiet off talking held
    exact trunkOk_rests (t.wires true false) on work (h.steady.survey.trans on) (.inr (.inr rfl))
  rw [Trunk.otherOpen]
  cases state : t.state <;> dsimp only
  case talking => exact h
  case held => exact h
  case disabled => exact trunkOk_wires_disabled h state _ _
  case idle => exact listens (by simp [state]) (by simp [state]) (by simp [state])
  case settling => exact listens (by simp [state]) (by simp [state]) (by simp [state])
  all_goals exact seen (by simp [state]) (by simp [state]) (by simp [state])

theorem trunkOk_otherClose {t : Trunk} (h : TrunkOk t) : TrunkOk t.otherClose := by
  have seen := trunkOk_wiresSeen h (c := true) (d := true)
  rw [Trunk.otherClose]
  cases state : t.state <;> dsimp only
  case talking => exact h
  case held => exact h
  case disabled => exact trunkOk_wires_disabled h state _ _
  case listening =>
    obtain ⟨on, work⟩ := h.quiet (by simp [state]) (by simp [state]) (by simp [state])
    exact trunkOk_rests (t.wires true true) on work (h.steady.survey.trans on) (.inr (.inl rfl))
  all_goals exact seen (by simp [state]) (by simp [state]) (by simp [state])

/-! ### Transactions begin, are held and end -/

/-- The part opens on a trunk that is IDLE with both wires high (R90). -/
theorem trunkOk_talks {t u : Trunk} (h : TrunkOk t) (idle : t.state = .idle) (high : t.bothHigh = true)
    (same : u = { t with urgent := u.urgent, ordinary := u.ordinary, work := u.work }) (work : u.work.isSome = true) :
    TrunkOk (u.goTo .talking) := by
  rw [same]
  exact trunkOk_goTo (iff_of_true (h.steady.enabled.mpr (by rw [idle]; decide)) (by decide)) (iff_of_true work rfl)
    h.steady.survey (by decide) (fun _ => high) (by simp)

/-- A plate holds the part's transaction (R83, R87). -/
theorem trunkOk_held {t : Trunk} (h : TrunkOk t) (talking : t.state = .talking) (accepted : Bool) :
    TrunkOk (t.held accepted) := by
  have job : t.work.isSome = true := h.steady.work.mpr (.inl talking)
  have high := h.steady.talking talking
  rw [Trunk.bothHigh, Bool.and_eq_true] at high
  refine trunkOk_retime ⟨?_, ?_, by simp [started], h.steady.survey, by simp, fun _ => ⟨rfl, high.2⟩, by simp⟩
  · simpa [talking] using h.steady.enabled
  · obtain ⟨w, work⟩ := Option.isSome_iff_exists.mp job
    rw [work]
    cases w <;> simp

/-- The work ends: the trunk goes to a state in which the part does not talk, its wires as they then stand. -/
theorem trunkOk_endWork {t u : Trunk} (h : TrunkOk t) (busy : t.state = .talking ∨ t.state = .held)
    (enabled : u.enabled = t.enabled) (survey : u.surveyTimer = t.surveyTimer) {st : TrunkState}
    (quiet : st = .idle ∨ st = .listening ∨ st = .recovering) (low : st = .recovering → u.bothHigh = false) :
    TrunkOk (u.endWork st) := by
  have on : t.enabled = true := h.steady.enabled.mpr (by rcases busy with e | e <;> rw [e] <;> decide)
  refine trunkOk_goTo ?_ ?_ ?_ ?_ ?_ fun e => ?_
  · rcases quiet with rfl | rfl | rfl <;> simp [enabled, on]
  · rcases quiet with rfl | rfl | rfl <;> simp
  · show u.surveyTimer.isSome = u.enabled
    rw [survey, enabled, h.steady.survey]
  · rcases quiet with rfl | rfl | rfl <;> decide
  · rcases quiet with rfl | rfl | rfl <;> simp
  · rcases quiet with rfl | rfl | rfl
    · simp at e
    · simp at e
    · exact low rfl

/-! ### Enabling, disabling and restarting -/

/-- A trunk that starts afresh (R85). -/
theorem trunkOk_begin {t : Trunk} (on : t.enabled = true) (work : t.work = none) : TrunkOk t.begin :=
  trunkOk_rests
    { t with believed := none, surveyDue := false, surveyTimer := started, guardTimer := stopped, stuckTimer := stopped }
    on work rfl (.inl rfl)

/-- A DISABLED trunk without work and timers. -/
theorem trunkOk_off {t : Trunk} (state : t.state = .disabled) (off : t.enabled = false) (work : t.work = none)
    (survey : t.surveyTimer = none) (guard : t.guardTimer = none) (hold : t.holdTimer = none)
    (stuck : t.stuckTimer = none) : TrunkOk t := by
  refine ⟨?_, ?_, ?_, ?_, ?_, ?_, ?_, ?_, ?_⟩ <;> simp [*]

theorem trunkOk_disable (t : Trunk) : TrunkOk t.disable := by
  obtain ⟨state, off, work, _, survey, guard, hold, stuck⟩ := disable_ends t
  exact trunkOk_off state off work survey guard hold stuck

theorem trunkOk_restart (t : Trunk) : TrunkOk t.restart := by
  rw [Trunk.restart]
  dsimp only
  split
  · exact trunkOk_begin ‹_› rfl
  · exact trunkOk_off rfl (Bool.eq_false_iff.mpr ‹_›) rfl rfl rfl rfl rfl

end Sys2Proof.Machine
end

section
/-! What the moves of cabins and trunks do to the order of the plates (R64, R68, R69, R90). -/

namespace Sys2Proof.Machine

/-! ### What the order of the plates reads -/

/-- What the order of the plates reads of a cabin. -/
structure CabinPlating where
  plate : Option PlateAddress
  state : PlateState

def Cabin.plating (x : Cabin) : CabinPlating := { plate := x.plate, state := x.plateState }

theorem pendingOn_of_plating {x y : Cabin} (h : x.plating = y.plating) (i : Fin 16) : x.pendingOn i = y.pendingOn i := by
  rw [Cabin.pendingOn, Cabin.pendingOn, show x.plate = y.plate from congrArg CabinPlating.plate h,
    show x.plateState = y.plateState from congrArg CabinPlating.state h]

theorem awaits_of_platings {s t : State}
    (h : Table.view Cabin.plating t.cabin.cabins = Table.view Cabin.plating s.cabin.cabins) (i : Fin 16) (c : Nat) :
    t.awaits i c = s.awaits i c := by
  have shown := congrArg (fun u => Table.get u c) h
  simp only [Table.get_view] at shown
  rw [State.awaits, State.awaits, State.cabinAt, State.cabinAt]
  cases now : Table.get t.cabin.cabins c with
  | none =>
    rw [now, Option.map_none, eq_comm, Option.map_eq_none_iff] at shown
    rw [shown]
  | some x =>
    rw [now, Option.map_some, eq_comm, Option.map_eq_some_iff] at shown
    obtain ⟨y, was, same⟩ := shown
    rw [was, Option.any_some, Option.any_some, pendingOn_of_plating same]

theorem awaits_of_cabinAt {s t : State} {c : Nat} (h : t.cabinAt c = s.cabinAt c) (i : Fin 16) :
    t.awaits i c = s.awaits i c := by
  rw [State.awaits, h, State.awaits]

theorem awaits_modTrunk (s : State) (j : Fin 16) (f : Trunk → Trunk) (i : Fin 16) (c : Nat) :
    (s.modTrunk j f).awaits i c = s.awaits i c := rfl

theorem not_awaits_of_state {s : State} {c : Nat} (h : ∀ x, s.cabinAt c = some x → x.plateState ≠ .pending) (i : Fin 16) :
    s.awaits i c = false := by
  rw [State.awaits]
  cases live : s.cabinAt c with
  | none => rfl
  | some x => simp [Cabin.pendingOn, h x live]

/-- A cabin that stands somewhere is live, PENDING and has its plate there. -/
theorem cabinAt_of_awaits {s : State} {i : Fin 16} {c : Nat} (h : s.awaits i c = true) :
    ∃ x p, s.cabinAt c = some x ∧ x.plateState = .pending ∧ x.plate = some p ∧ p.trunk = i := by
  obtain ⟨x, live, pending⟩ := (Option.any_eq_true _ _).mp h
  simp only [Cabin.pendingOn, onTrunk, Bool.and_eq_true, Option.any_eq_true, decide_eq_true_eq] at pending
  obtain ⟨state, p, plate, there⟩ := pending
  exact ⟨x, p, live, state, plate, there⟩

theorem reserved_eq (s : State) : s.reserved = 2 * ∑ i, (s.trunk i).surveying.toNat := by
  have counted : ∀ l : List (Fin 16), (l.filter fun i => (s.trunk i).surveying).length =
      (l.map fun i => (s.trunk i).surveying.toNat).sum := fun l => by
    induction l with
    | nil => rfl
    | cons i l ih =>
      rw [List.filter_cons, List.map_cons, List.sum_cons, ← ih]
      cases (s.trunk i).surveying <;> simp [Nat.add_comm]
  rw [State.reserved, counted, sum_allTrunks]

/-- What a trunk's work brings to the entries reserved for what it replaces. -/
theorem reserved_modTrunk (s : State) (i : Fin 16) (f : Trunk → Trunk) :
    (s.modTrunk i f).reserved + 2 * (s.trunk i).surveying.toNat =
      s.reserved + 2 * (f (s.trunk i)).surveying.toNat := by
  have others : ∑ j ∈ Finset.univ.erase i, ((s.modTrunk i f).trunk j).surveying.toNat =
      ∑ j ∈ Finset.univ.erase i, (s.trunk j).surveying.toNat :=
    Finset.sum_congr rfl fun j hj => by rw [trunk_modTrunk_other _ _ _ _ (Finset.ne_of_mem_erase hj)]
  rw [reserved_eq, reserved_eq, ← Finset.add_sum_erase _ _ (Finset.mem_univ i),
    ← Finset.add_sum_erase _ (fun j => (s.trunk j).surveying.toNat) (Finset.mem_univ i), others, trunk_modTrunk_same]
  omega

theorem reserved_of_trunks {s t : State} (h : ∀ i, (t.trunk i).surveying = true → (s.trunk i).surveying = true) :
    t.reserved ≤ s.reserved := by
  rw [reserved_eq, reserved_eq]
  refine Nat.mul_le_mul_left 2 (Finset.sum_le_sum fun i _ => ?_)
  cases now : (t.trunk i).surveying with
  | false => exact Nat.zero_le _
  | true => rw [h i now]

/-- A state that shows the same of plates and trunks. -/
theorem Plated.of_views {off : Nat → Bool} {s t : State} (h : Plated off s)
    (cabins : Table.view Cabin.plating t.cabin.cabins = Table.view Cabin.plating s.cabin.cabins)
    (plate : t.plate = s.plate) : Plated off t := by
  have trunk := trunk_of_plate plate
  have reserved : t.reserved ≤ s.reserved := reserved_of_trunks fun i => by rw [trunk]; exact id
  refine ⟨(Table.wf_of_view cabins).trans h.sorted, fun c x live => ?_, fun i c => ?_, fun i => ?_, ?_⟩
  · obtain ⟨y, was, same⟩ := Table.get_of_view cabins live
    have held := h.kinds c y was
    rwa [show y.plate = x.plate from congrArg CabinPlating.plate same,
      show y.plateState = x.plateState from congrArg CabinPlating.state same] at held
  · rw [trunk, awaits_of_platings cabins]
    exact h.places i c
  · rw [trunk]
    exact h.trunks i
  · have room := h.room
    rw [State.held, plate]
    exact (Nat.add_le_add_left reserved _).trans room

theorem Plated.of_blocks {off : Nat → Bool} {s t : State} (h : Plated off s) (cabin : t.cabin = s.cabin)
    (plate : t.plate = s.plate) : Plated off t := h.of_views (by rw [cabin]) plate

/-- Who is off matters of the cabins that wait. -/
theorem Plated.off_of {off off' : Nat → Bool} {s : State} (h : Plated off s)
    (same : ∀ i c, s.awaits i c = true → off' c = off c) : Plated off' s :=
  ⟨h.sorted, h.kinds, fun i c => by
    rw [h.places]
    cases waits : s.awaits i c with
    | false => rfl
    | true => rw [same i c waits], h.trunks, h.room⟩

/-! ### One cabin goes off, and comes back -/

/-- A cabin is off too. -/
def also (off : Nat → Bool) (c : Nat) : Nat → Bool := fun d => off d || decide (d = c)

/-- A cabin is off no longer. -/
def without (off : Nat → Bool) (c : Nat) : Nat → Bool := fun d => off d && decide (d ≠ c)

@[simp] theorem also_same (off : Nat → Bool) (c : Nat) : also off c c = true := by simp [also]

theorem without_also (c : Nat) : without (also nobody c) c = nobody := by
  funext d
  by_cases e : d = c <;> simp [without, also, nobody, e]

/-- A cabin that does not wait may count as off. -/
theorem Plated.off {off : Nat → Bool} {s : State} (h : Plated off s) {c : Nat}
    (idle : ∀ x, s.cabinAt c = some x → x.plateState ≠ .pending) : Plated (also off c) s :=
  h.off_of fun i d waits => by
    have other : d ≠ c := fun e => by
      rw [e, not_awaits_of_state idle] at waits
      cases waits
    simp [also, other]

/-- A cabin that is off and does not wait is back in order. -/
theorem Plated.back {s : State} {c : Nat} (h : Plated (also nobody c) s)
    (idle : ∀ x, s.cabinAt c = some x → x.plateState ≠ .pending) : Plated nobody s :=
  h.off_of fun i d waits => by
    have other : d ≠ c := fun e => by
      rw [e, not_awaits_of_state idle] at waits
      cases waits
    simp [also, nobody, other]

/-- The record of a cabin that is off changes, comes or goes. -/
theorem Plated.recordMoved {off : Nat → Bool} {s t : State} (h : Plated off s) {c : Nat} (gone : off c = true)
    (plate : t.plate = s.plate) (sorted : Table.wf t.cabin.cabins = true)
    (others : ∀ d, d ≠ c → t.cabinAt d = s.cabinAt d)
    (kind : ∀ x, t.cabinAt c = some x → (x.plate = none ↔ x.plateState = .noPlate)) : Plated off t := by
  have trunk := trunk_of_plate plate
  have reserved : t.reserved ≤ s.reserved := reserved_of_trunks fun i => by rw [trunk]; exact id
  refine ⟨sorted, fun d x live => ?_, fun i d => ?_, fun i => ?_, ?_⟩
  · by_cases e : d = c
    · exact kind x (e ▸ live)
    · exact h.kinds d x (others d e ▸ live)
  · rw [trunk, h.places]
    by_cases e : d = c
    · simp [e, gone]
    · rw [awaits_of_cabinAt (others d e)]
  · rw [trunk]
    exact h.trunks i
  · have room := h.room
    rw [State.held, plate]
    exact (Nat.add_le_add_left reserved _).trans room

/-- The record of a cabin that is off is changed. -/
theorem Plated.modCabin_off {off : Nat → Bool} {s : State} (h : Plated off s) {c : Nat} (gone : off c = true)
    (f : Cabin → Cabin)
    (kind : ∀ x, s.cabinAt c = some x → ((f x).plate = none ↔ (f x).plateState = .noPlate)) :
    Plated off (s.modCabin c f) := by
  refine h.recordMoved gone rfl ((Table.wf_modify _ _ _).trans h.sorted) (fun d e => ?_) fun x live => ?_
  · rw [cabinAt_modCabin]
    simp [e]
  · rw [cabinAt_modCabin] at live
    obtain ⟨y, was, rfl⟩ := Option.map_eq_some_iff.mp live
    rw [if_pos rfl]
    exact kind y was

/-- A change of a cabin's record that leaves the plate alone. -/
theorem Plated.modCabin {off : Nat → Bool} {s : State} (h : Plated off s) (c : Nat) (f : Cabin → Cabin)
    (same : ∀ x, (f x).plating = x.plating) : Plated off (s.modCabin c f) :=
  h.of_views (Table.view_modify _ _ _ _ same) rfl

/-! ### One trunk moves -/

/-- A trunk moves: its own order follows, and no cabin of another trunk goes off or comes back. -/
theorem Plated.trunkMoved {off off' : Nat → Bool} {s : State} (h : Plated off s) (i : Fin 16) {f : Trunk → Trunk}
    (places : ∀ c, (f (s.trunk i)).places c = (s.awaits i c && !off' c).toNat)
    (away : ∀ j c, j ≠ i → s.awaits j c = true → off' c = off c) (ok : TrunkOk (f (s.trunk i)))
    (room : (f (s.trunk i)).surveying = true → (s.trunk i).surveying = true ∨ 2 ≤ s.freeEntries) :
    Plated off' (s.modTrunk i f) := by
  refine ⟨h.sorted, h.kinds, fun j c => ?_, fun j => ?_, ?_⟩
  · rw [awaits_modTrunk]
    by_cases e : j = i
    · rw [e, trunk_modTrunk_same]
      exact places c
    · rw [trunk_modTrunk_other _ _ _ _ e, h.places]
      cases waits : s.awaits j c with
      | false => rfl
      | true => rw [away j c e waits]
  · by_cases e : j = i
    · rw [e, trunk_modTrunk_same]
      exact ok
    · rw [trunk_modTrunk_other _ _ _ _ e]
      exact h.trunks j
  · have reserved := reserved_modTrunk s i f
    have before := h.room
    have free : s.freeEntries = 64 - s.held - s.reserved := rfl
    have held : (s.modTrunk i f).held = s.held := rfl
    cases now : (f (s.trunk i)).surveying with
    | false =>
      rw [now, Bool.toNat_false] at reserved
      omega
    | true =>
      rw [now, Bool.toNat_true] at reserved
      rcases room now with was | free'
      · rw [was, Bool.toNat_true] at reserved
        omega
      · omega

/-- A trunk moves without a change of its jobs. -/
theorem Plated.trunkSteps {off : Nat → Bool} {s : State} (h : Plated off s) (i : Fin 16) {f : Trunk → Trunk}
    (jobs : (s.trunk i).SameJobs (f (s.trunk i))) (ok : TrunkOk (f (s.trunk i))) : Plated off (s.modTrunk i f) :=
  h.trunkMoved i (fun c => by rw [jobs.places, h.places]) (fun _ _ _ _ => rfl) ok
    fun now => .inl (by rwa [← surveying_of_work jobs.work])

/-- TrunkOk does not read which work it is, nor the queues. -/
theorem trunkOk_of_work {t u : Trunk} (h : TrunkOk t)
    (same : u = { t with urgent := u.urgent, ordinary := u.ordinary, work := u.work })
    (work : u.work.isSome = t.work.isSome) : TrunkOk u := by
  rw [same]
  obtain ⟨enabled, job, rest⟩ := h
  exact ⟨enabled, by simpa [work] using job, rest⟩

/-! ### A cabin joins and leaves a trunk -/

theorem places_joinTail (t : Trunk) (k : QueueClass) (c d : Nat) :
    (t.joinTail k c).places d = t.places d + (decide (d = c)).toNat := by
  have counted : ([c].count d) = (decide (d = c)).toNat := by
    by_cases e : d = c
    · simp [e]
    · simp [e, Ne.symm e]
  have written : (t.joinTail k c).writing d = t.writing d := writing_of_work (by cases k <;> rfl) d
  rw [Trunk.places, Trunk.places, written]
  cases k <;> simp only [Trunk.joinTail, List.count_append, counted] <;> omega

theorem places_joinHead (t : Trunk) (k : QueueClass) (c d : Nat) :
    (t.joinHead k c).places d = t.places d + (decide (d = c)).toNat := by
  have counted : ∀ l : List Nat, (c :: l).count d = l.count d + (decide (d = c)).toNat := fun l => by
    by_cases e : d = c
    · simp [e]
    · simp [e, Ne.symm e]
  have written : (t.joinHead k c).writing d = t.writing d := writing_of_work (by cases k <;> rfl) d
  rw [Trunk.places, Trunk.places, written]
  cases k <;> simp only [Trunk.joinHead, counted] <;> omega

theorem count_left (l : List Nat) (c d : Nat) :
    (l.filter fun x => decide (x ≠ c)).count d = if d = c then 0 else l.count d := by
  by_cases e : d = c
  · subst e
    simp [List.count_eq_zero]
  · rw [if_neg e, List.count_filter]
    simpa using e

theorem writing_iff (t : Trunk) (c : Nat) :
    t.writing c = true ↔ ∃ a f k, t.work = some (.write (some c) a f k) := by
  rw [Trunk.writing]
  cases t.work with
  | none => simp
  | some w =>
    cases w with
    | write d a f k => cases d <;> simp
    | broadcast m => simp
    | survey a acc => simp

theorem detach_of_writing {t : Trunk} {c a : Nat} {f : Face} {k : QueueClass}
    (h : t.work = some (.write (some c) a f k)) : t.detach c = { t with work := some (.write none a f k) } := by
  rw [Trunk.detach, h]
  exact if_pos rfl

theorem detach_of_not_writing {t : Trunk} {c : Nat} (h : t.writing c = false) : t.detach c = t := by
  rw [Trunk.detach]
  split
  · rename_i work
    rw [writing_write work, decide_eq_false_iff_not] at h
    exact if_neg h
  all_goals rfl

/-- What a detached write changes of a trunk's jobs. -/
theorem detach_jobs (t : Trunk) (c : Nat) : t.detach c = { t with work := (t.detach c).work } ∧
    (t.detach c).work.isSome = t.work.isSome ∧ (t.detach c).surveying = t.surveying ∧
    ∀ d, (t.detach c).writing d = (t.writing d && decide (d ≠ c)) := by
  by_cases written : t.writing c = true
  · obtain ⟨a, f, k, work⟩ := (writing_iff t c).mp written
    have gone := detach_of_writing work
    refine ⟨by rw [gone], by rw [gone, work]; rfl, by rw [gone, Trunk.surveying, Trunk.surveying, work], fun d => ?_⟩
    rw [gone, Trunk.writing, writing_write work]
    by_cases e : c = d
    · simp [e]
    · simp [e]
  · rw [detach_of_not_writing (Bool.eq_false_iff.mpr written)]
    refine ⟨rfl, rfl, rfl, fun d => ?_⟩
    by_cases e : d = c
    · simp [e, Bool.eq_false_iff.mpr written]
    · simp [e]

theorem places_leave_detach (t : Trunk) (c d : Nat) :
    ((t.leave c).detach c).places d = if d = c then 0 else t.places d := by
  obtain ⟨same, _, _, writing⟩ := detach_jobs (t.leave c) c
  rw [Trunk.places, writing, same]
  have before : (t.leave c).writing d = t.writing d := writing_of_work rfl d
  simp only [Trunk.leave, count_left] at *
  rw [before]
  split
  · simp [*]
  · simp [Trunk.places, *]

/-- A cabin leaves its trunk and is off (R64, R65). -/
theorem Plated.leavePlate {off : Nat → Bool} {s : State} (h : Plated off s) (c : Nat) :
    Plated (also off c) (s.leavePlate c) := by
  rw [State.leavePlate]
  cases live : s.cabinAt c with
  | none => exact h.off fun x now => by rw [live] at now; cases now
  | some x =>
    cases plate : x.plate with
    | none =>
      simp only [Option.bind_some, plate]
      exact h.off fun y now => by
        cases live.symm.trans now
        rw [(h.kinds c x live).mp plate]
        decide
    | some p =>
      simp only [Option.bind_some, plate]
      obtain ⟨same, some_, surveying, _⟩ := detach_jobs ((s.trunk p.trunk).leave c) c
      refine h.trunkMoved p.trunk (fun d => ?_) (fun j d other waits => ?_) ?_ fun now => .inl ?_
      · rw [places_leave_detach, h.places, also]
        split <;> simp [*]
      · have apart : d ≠ c := fun e => by
          obtain ⟨y, q, now, _, address, there⟩ := cabinAt_of_awaits waits
          rw [e, live] at now
          cases now
          rw [plate] at address
          cases address
          exact other there.symm
        simp [also, apart]
      · refine trunkOk_of_work (h.trunks p.trunk) ?_ some_
        rw [same]
        rfl
      · rw [surveying] at now
        exact now

/-- A cabin that is off and PENDING joins its trunk's queue, and is back in order (R68). -/
theorem Plated.joins {off : Nat → Bool} {s : State} (h : Plated off s) {c : Nat} (gone : off c = true) {x : Cabin}
    (live : s.cabinAt c = some x) (pending : x.plateState = .pending) :
    Plated (without off c) (s.joinPlateQueue c) := by
  obtain ⟨p, plate⟩ := Option.ne_none_iff_exists'.mp (mt (h.kinds c x live).mp (by rw [pending]; decide))
  have waits : ∀ j, s.awaits j c = decide (p.trunk = j) := fun j => by
    simp [State.awaits, live, Cabin.pendingOn, onTrunk, plate, pending]
  have joined : s.joinPlateQueue c = s.modTrunk p.trunk fun t => t.joinTail s.plateClassNow c := by
    rw [State.joinPlateQueue, live, Option.bind_some, plate]
  rw [joined]
  refine h.trunkMoved p.trunk (fun d => ?_) (fun j d other waits' => ?_) ?_ fun now => .inl ?_
  · rw [places_joinTail, h.places, without]
    by_cases e : d = c
    · subst e
      simp [waits, gone]
    · simp [e]
  · have apart : d ≠ c := fun e => by
      rw [e, waits, decide_eq_true_eq] at waits'
      exact other waits'.symm
    simp [without, apart]
  · have ok := h.trunks p.trunk
    cases s.plateClassNow <;> exact trunkOk_of_work ok rfl rfl
  · rw [← now]
    cases s.plateClassNow <;> rfl

/-- A plate that is off is owed anew (R68). -/
theorem Plated.owes {off : Nat → Bool} {s : State} (h : Plated off s) {c : Nat} (gone : off c = true) {x : Cabin}
    (live : s.cabinAt c = some x) (plate : x.plate ≠ none) : Plated (without off c) (s.owePlate c) := by
  have owed : Plated off (s.modCabin c Cabin.plateOwed) := h.modCabin_off gone _ fun y was => by
    cases live.symm.trans was
    simp [Cabin.plateOwed, plate]
  exact owed.joins gone (x := x.plateOwed) (by simp [cabinAt_modCabin, live]) rfl

/-- A plate that is CURRENT or FAILED is owed anew. -/
theorem Plated.owePlate {s : State} (h : Plated nobody s) {c : Nat} {x : Cabin} (live : s.cabinAt c = some x)
    (anew : x.owedAnew = true) : Plated nobody (s.owePlate c) := by
  have state : x.plateState ≠ .pending ∧ x.plateState ≠ .noPlate := by
    simp only [Cabin.owedAnew, Bool.or_eq_true, decide_eq_true_eq] at anew
    rcases anew with e | e <;> rw [e] <;> decide
  have plate : x.plate ≠ none := mt (h.kinds c x live).mp state.2
  have away := h.off (c := c) fun y now => by
    cases live.symm.trans now
    exact state.1
  exact without_also c ▸ away.owes (also_same _ _) live plate

/-- A face changes (R68). -/
theorem Plated.faceChanged {s : State} (h : Plated nobody s) (c : Nat) : Plated nobody (s.faceChanged c) := by
  have raised : Plated nobody (s.raiseContent c) := h.modCabin c _ fun _ => by rfl
  rw [State.faceChanged, placePlate_eq]
  split
  · obtain ⟨x, live, anew⟩ := (Option.any_eq_true _ _).mp ‹_›
    exact raised.owePlate live anew
  · exact raised

theorem Plated.facesChanged {s : State} (h : Plated nobody s) (cs : List (Nat × Cabin)) :
    Plated nobody (s.facesChanged cs) := by
  rw [facesChanged_eq]
  generalize (inNumberOrder cs).map (·.1) = slots
  induction slots generalizing s with
  | nil => exact h
  | cons c slots ih => exact ih (h.faceChanged c)

/-- A FAILED plate is revived (R70, R104). -/
theorem Plated.revive {s : State} (h : Plated nobody s) (c : Nat) : Plated nobody (s.revive c) := by
  rw [State.revive]
  split
  · exact h
  · rename_i x live
    split
    · exact h.owePlate live (by simp [Cabin.owedAnew, *])
    · exact h

theorem Plated.surveyRevives {s : State} (h : Plated nobody s) (i : Fin 16) (a : Nat) :
    Plated nobody (s.surveyRevives i a) := by
  rw [State.surveyRevives]
  split
  · exact h
  · exact h.revive _

end Sys2Proof.Machine
end

section
/-! The events of the trunks keep the plates and trunks in order (R83 to R105). -/

namespace Sys2Proof.Machine

/-! ### Other reports, other settings -/

theorem trunk_of_trunks {s t : State} (h : t.plate.trunks = s.plate.trunks) (i : Fin 16) : t.trunk i = s.trunk i := by
  rw [State.trunk, h]
  rfl

/-- All trunks move without a change of their jobs, and the reports held do not grow beyond their room. -/
theorem Plated.trunksStep {off : Nat → Bool} {s t : State} (h : Plated off s) (cabin : t.cabin = s.cabin)
    (jobs : ∀ i, (s.trunk i).SameJobs (t.trunk i)) (ok : ∀ i, TrunkOk (t.trunk i))
    (room : t.held + s.reserved ≤ 64) : Plated off t := by
  have held : ∀ c, t.cabinAt c = s.cabinAt c := cabinAt_of_cabin cabin
  refine ⟨cabin ▸ h.sorted, fun c x live => h.kinds c x (held c ▸ live), fun i c => ?_, ok, ?_⟩
  · rw [(jobs i).places, awaits_of_cabinAt (held c), h.places]
  · exact (Nat.add_le_add_left (reserved_of_trunks fun i => (surveying_of_work (jobs i).work ▸ id)) _).trans room

/-- The reports held change within their room. -/
theorem Plated.reported {off : Nat → Bool} {s t : State} (h : Plated off s) (cabin : t.cabin = s.cabin)
    (trunks : t.plate.trunks = s.plate.trunks) (room : t.held + s.reserved ≤ 64) : Plated off t :=
  h.trunksStep cabin (fun i => by rw [trunk_of_trunks trunks]; exact .refl _)
    (fun i => by rw [trunk_of_trunks trunks]; exact h.trunks i) room

theorem trunk_setSurveyPeriod (s : State) (n : Nat) (i : Fin 16) : (s.setSurveyPeriod n).trunk i =
    if (s.trunk i).enabled then { s.trunk i with surveyTimer := started } else s.trunk i := by
  simp [State.setSurveyPeriod, State.trunk]
  rfl

theorem trunk_setHoldLimit (s : State) (n : Nat) (i : Fin 16) : (s.setHoldLimit n).trunk i =
    if (s.trunk i).holdTimer.isSome then { s.trunk i with holdTimer := started } else s.trunk i := by
  simp [State.setHoldLimit, State.trunk]
  rfl

theorem trunk_countOn (s : State) (i : Fin 16) : s.countOn.trunk i = (s.trunk i).tick := by
  simp [State.countOn, State.trunk]

/-- A survey timer that runs starts again. -/
theorem trunkOk_surveyStarts {t : Trunk} (h : TrunkOk t) (runs : t.surveyTimer.isSome = true) :
    TrunkOk { t with surveyTimer := started } := by
  obtain ⟨enabled, work, hold, survey, rest⟩ := h
  exact ⟨enabled, work, hold, runs.symm.trans survey, rest⟩

theorem trunkOk_holdStarts {t : Trunk} (h : TrunkOk t) (runs : t.holdTimer.isSome = true) :
    TrunkOk { t with holdTimer := started } := by
  obtain ⟨enabled, work, hold, rest⟩ := h
  exact ⟨enabled, work, iff_of_true rfl (hold.mp runs), rest⟩

theorem trunkOk_tick {t : Trunk} (h : TrunkOk t) : TrunkOk t.tick := by
  have runs : ∀ u : Timer, (Timer.after u).isSome = u.isSome := fun u => Option.isSome_map ..
  obtain ⟨enabled, work, hold, survey, guard, stuck, rest⟩ := h
  exact ⟨enabled, work, (iff_of_eq (congrArg (· = true) (runs _))).trans hold, (runs _).trans survey,
    (iff_of_eq (congrArg (· = true) (runs _))).trans guard, (iff_of_eq (congrArg (· = true) (runs _))).trans stuck, rest⟩

theorem Plated.setSurveyPeriod {s : State} (h : Plated nobody s) (n : Nat) : Plated nobody (s.setSurveyPeriod n) := by
  refine h.trunksStep rfl (fun i => ?_) (fun i => ?_) h.room <;> rw [trunk_setSurveyPeriod] <;> split
  · exact ⟨rfl, rfl, rfl⟩
  · exact .refl _
  · exact trunkOk_surveyStarts (h.trunks i) ((h.trunks i).steady.survey.trans ‹_›)
  · exact h.trunks i

theorem Plated.setHoldLimit {s : State} (h : Plated nobody s) (n : Nat) : Plated nobody (s.setHoldLimit n) := by
  refine h.trunksStep rfl (fun i => ?_) (fun i => ?_) h.room <;> rw [trunk_setHoldLimit] <;> split
  · exact ⟨rfl, rfl, rfl⟩
  · exact .refl _
  · exact trunkOk_holdStarts (h.trunks i) ‹_›
  · exact h.trunks i

theorem Plated.tick {s : State} (h : Plated nobody s) : Plated nobody s.tick := by
  have counted : Plated nobody s.countOn := by
    refine h.trunksStep rfl (fun i => ?_) (fun i => ?_) h.room <;> rw [trunk_countOn]
    · exact ⟨rfl, rfl, rfl⟩
    · exact trunkOk_tick (h.trunks i)
  exact counted.of_blocks rfl rfl

/-! ### Picking work (R90, R92, R102) -/

/-- A cabin that waits in a trunk's queue waits there. -/
theorem Plated.awaits_of_queued {s : State} (h : Plated nobody s) {i : Fin 16} {c : Nat}
    (queued : c ∈ (s.trunk i).urgent ∨ c ∈ (s.trunk i).ordinary ∨ (s.trunk i).writing c = true) :
    s.awaits i c = true := by
  have there := (places_pos_iff _ _).mpr queued
  rw [h.places] at there
  cases waits : s.awaits i c with
  | true => rfl
  | false => simp [waits] at there

theorem Plated.idle_work {s : State} (h : Plated nobody s) {i : Fin 16} (idle : (s.trunk i).state = .idle) :
    (s.trunk i).work = none :=
  ((h.trunks i).quiet (by simp [idle]) (by simp [idle]) (by simp [idle])).2

theorem Plated.startWrite {s : State} (h : Plated nobody s) {i : Fin 16} (idle : (s.trunk i).state = .idle)
    (high : (s.trunk i).bothHigh = true) {c : Nat} (queued : c ∈ (s.trunk i).urgent ∨ c ∈ (s.trunk i).ordinary)
    (k : QueueClass) : Plated nobody (s.startWrite i c k) := by
  have waits := h.awaits_of_queued (or_assoc.mp (.inl queued))
  have none_ := h.idle_work idle
  obtain ⟨x, p, live, _⟩ := cabinAt_of_awaits waits
  rw [State.startWrite, live]
  refine h.trunkMoved i (fun d => ?_) (fun _ _ _ _ => rfl) (trunkOk_talks (h.trunks i) idle high rfl rfl) fun now => ?_
  · have before := h.places i d
    rw [Trunk.places, writing_none none_] at before
    rw [(sameJobs_goTo _ _).places, Trunk.places, writing_write (d := c) rfl]
    simp only [Trunk.leave, count_left]
    by_cases e : d = c
    · simp [e, waits, nobody]
    · simp [e, Ne.symm e, ← before]
  · rw [surveying_of_work (sameJobs_goTo _ _).work] at now
    cases now

theorem Plated.pickOrdinary {s : State} (h : Plated nobody s) {i : Fin 16} (idle : (s.trunk i).state = .idle)
    (high : (s.trunk i).bothHigh = true) : Plated nobody (s.pickOrdinary i) := by
  rw [State.pickOrdinary]
  split
  · exact h
  · exact h.startWrite idle high (.inr (by simp [*])) _

theorem Plated.pickSurvey {s : State} (h : Plated nobody s) {i : Fin 16} (idle : (s.trunk i).state = .idle)
    (high : (s.trunk i).bothHigh = true) : Plated nobody (s.pickSurvey i) := by
  have none_ := h.idle_work idle
  rw [State.pickSurvey]
  split
  · rename_i due
    split
    · refine h.trunkMoved i (fun d => ?_) (fun _ _ _ _ => rfl) (trunkOk_talks (h.trunks i) idle high rfl rfl)
        fun _ => .inr ?_
      · rw [← h.places, (sameJobs_goTo _ _).places, Trunk.places, Trunk.places, writing_none none_]
        rfl
      · exact of_decide_eq_true (Bool.and_eq_true_iff.mp due).2
    · have cleared : Plated nobody (s.modTrunk i fun t => { t with surveyDue := false }) :=
        h.trunkSteps i ⟨rfl, rfl, rfl⟩ (h.trunks i)
      exact cleared.pickOrdinary (by rw [trunk_modTrunk_same]; exact idle) (by rw [trunk_modTrunk_same]; exact high)
  · exact h.pickOrdinary idle high

theorem Plated.pick {s : State} (h : Plated nobody s) (i : Fin 16) : Plated nobody (s.pick i) := by
  rw [State.pick]
  split
  · rename_i free
    obtain ⟨idle, high⟩ := free
    have none_ := h.idle_work idle
    split
    · refine h.trunkMoved i (fun d => ?_) (fun _ _ _ _ => rfl) (trunkOk_talks (h.trunks i) idle high rfl rfl) fun now => ?_
      · rw [← h.places, (sameJobs_goTo _ _).places, Trunk.places, Trunk.places, writing_none none_]
        rfl
      · rw [surveying_of_work (sameJobs_goTo _ _).work] at now
        cases now
    · split
      · exact h.startWrite idle high (.inl (by simp [*])) _
      · exact h.pickSurvey idle high
  · exact h

theorem Plated.pickAll {s : State} (h : Plated nobody s) : Plated nobody s.pickAll := by
  rw [State.pickAll]
  generalize allTrunks = is
  induction is generalizing s with
  | nil => exact h
  | cons i is ih => exact ih (h.pick i)

/-! ### Work that ends (R93, R94, R96, R99, R103) -/

/-- The work of a trunk ends with its queues as they were: a cabin that was written is off. -/
theorem Plated.workEnds {s : State} (h : Plated nobody s) (i : Fin 16) {f : Trunk → Trunk}
    (urgent : (f (s.trunk i)).urgent = (s.trunk i).urgent) (ordinary : (f (s.trunk i)).ordinary = (s.trunk i).ordinary)
    (work : (f (s.trunk i)).work = none) (ok : TrunkOk (f (s.trunk i))) :
    Plated (s.trunk i).writing (s.modTrunk i f) := by
  refine h.trunkMoved i (fun c => ?_) (fun j c other waits => ?_) ok fun now => ?_
  · have before := h.places i c
    rw [Trunk.places] at before
    rw [Trunk.places, urgent, ordinary, writing_none work]
    cases written : (s.trunk i).writing c <;> cases waits : s.awaits i c <;> simp_all [nobody]
  · refine Bool.eq_false_iff.mpr fun written => other ?_
    exact awaits_unique waits (h.awaits_of_queued (.inr (.inr written)))
  · simp [Trunk.surveying, work] at now

/-- The work of a trunk ends that is no write for a cabin. -/
theorem Plated.otherWorkEnds {s : State} (h : Plated nobody s) (i : Fin 16) {f : Trunk → Trunk}
    (other : ∀ c, (s.trunk i).writing c = false)
    (urgent : (f (s.trunk i)).urgent = (s.trunk i).urgent) (ordinary : (f (s.trunk i)).ordinary = (s.trunk i).ordinary)
    (work : (f (s.trunk i)).work = none) (ok : TrunkOk (f (s.trunk i))) : Plated nobody (s.modTrunk i f) :=
  (funext other : (s.trunk i).writing = nobody) ▸ h.workEnds i urgent ordinary work ok

/-- The write for a cabin ends: the cabin, live and PENDING, is off. -/
theorem Plated.writeEnds {s : State} (h : Plated nobody s) (i : Fin 16) {f : Trunk → Trunk} {c a : Nat} {face : Face}
    {k : QueueClass} (writes : (s.trunk i).work = some (.write (some c) a face k))
    (urgent : (f (s.trunk i)).urgent = (s.trunk i).urgent) (ordinary : (f (s.trunk i)).ordinary = (s.trunk i).ordinary)
    (work : (f (s.trunk i)).work = none) (ok : TrunkOk (f (s.trunk i))) :
    Plated (also nobody c) (s.modTrunk i f) ∧ ∃ x, (s.modTrunk i f).cabinAt c = some x ∧ x.plateState = .pending := by
  have written : (s.trunk i).writing = also nobody c := by
    funext d
    rw [writing_write writes]
    simp [also, nobody, eq_comm]
  obtain ⟨x, _, live, pending, _⟩ :=
    cabinAt_of_awaits (h.awaits_of_queued (i := i) (c := c) (.inr (.inr (by simp [written]))))
  exact ⟨written ▸ h.workEnds i urgent ordinary work ok, x, live, pending⟩

theorem Plated.writeDone {s : State} {c : Nat} (h : Plated (also nobody c) s) {x : Cabin}
    (live : s.cabinAt c = some x) (pending : x.plateState = .pending) (g : Gen) : Plated nobody (s.writeDone c g) := by
  have delivered := h.modCabin c (fun x => { x with deliveredGen := g, retries := 0 }) fun _ => by rfl
  have now : (s.modCabin c fun x => { x with deliveredGen := g, retries := 0 }).cabinAt c =
      some { x with deliveredGen := g, retries := 0 } := by simp [cabinAt_modCabin, live]
  have plate : x.plate ≠ none := mt (h.kinds c x live).mp (by rw [pending]; decide)
  simp only [State.writeDone, now]
  split
  · refine (delivered.modCabin_off (also_same _ _) _ fun y was => ?_).back fun y after => ?_
    · cases now.symm.trans was
      simp [plate]
    · rw [cabinAt_modCabin, now, Option.map_some, if_pos rfl, Option.some.injEq] at after
      simp [← after]
  · exact without_also c ▸ delivered.joins (also_same _ _) now pending

theorem Plated.writeFailed {s : State} {c : Nat} (h : Plated (also nobody c) s) {x : Cabin}
    (live : s.cabinAt c = some x) (pending : x.plateState = .pending) : Plated nobody (s.writeFailed c) := by
  have counted := h.modCabin c (fun x => { x with retries := x.retries + 1 }) fun _ => by rfl
  have now : (s.modCabin c fun x => { x with retries := x.retries + 1 }).cabinAt c =
      some { x with retries := x.retries + 1 } := by simp [cabinAt_modCabin, live]
  have plate : x.plate ≠ none := mt (h.kinds c x live).mp (by rw [pending]; decide)
  simp only [State.writeFailed, now]
  split
  · exact without_also c ▸ counted.joins (also_same _ _) now pending
  · refine ((counted.modCabin_off (also_same _ _) _ fun y was => ?_).back fun y after => ?_).of_blocks rfl rfl
    · cases now.symm.trans was
      simp [plate]
    · rw [cabinAt_modCabin, now, Option.map_some, if_pos rfl, Option.some.injEq] at after
      simp [← after]

/-- The part closes its transaction (R81). -/
theorem trunkOk_close {t u : Trunk} (h : TrunkOk t) (talking : t.state = .talking) (enabled : u.enabled = t.enabled)
    (survey : u.surveyTimer = t.surveyTimer) : TrunkOk u.close :=
  trunkOk_endWork (u := u.wires true true) h (.inl talking) enabled survey (.inl rfl) (by simp)

theorem sending_eq_some {t : Trunk} {w : Work} : t.sending = some w ↔ t.state = .talking ∧ t.work = some w := by
  rw [Trunk.sending]
  split <;> simp [*]

/-- A write that is no cabin's, a broadcast or a survey step is none of a cabin's writes. -/
theorem writing_of_detached {t : Trunk} {a : Nat} {f : Face} {k : QueueClass} (h : t.work = some (.write none a f k))
    (c : Nat) : t.writing c = false := by rw [Trunk.writing, h]

theorem writing_of_broadcast {t : Trunk} {m : PlateMode} (h : t.work = some (.broadcast m)) (c : Nat) :
    t.writing c = false := by rw [Trunk.writing, h]

theorem writing_of_survey {t : Trunk} {a : Nat} {b : Bool} (h : t.work = some (.survey a b)) (c : Nat) :
    t.writing c = false := by rw [Trunk.writing, h]

theorem Plated.endWrite {s : State} (h : Plated nobody s) (i : Fin 16) {effect : State → Nat → Face → State}
    (keeps : ∀ {u : State} {c : Nat} {x : Cabin} (face : Face), Plated (also nobody c) u → u.cabinAt c = some x →
      x.plateState = .pending → Plated nobody (effect u c face)) : Plated nobody (s.endWrite i effect) := by
  rw [State.endWrite]
  split
  · rename_i sends
    obtain ⟨talking, work⟩ := sending_eq_some.mp sends
    obtain ⟨away, x, live, pending⟩ := h.writeEnds i (f := Trunk.close) work rfl rfl rfl
      (trunkOk_close (h.trunks i) talking rfl rfl)
    exact (keeps _ away live pending).pickAll
  · rename_i sends
    obtain ⟨talking, work⟩ := sending_eq_some.mp sends
    exact (h.otherWorkEnds i (f := Trunk.close) (writing_of_detached work) rfl rfl rfl
      (trunkOk_close (h.trunks i) talking rfl rfl)).pickAll
  · exact h
  · exact h
  · exact h

theorem Plated.broadcastDone {s : State} (h : Plated nobody s) {i : Fin 16} {m : PlateMode}
    (sends : (s.trunk i).sending = some (.broadcast m)) : Plated nobody (s.modTrunk i fun t => t.broadcastDone m) := by
  obtain ⟨talking, work⟩ := sending_eq_some.mp sends
  exact h.otherWorkEnds i (writing_of_broadcast work) rfl rfl rfl
    (trunkOk_close (u := { s.trunk i with believed := some m }) (h.trunks i) talking rfl rfl)

/-! ### Survey steps (R103, R104, R191) -/

/-- A survey step leaves two entries at most. -/
theorem surveyResult_length (a : Nat) (how : SurveyEnd) : (surveyResult a how).1.length ≤ 2 := by
  have formed : ∀ (kind value : Nat) (tag : List Byte) (more : Bool) (parts : List ReportPart) (m : Bool),
      wellFormedNews kind value tag more = .report parts m → parts.length ≤ 2 := by
    intro kind value tag more parts m report
    unfold wellFormedNews at report
    split at report
    · split at report <;> cases report
      exact Nat.le_succ 1
    · cases report; exact Nat.le_succ 1
    · split at report <;> cases report
      exact Nat.le_refl 2
    · cases report; decide
    · cases report
  have decoded : ∀ (item : Byte) (tag : List Byte) (parts : List ReportPart) (m : Bool),
      decodeNews item tag = .report parts m → parts.length ≤ 2 := by
    intro item tag parts m report
    simp only [decodeNews] at report
    split at report
    · split at report <;> cases report
    · split at report
      · split at report <;> cases report
      · exact formed _ _ _ _ _ _ report
  cases how with
  | refusedAddress => exact Nat.zero_le 2
  | refusedCommand => exact Nat.zero_le 2
  | news item tag =>
    rw [surveyResult]
    cases report : decodeNews item tag with
    | report parts m => exact decoded _ _ _ _ report
    | _ => exact Nat.zero_le 2

theorem Plated.endSurveyStep {s : State} (h : Plated nobody s) {i : Fin 16} {a : Nat} {accepted : Bool}
    (sends : (s.trunk i).sending = some (.survey a accepted)) (how : SurveyEnd) :
    Plated nobody (s.endSurveyStep i a accepted how) := by
  obtain ⟨talking, work⟩ := sending_eq_some.mp sends
  have surveys : (s.trunk i).surveying = true := by rw [Trunk.surveying, work]
  let ends : Trunk → Trunk := fun t =>
    ({ t.surveyEnded (surveyResult a how).2 with newsAccepts := newsAcceptsOf how } : Trunk).close
  have ended : Plated nobody (s.modTrunk i ends) := h.otherWorkEnds i (writing_of_survey work) rfl rfl rfl
    (trunkOk_close (u := { (s.trunk i).surveyEnded (surveyResult a how).2 with newsAccepts := newsAcceptsOf how })
      (h.trunks i) talking rfl rfl)
  have reported : Plated nobody ((s.modTrunk i ends).addReport i a (surveyResult a how).1) := by
    refine ended.reported rfl rfl ?_
    have reserved := reserved_modTrunk s i ends
    have room := h.room
    have parts := surveyResult_length a how
    have free : (ends (s.trunk i)).surveying = false := rfl
    have held : ((s.modTrunk i ends).addReport i a (surveyResult a how).1).held =
        s.held + (surveyResult a how).1.length := by
      simp [State.held, State.addReport]
    rw [surveys, free, Bool.toNat_true, Bool.toNat_false] at reserved
    omega
  have step : s.endSurveyStep i a accepted how =
      if accepted || endAccepts how then
        ((s.modTrunk i ends).addReport i a (surveyResult a how).1).surveyRevives i a
      else (s.modTrunk i ends).addReport i a (surveyResult a how).1 := rfl
  rw [step]
  split
  · exact reported.surveyRevives i a
  · exact reported

/-! ### Holds that expire, arbitration, disabling (R84, R87, R89, R96) -/

theorem Plated.holdExpires {s : State} (h : Plated nobody s) {i : Fin 16} (held : (s.trunk i).state = .held) :
    Plated nobody (s.holdExpires i) := by
  have ok : ∀ u : Trunk, u.enabled = (s.trunk i).enabled → u.surveyTimer = (s.trunk i).surveyTimer →
      TrunkOk ((u.wires false true).endWork .recovering) := fun u enabled survey =>
    trunkOk_endWork (u := u.wires false true) (h.trunks i) (.inr held) enabled survey (.inr (.inr rfl)) fun _ => rfl
  simp only [State.holdExpires]
  split
  · rename_i work
    obtain ⟨away, x, live, pending⟩ := h.writeEnds i (f := fun t => (t.wires false true).endWork .recovering) work
      rfl rfl rfl (ok _ rfl rfl)
    exact away.writeFailed live pending
  · exact h.otherWorkEnds i (writing_of_detached ‹_›) rfl rfl rfl (ok _ rfl rfl)
  · exact h.otherWorkEnds i (writing_of_broadcast ‹_›) rfl rfl rfl (ok _ rfl rfl)
  · rename_i a accepted work
    have ended : Plated nobody (s.modTrunk i fun t =>
        ((t.surveyEnded (nextAddress a)).wires false true).endWork .recovering) :=
      h.otherWorkEnds i (writing_of_survey work) rfl rfl rfl (ok ((s.trunk i).surveyEnded (nextAddress a)) rfl rfl)
    split
    · exact ended.surveyRevives i a
    · exact ended
  · exact h.otherWorkEnds i (writing_none ‹_›) rfl rfl rfl (ok _ rfl rfl)

/-- A write that returns to the head of its class leaves its cabin at one place. -/
theorem places_returnWrite {t u : Trunk} (urgent : u.urgent = t.returnWrite.urgent)
    (ordinary : u.ordinary = t.returnWrite.ordinary) (work : u.work = none) (d : Nat) : u.places d = t.places d := by
  have stays : (∀ c, t.writing c = false) → t.returnWrite = t → u.places d = t.places d := fun none_ same => by
    rw [Trunk.places, urgent, ordinary, same, writing_none work, Trunk.places, none_]
  cases job : t.work with
  | none => exact stays (writing_none job) (by rw [Trunk.returnWrite, job])
  | some w =>
    cases w with
    | broadcast m => exact stays (writing_of_broadcast job) (by rw [Trunk.returnWrite, job])
    | survey a b => exact stays (writing_of_survey job) (by rw [Trunk.returnWrite, job])
    | write c a f k =>
      cases c with
      | none => exact stays (writing_of_detached job) (by rw [Trunk.returnWrite, job])
      | some c =>
        have back : t.returnWrite = t.joinHead k c := by rw [Trunk.returnWrite, job]
        have joined := places_joinHead t k c d
        have same : (t.joinHead k c).writing d = t.writing d := writing_of_work (by cases k <;> rfl) d
        rw [Trunk.places, same, writing_write job] at joined
        rw [Trunk.places, urgent, ordinary, writing_none work, back, Bool.toNat_false]
        simp only [eq_comm (a := c)] at joined
        omega

/-- The work of a trunk is given up, a write returned to the head of its class. -/
theorem Plated.workReturns {s : State} (h : Plated nobody s) (i : Fin 16) {f : Trunk → Trunk}
    (urgent : (f (s.trunk i)).urgent = (s.trunk i).returnWrite.urgent)
    (ordinary : (f (s.trunk i)).ordinary = (s.trunk i).returnWrite.ordinary)
    (work : (f (s.trunk i)).work = none) (ok : TrunkOk (f (s.trunk i))) : Plated nobody (s.modTrunk i f) :=
  h.trunkMoved i (fun d => by rw [places_returnWrite urgent ordinary work, h.places]) (fun _ _ _ _ => rfl) ok
    fun now => by simp [Trunk.surveying, work] at now

theorem returnWrite_same (t : Trunk) : t.returnWrite =
    { t with urgent := t.returnWrite.urgent, ordinary := t.returnWrite.ordinary } := by
  rw [Trunk.returnWrite]
  split
  · rename_i k _
    cases k <;> rfl
  all_goals rfl

theorem Plated.loses {s : State} (h : Plated nobody s) {i : Fin 16} (talking : (s.trunk i).state = .talking) (b : Bool) :
    Plated nobody (s.loses i b) := by
  have lost : Plated nobody (s.modTrunk i fun t => (t.returnWrite.wires true false).endWork .listening) := by
    have same := returnWrite_same (s.trunk i)
    refine h.workReturns i rfl rfl rfl ?_
    have enabled : (s.trunk i).returnWrite.enabled = (s.trunk i).enabled := by rw [same]
    have survey : (s.trunk i).returnWrite.surveyTimer = (s.trunk i).surveyTimer := by rw [same]
    exact trunkOk_endWork (u := (s.trunk i).returnWrite.wires true false) (h.trunks i) (.inl talking) enabled survey (.inr (.inl rfl)) (by simp)
  simp only [State.loses]
  split
  · split
    · exact lost.surveyRevives i _
    · exact lost
  · exact lost
  · exact lost
  · exact lost

theorem Plated.disableTrunk {s : State} (h : Plated nobody s) (i : Fin 16) : Plated nobody (s.disableTrunk i) := by
  have queues : ∀ t : Trunk, t.letGo.urgent = t.urgent ∧ t.letGo.ordinary = t.ordinary := fun t => by
    rw [Trunk.letGo]
    cases t.state <;> exact ⟨rfl, rfl⟩
  have off : Plated nobody (s.modTrunk i Trunk.disable) :=
    h.workReturns i (queues (s.trunk i).returnWrite).1 (queues (s.trunk i).returnWrite).2 rfl (trunkOk_disable _)
  rw [State.disableTrunk]
  split
  · split
    · exact off.surveyRevives i _
    · exact off
  · exact off
  · exact off
  · exact off

theorem Plated.switchTrunk {s : State} (h : Plated nobody s) (i : Fin 16) (on : Bool) :
    Plated nobody (s.switchTrunk i on) := by
  rw [State.switchTrunk]
  split
  · exact h
  · split
    · rename_i differs enables
      have state : (s.trunk i).state = .disabled := by
        by_contra other
        exact differs (((h.trunks i).steady.enabled.mpr other).trans enables.symm)
      have work : (s.trunk i).work = none := by
        simpa using mt (h.trunks i).steady.work.mp (by simp [state])
      exact h.trunkSteps i ⟨rfl, rfl, rfl⟩ (trunkOk_begin (t := { s.trunk i with enabled := true }) rfl work)
    · exact h.disableTrunk i

end Sys2Proof.Machine
end

section
/-! A warm restart empties the plate queues and fills them again (R80, R109). -/

namespace Sys2Proof.Machine

/-! ### Who stands on which trunk -/

/-- The slots and plate addresses of the cabins on a trunk, told from the addresses alone. -/
theorem mem_cabinsOnTrunk (s : State) (i : Fin 16) (r : Nat × Nat) :
    r ∈ s.cabinsOnTrunk i ↔ ∃ x, (r.1, x) ∈ s.cabin.cabins ∧ x.plate = some { trunk := i, address := r.2 } := by
  rw [State.cabinsOnTrunk, (sortBy_perm _ _).mem_iff, List.mem_filterMap]
  constructor
  · rintro ⟨⟨c, x⟩, live, found⟩
    obtain ⟨p, plate, here⟩ := Option.bind_eq_some_iff.mp found
    split at here
    · cases here
      subst i
      exact ⟨x, live, plate⟩
    · cases here
  · rintro ⟨x, live, plate⟩
    exact ⟨_, live, by simp [plate]⟩

theorem cabinsOnTrunk_of_plates {s t : State}
    (h : Table.view Cabin.plate t.cabin.cabins = Table.view Cabin.plate s.cabin.cabins) (i : Fin 16) :
    t.cabinsOnTrunk i = s.cabinsOnTrunk i := by
  have seen : ∀ u : State, u.cabinsOnTrunk i = sortBy (fun a b => decide (a.2 < b.2))
      ((Table.view Cabin.plate u.cabin.cabins).filterMap fun r =>
        r.2.bind fun p => if p.trunk = i then some (r.1, p.address) else none) := fun u => by
    rw [State.cabinsOnTrunk, Table.view, List.filterMap_map]
    rfl
  rw [seen, h, ← seen]

theorem plates_owePlate (s : State) (c : Nat) :
    Table.view Cabin.plate (s.owePlate c).cabin.cabins = Table.view Cabin.plate s.cabin.cabins := by
  simp only [State.owePlate, joinPlateQueue_keeps]
  exact Table.view_modify Cabin.plate Cabin.plateOwed _ _ fun _ => by rfl

/-- Every cabin that a list names is owed its plate, one after the other. -/
def State.oweAll (s : State) (slots : List Nat) : State := slots.foldl State.owePlate s

theorem plates_oweAll (s : State) (slots : List Nat) :
    Table.view Cabin.plate (s.oweAll slots).cabin.cabins = Table.view Cabin.plate s.cabin.cabins :=
  foldl_keeps (fun u : State => Table.view Cabin.plate u.cabin.cabins) _ plates_owePlate slots s

/-- The slots of the cabins with a plate, in the order in which a warm restart owes them their plates. -/
def State.plateOrder (s : State) : List Nat := allTrunks.flatMap fun i => (s.cabinsOnTrunk i).map (·.1)

theorem refillPlateQueues_eq (s : State) : s.refillPlateQueues = s.oweAll s.plateOrder := by
  have trunkByTrunk : ∀ (is : List (Fin 16)) (u : State),
      Table.view Cabin.plate u.cabin.cabins = Table.view Cabin.plate s.cabin.cabins →
      is.foldl (fun s i => (s.cabinsOnTrunk i).foldl (fun s r => s.owePlate r.1) s) u =
        u.oweAll (is.flatMap fun i => (s.cabinsOnTrunk i).map (·.1)) := fun is => by
    induction is with
    | nil => exact fun _ _ => rfl
    | cons i is ih =>
      intro u same
      rw [List.foldl_cons, List.flatMap_cons, State.oweAll, List.foldl_append, List.foldl_map,
        cabinsOnTrunk_of_plates same]
      refine ih _ ?_
      rw [← same, ← plates_oweAll u ((s.cabinsOnTrunk i).map (·.1)), State.oweAll, List.foldl_map]
  exact trunkByTrunk allTrunks s rfl

theorem mem_plateOrder {s : State} (sorted : Table.wf s.cabin.cabins = true) (c : Nat) :
    c ∈ s.plateOrder ↔ ∃ x, s.cabinAt c = some x ∧ x.plate ≠ none := by
  simp only [State.plateOrder, List.mem_flatMap, List.mem_map]
  constructor
  · rintro ⟨i, _, r, here, rfl⟩
    obtain ⟨x, live, plate⟩ := (mem_cabinsOnTrunk s i r).mp here
    exact ⟨x, (Table.get_iff_mem _ sorted _ _).mpr live, by simp [plate]⟩
  · rintro ⟨x, live, plate⟩
    obtain ⟨p, plate⟩ := Option.ne_none_iff_exists'.mp plate
    exact ⟨p.trunk, List.mem_finRange _, (c, p.address),
      (mem_cabinsOnTrunk _ _ _).mpr ⟨x, (Table.get_iff_mem _ sorted _ _).mp live, plate⟩, rfl⟩

theorem nodup_cabinsOnTrunk {s : State} (sorted : Table.wf s.cabin.cabins = true) (i : Fin 16) :
    ((s.cabinsOnTrunk i).map (·.1)).Nodup := by
  have keys : (s.cabin.cabins.map (·.1)).Nodup := ((Table.wf_iff _).mp sorted).imp (fun lt => Nat.ne_of_lt lt)
  refine ((sortBy_perm _ _).map _).nodup_iff.mpr ?_
  rw [List.map_filterMap]
  refine keys.sublist ?_
  have slot : ∀ r : Nat × Cabin, (Option.map (·.1) (r.2.plate.bind fun p => if p.trunk = i then some (r.1, p.address)
      else none)) = if onTrunk r.2.plate i then some r.1 else none := fun r => by
    cases plate : r.2.plate with
    | none => rfl
    | some p =>
      simp only [Option.bind_some, onTrunk, Option.any_some, decide_eq_true_eq]
      split <;> rfl
  simp only [slot]
  induction s.cabin.cabins with
  | nil => exact .slnil
  | cons r cs ih =>
    rw [List.filterMap_cons, List.map_cons]
    split
    · exact ih.cons _
    · rename_i there
      split at there
      · cases there
        exact ih.cons_cons _
      · cases there

theorem nodup_plateOrder {s : State} (sorted : Table.wf s.cabin.cabins = true) : s.plateOrder.Nodup := by
  refine List.nodup_flatMap.mpr ⟨fun i _ => nodup_cabinsOnTrunk sorted i, ?_⟩
  refine (List.nodup_finRange 16).imp fun {i j} apart c onI onJ => apart ?_
  obtain ⟨r, here, rfl⟩ := List.mem_map.mp onI
  obtain ⟨q, there, same⟩ := List.mem_map.mp onJ
  obtain ⟨x, live, plate⟩ := (mem_cabinsOnTrunk s i r).mp here
  obtain ⟨y, live', plate'⟩ := (mem_cabinsOnTrunk s j q).mp there
  rw [same, ← Table.get_iff_mem _ sorted] at live'
  rw [← Table.get_iff_mem _ sorted] at live
  cases live.symm.trans live'
  exact congrArg PlateAddress.trunk (Option.some.inj (plate.symm.trans plate'))

/-! ### The queues are filled again -/

/-- Cabins that are off are owed their plates and are back. -/
theorem Plated.oweAll {off : Nat → Bool} {s : State} (h : Plated off s) {slots : List Nat} (once : slots.Nodup)
    (each : ∀ c ∈ slots, off c = true ∧ ∃ x, s.cabinAt c = some x ∧ x.plate ≠ none) :
    Plated (fun d => off d && decide (d ∉ slots)) (s.oweAll slots) := by
  induction slots generalizing off s with
  | nil => exact h.off_of fun _ _ _ => by simp
  | cons c slots ih =>
    obtain ⟨fresh, once⟩ := List.nodup_cons.mp once
    obtain ⟨gone, x, live, plate⟩ := each c List.mem_cons_self
    refine (ih (h.owes gone live plate) once fun d rest => ?_).off_of fun _ d _ => ?_
    · obtain ⟨away, y, live', plate'⟩ := each d (List.mem_cons_of_mem _ rest)
      have apart : d ≠ c := fun e => fresh (e ▸ rest)
      obtain ⟨z, now, same⟩ := Table.get_of_view (plates_owePlate s c).symm live'
      exact ⟨by simp [without, away, apart], z, now, by rwa [same]⟩
    · by_cases e : d = c <;> simp [without, e]

theorem trunk_restartTrunks (s : State) (i : Fin 16) : s.restartTrunks.trunk i = (s.trunk i).restart := by
  simp [State.restartTrunks, State.trunk]

/-- No trunk owns work or a queue when the trunks have restarted: every cabin is off. -/
theorem Plated.restartTrunks {s : State} (h : Plated nobody s) : Plated (fun _ => true) s.restartTrunks := by
  have idle : ∀ t : Trunk, t.restart.urgent = [] ∧ t.restart.ordinary = [] ∧ t.restart.work = none := fun t => by
    rw [Trunk.restart]
    cases t.letGo.enabled <;> exact ⟨rfl, rfl, rfl⟩
  refine ⟨h.sorted, h.kinds, fun i c => ?_, fun i => ?_, ?_⟩
  · obtain ⟨urgent, ordinary, work⟩ := idle (s.trunk i)
    rw [trunk_restartTrunks, Trunk.places, urgent, ordinary, writing_none work]
    simp
  · rw [trunk_restartTrunks]
    exact trunkOk_restart _
  · have free : s.restartTrunks.reserved ≤ s.reserved := reserved_of_trunks fun i now => by
      obtain ⟨_, _, work⟩ := idle (s.trunk i)
      rw [trunk_restartTrunks, Trunk.surveying, work] at now
      cases now
    have room := h.room
    show 0 + _ ≤ 64
    omega

theorem Plated.restarted {s : State} (h : Plated nobody s) : Plated nobody s.restartTrunks.refillPlateQueues := by
  have off := h.restartTrunks
  rw [refillPlateQueues_eq]
  refine (off.oweAll (nodup_plateOrder off.sorted) fun c listed => ?_).off_of fun i c waits => ?_
  · exact ⟨rfl, (mem_plateOrder off.sorted c).mp listed⟩
  · obtain ⟨x, p, live, _, plate, _⟩ := cabinAt_of_awaits waits
    obtain ⟨y, was, same⟩ := Table.get_of_view (plates_oweAll s.restartTrunks _) live
    have listed : c ∈ s.restartTrunks.plateOrder := (mem_plateOrder off.sorted c).mpr ⟨y, was, by simp [same, plate]⟩
    simp [nobody, listed]

end Sys2Proof.Machine
end

section
/-! The list of the cabins that call and the indexes of the cabins, move by move (R59, R71). -/

namespace Sys2Proof.Machine

/-! ### What the list and the indexes read -/

/-- What the service list and the indexes read of a cabin. -/
structure CabinCard where
  number : CabinNumber
  plate : Option PlateAddress
  occupancy : Occupancy
  service : Bool

def Cabin.card (x : Cabin) : CabinCard :=
  { number := x.number, plate := x.plate, occupancy := x.occupancy, service := x.service }

/-- The cards of the cabins, and the list of those that call. -/
def State.roll (s : State) : Table CabinCard × List Nat := (Table.view Cabin.card s.cabin.cabins, s.cabin.service)

/-- The cabins stand in canonical form, and the list of those that call and the indexes are right (R59, R71). -/
structure Listed (s : State) : Prop where
  sorted : Table.wf s.cabin.cabins = true
  right : CabinInv s

theorem Listed.of_roll {s t : State} (h : Listed s) (same : t.roll = s.roll) : Listed t := by
  obtain ⟨cards, service⟩ := Prod.mk.inj same
  obtain ⟨sorted, once, calls, fields, unique⟩ := h
  have live : ∀ {c x}, t.cabinAt c = some x → ∃ y, s.cabinAt c = some y ∧ y.number = x.number ∧ y.plate = x.plate ∧
      y.occupancy = x.occupancy ∧ y.service = x.service := fun {c x} now => by
    obtain ⟨y, was, card⟩ := Table.get_of_view cards now
    exact ⟨y, was, congrArg CabinCard.number card, congrArg CabinCard.plate card, congrArg CabinCard.occupancy card,
      congrArg CabinCard.service card⟩
  refine ⟨(Table.wf_of_view cards).trans sorted, by rwa [service], fun c => ?_, fun c x now => ?_,
    fun c d x y now now' twin => ?_⟩
  · rw [service, calls]
    constructor
    · rintro ⟨x, was, calling⟩
      obtain ⟨y, now, card⟩ := Table.get_of_view cards.symm was
      exact ⟨y, now, (congrArg CabinCard.service card).trans calling⟩
    · rintro ⟨x, now, calling⟩
      obtain ⟨y, was, _, _, _, service⟩ := live now
      exact ⟨y, was, service.trans calling⟩
  · obtain ⟨y, was, number, _, occupancy, service⟩ := live now
    rw [← number, ← occupancy, ← service]
    exact fields c y was
  · obtain ⟨v, was, number, plate, _⟩ := live now
    obtain ⟨w, was', number', plate', _⟩ := live now'
    rw [← number, ← number', ← plate, ← plate'] at twin
    exact unique c d v w was was' twin

/-! ### What leaves the roll alone -/

theorem roll_of_cabin {s t : State} (h : t.cabin = s.cabin) : t.roll = s.roll := by rw [State.roll, h, State.roll]

theorem roll_modCabin (s : State) (c : Nat) (f : Cabin → Cabin) (h : ∀ x, (f x).card = x.card) :
    (s.modCabin c f).roll = s.roll := by
  rw [State.roll, modCabin_service, State.roll, ← Table.view_modify Cabin.card f s.cabin.cabins c h]
  rfl

@[simp] theorem roll_modTrunk (s : State) (i : Fin 16) (f : Trunk → Trunk) : (s.modTrunk i f).roll = s.roll := rfl

@[simp] theorem roll_joinPlateQueue (s : State) (c : Nat) : (s.joinPlateQueue c).roll = s.roll :=
  roll_of_cabin (by simp)

@[simp] theorem roll_leavePlate (s : State) (c : Nat) : (s.leavePlate c).roll = s.roll := roll_of_cabin (by simp)

@[simp] theorem roll_pickAll (s : State) : s.pickAll.roll = s.roll := roll_of_cabin (by simp)

@[simp] theorem roll_raiseContent (s : State) (c : Nat) : (s.raiseContent c).roll = s.roll :=
  roll_modCabin _ _ _ fun _ => by rfl

@[simp] theorem roll_owePlate (s : State) (c : Nat) : (s.owePlate c).roll = s.roll :=
  (roll_joinPlateQueue _ c).trans (roll_modCabin s c Cabin.plateOwed fun _ => by rfl)

@[simp] theorem roll_faceChanged (s : State) (c : Nat) : (s.faceChanged c).roll = s.roll := by
  rw [State.faceChanged, placePlate_eq]
  split
  · rw [roll_owePlate, roll_raiseContent]
  · rw [roll_raiseContent]

@[simp] theorem roll_facesChanged (s : State) (cs : List (Nat × Cabin)) : (s.facesChanged cs).roll = s.roll := by
  rw [facesChanged_eq]
  exact foldl_keeps State.roll _ roll_faceChanged _ s

@[simp] theorem roll_revive (s : State) (c : Nat) : (s.revive c).roll = s.roll := by
  rw [State.revive]
  split
  · rfl
  · split
    · exact roll_owePlate s c
    · rfl

@[simp] theorem roll_surveyRevives (s : State) (i : Fin 16) (a : Nat) : (s.surveyRevives i a).roll = s.roll := by
  rw [State.surveyRevives]
  split
  · rfl
  · exact roll_revive s _

@[simp] theorem roll_writeDone (s : State) (c : Nat) (g : Gen) : (s.writeDone c g).roll = s.roll := by
  have delivered := roll_modCabin s c (fun x => { x with deliveredGen := g, retries := 0 }) fun _ => by rfl
  simp only [State.writeDone]
  split
  · exact delivered
  · split
    · exact (roll_modCabin _ _ _ fun _ => by rfl).trans delivered
    · exact (roll_joinPlateQueue _ _).trans delivered

@[simp] theorem roll_writeFailed (s : State) (c : Nat) : (s.writeFailed c).roll = s.roll := by
  have counted := roll_modCabin s c (fun x => { x with retries := x.retries + 1 }) fun _ => by rfl
  simp only [State.writeFailed]
  split
  · exact counted
  · split
    · exact (roll_joinPlateQueue _ _).trans counted
    · exact (roll_modCabin (s.modCabin c _) c (fun x => { x with plateState := .failed }) fun _ => by rfl).trans counted

theorem roll_endWrite (s : State) (i : Fin 16) {effect : State → Nat → Face → State}
    (keeps : ∀ u c face, (effect u c face).roll = u.roll) : (s.endWrite i effect).roll = s.roll := by
  rw [State.endWrite]
  split
  · rw [roll_pickAll, keeps, roll_modTrunk]
  · rw [roll_pickAll, roll_modTrunk]
  · rfl
  · rfl
  · rfl

@[simp] theorem roll_endSurveyStep (s : State) (i : Fin 16) (a : Nat) (b : Bool) (how : SurveyEnd) :
    (s.endSurveyStep i a b how).roll = s.roll := by
  simp only [State.endSurveyStep]
  split
  · rw [roll_surveyRevives]
    rfl
  · rfl

@[simp] theorem roll_holdExpires (s : State) (i : Fin 16) : (s.holdExpires i).roll = s.roll := by
  simp only [State.holdExpires]
  split
  · exact roll_writeFailed _ _
  · rfl
  · rfl
  · split
    · exact roll_surveyRevives _ _ _
    · rfl
  · rfl

@[simp] theorem roll_loses (s : State) (i : Fin 16) (b : Bool) : (s.loses i b).roll = s.roll := by
  simp only [State.loses]
  split
  · split
    · exact roll_surveyRevives _ _ _
    · rfl
  · rfl
  · rfl
  · rfl

@[simp] theorem roll_disableTrunk (s : State) (i : Fin 16) : (s.disableTrunk i).roll = s.roll := by
  rw [State.disableTrunk]
  split
  · split
    · exact roll_surveyRevives _ _ _
    · rfl
  · rfl
  · rfl
  · rfl

@[simp] theorem roll_switchTrunk (s : State) (i : Fin 16) (on : Bool) : (s.switchTrunk i on).roll = s.roll := by
  rw [State.switchTrunk]
  split
  · rfl
  · split
    · rfl
    · exact roll_disableTrunk s i

@[simp] theorem roll_clearSweeps (s : State) : s.clearSweeps.roll = s.roll :=
  Prod.ext (Table.view_mapAll Cabin.card (fun x => { x with swept := false, sweptBy := none }) s.cabin.cabins
    fun _ => by rfl) rfl

@[simp] theorem roll_refillPlateQueues (s : State) : s.refillPlateQueues.roll = s.roll := by
  rw [refillPlateQueues_eq]
  exact foldl_keeps State.roll _ roll_owePlate _ s

/-! ### One cabin's record moves -/

/-- A cabin's record comes, goes or changes, and the list of those that call follows it. -/
theorem Listed.replaced {s t : State} (h : Listed s) {c : Nat} (sorted : Table.wf t.cabin.cabins = true)
    (others : ∀ d, d ≠ c → t.cabinAt d = s.cabinAt d) (once : t.cabin.service.Nodup)
    (stay : ∀ d, d ≠ c → (d ∈ t.cabin.service ↔ d ∈ s.cabin.service))
    (calls : c ∈ t.cabin.service ↔ ∃ x, t.cabinAt c = some x ∧ x.service = true)
    (fields : ∀ x, t.cabinAt c = some x → (x.service = true → x.occupancy = .occupied) ∧
      x.number.deck ≤ 19 ∧ 1 ≤ x.number.number ∧ x.number.number ≤ 999)
    (unique : ∀ x d y, t.cabinAt c = some x → d ≠ c → s.cabinAt d = some y →
      x.number ≠ y.number ∧ ∀ p, x.plate = some p → y.plate ≠ some p) : Listed t := by
  obtain ⟨_, _, calling, held, apart⟩ := h
  have mine : ∀ d x y, t.cabinAt c = some x → d ≠ c → t.cabinAt d = some y →
      ¬(x.number = y.number ∨ (x.plate.isSome = true ∧ x.plate = y.plate)) := fun d x y now other live twin => by
    obtain ⟨number, plate⟩ := unique x d y now other (others d other ▸ live)
    rcases twin with same | ⟨some_, same⟩
    · exact number same
    · obtain ⟨p, address⟩ := Option.isSome_iff_exists.mp some_
      exact plate p address (same ▸ address)
  refine ⟨sorted, once, fun d => ?_, fun d x live => ?_, fun d e x y live live' twin => ?_⟩
  · by_cases e : d = c
    · exact e ▸ calls
    · rw [stay d e, others d e]
      exact calling d
  · by_cases e : d = c
    · exact fields x (e ▸ live)
    · exact held d x (others d e ▸ live)
  · by_cases ed : d = c
    · subst ed
      by_contra other
      exact mine e x y live (Ne.symm other) live' twin
    · by_cases ee : e = c
      · subst ee
        refine absurd ?_ (mine d y x live' ed live)
        rcases twin with same | ⟨some_, same⟩
        · exact .inl same.symm
        · exact .inr ⟨same ▸ some_, same.symm⟩
      · exact apart d e x y (others d ed ▸ live) (others e ee ▸ live') twin

/-- A cabin's record changes, but not its number. -/
theorem Listed.amended {s t : State} (h : Listed s) {c : Nat} {old : Cabin} (was : s.cabinAt c = some old)
    {f : Cabin → Cabin} (cabins : t.cabin.cabins = Table.modify s.cabin.cabins c f)
    (number : (f old).number = old.number)
    (plate : ∀ p, (f old).plate = some p → ∀ d y, d ≠ c → s.cabinAt d = some y → y.plate ≠ some p)
    (once : t.cabin.service.Nodup) (stay : ∀ d, d ≠ c → (d ∈ t.cabin.service ↔ d ∈ s.cabin.service))
    (calls : c ∈ t.cabin.service ↔ (f old).service = true)
    (occupied : (f old).service = true → (f old).occupancy = .occupied) : Listed t := by
  obtain ⟨_, _, held, apart⟩ := h.right
  have at_ := cabinAt_of_modify cabins was
  have now : t.cabinAt c = some (f old) := by rw [at_, if_pos rfl]
  refine h.replaced (c := c) (by rw [cabins, Table.wf_modify]; exact h.sorted)
    (fun d e => by rw [at_, if_neg e]) once stay (calls.trans (by simp [now])) (fun x live => ?_)
    fun x d y live other there => ?_
  · cases now.symm.trans live
    rw [number]
    exact ⟨occupied, (held c old was).2⟩
  · cases now.symm.trans live
    refine ⟨fun same => other ?_, fun p address => plate p address d y other there⟩
    rw [number] at same
    exact (apart c d old y was there (.inl same)).symm

/-- No other cabin has the plate address of a cabin. -/
theorem Listed.plate_apart {s : State} (h : Listed s) {c : Nat} {old : Cabin} (was : s.cabinAt c = some old)
    {p : PlateAddress} (plate : old.plate = some p) {d : Nat} {y : Cabin} (other : d ≠ c)
    (there : s.cabinAt d = some y) : y.plate ≠ some p := fun same => by
  obtain ⟨_, _, _, apart⟩ := h.right
  exact other (apart d c y old there was (.inr ⟨by simp [same], same.trans plate.symm⟩))

end Sys2Proof.Machine
end

section
/-! The requests on cabins and the reports of the plates keep the plates in order and the service list and the indexes
right (R60 to R65, R70 to R77). -/

namespace Sys2Proof.Machine

/-! ### What a command keeps -/

/-- From `s` to `t` the order of plates and trunks is kept, and so are the service list and the indexes. -/
structure Kept (s t : State) : Prop where
  plated : Plated nobody s → Plated nobody t
  listed : Listed s → Listed t

theorem Kept.refl (s : State) : Kept s s := ⟨id, id⟩

theorem Kept.trans {s t u : State} (h : Kept s t) (g : Kept t u) : Kept s u :=
  ⟨g.plated ∘ h.plated, g.listed ∘ h.listed⟩

theorem kept_of_roll {s t : State} (plated : Plated nobody s → Plated nobody t) (roll : t.roll = s.roll) : Kept s t :=
  ⟨plated, fun h => h.of_roll roll⟩

theorem kept_of_blocks {s t : State} (cabin : t.cabin = s.cabin) (plate : t.plate = s.plate) : Kept s t :=
  kept_of_roll (fun h => h.of_blocks cabin plate) (roll_of_cabin cabin)

theorem kept_pickAll (s : State) : Kept s s.pickAll := kept_of_roll Plated.pickAll (roll_pickAll s)

theorem kept_ite {c : Prop} [Decidable c] {s t u : State} (yes : c → Kept s t) (no : ¬c → Kept s u) :
    Kept s (if c then t else u) := by
  split
  · exact yes ‹_›
  · exact no ‹_›

theorem kept_reply_ite {c : Prop} [Decidable c] {s : State} {a b : State × Reply} (yes : c → Kept s a.1)
    (no : ¬c → Kept s b.1) : Kept s (if c then a else b).1 := by
  split
  · exact yes ‹_›
  · exact no ‹_›

theorem kept_foldl {α : Type} {f : State → α → State} (step : ∀ s a, Kept s (f s a)) (l : List α) (s : State) :
    Kept s (l.foldl f s) := by
  induction l generalizing s with
  | nil => exact .refl s
  | cons a l ih => exact (step s a).trans (ih _)

/-! ### CABIN_PUT (R60) -/

theorem modCabin_modCabin (s : State) (c : Nat) (f g : Cabin → Cabin) :
    (s.modCabin c f).modCabin c g = s.modCabin c (g ∘ f) := by
  simp only [State.modCabin, Table.modify, List.map_map]
  congr 2
  refine List.map_congr_left fun r _ => ?_
  simp only [Function.comp]
  split
  · rfl
  · rfl

/-- Where the records stand when a new cabin has taken its claims. -/
theorem cabinTaken_cabin (s : State) (c : Nat) (x : Cabin) :
    ((s.cabinTaken c x).judgeOver s).cabin = { s.cabin with cabins := Table.put s.cabin.cabins c x } := by
  simp [State.cabinTaken, State.withCabins]

theorem cabinTaken_plate (s : State) (c : Nat) (x : Cabin) : ((s.cabinTaken c x).judgeOver s).plate = s.plate := by
  simp [State.cabinTaken, State.withCabins]

theorem cabinAt_cabinTaken (s : State) (c : Nat) (x : Cabin) (d : Nat) :
    ((s.cabinTaken c x).judgeOver s).cabinAt d = if d = c then some x else s.cabinAt d := by
  rw [State.cabinAt, cabinTaken_cabin]
  exact Table.get_put _ _ _ _

theorem Plated.createCabin {s : State} (h : Plated nobody s) {c : Nat} {x : Cabin} (free : s.cabinAt c = none)
    (state : x.plateState = if x.plate.isSome then .pending else .noPlate) : Plated nobody (s.createCabin c x) := by
  have live : ((s.cabinTaken c x).judgeOver s).cabinAt c = some x := by rw [cabinAt_cabinTaken, if_pos rfl]
  have away : Plated (also nobody c) s := h.off fun y now => by rw [free] at now; cases now
  have taken : Plated (also nobody c) ((s.cabinTaken c x).judgeOver s) := by
    refine away.recordMoved (also_same _ _) (cabinTaken_plate s c x) ?_
      (fun d e => by rw [cabinAt_cabinTaken, if_neg e]) fun y now => ?_
    · rw [cabinTaken_cabin]
      exact Table.wf_put _ _ _ h.sorted
    · cases live.symm.trans now
      rw [state]
      cases x.plate <;> simp
  rw [createCabin_eq]
  refine Plated.pickAll ?_
  cases plate : x.plate with
  | none =>
    rw [State.joinPlateQueue, live, Option.bind_some, plate]
    exact taken.back fun y now => by
      cases live.symm.trans now
      simp [state, plate]
  | some p => exact without_also c ▸ taken.joins (also_same _ _) live (by simp [state, plate])

theorem Listed.createCabin {s : State} (h : Listed s) {c : Nat} {x : Cabin} (free : s.cabinAt c = none)
    (quiet : x.service = false) (number : x.number.deck ≤ 19 ∧ 1 ≤ x.number.number ∧ x.number.number ≤ 999)
    (unique : ∀ d y, s.cabinAt d = some y → x.number ≠ y.number ∧ ∀ p, x.plate = some p → y.plate ≠ some p) :
    Listed (s.createCabin c x) := by
  have live : ((s.cabinTaken c x).judgeOver s).cabinAt c = some x := by rw [cabinAt_cabinTaken, if_pos rfl]
  obtain ⟨once, calls, _⟩ := h.right
  have service : ((s.cabinTaken c x).judgeOver s).cabin.service = s.cabin.service := by rw [cabinTaken_cabin]
  have taken : Listed ((s.cabinTaken c x).judgeOver s) := by
    refine h.replaced (c := c) ?_ (fun d e => by rw [cabinAt_cabinTaken, if_neg e]) (service ▸ once)
      (fun d _ => by rw [service]) ?_ (fun y now => ?_) fun y d z now _ there => ?_
    · rw [cabinTaken_cabin]
      exact Table.wf_put _ _ _ h.sorted
    · rw [service, calls]
      exact iff_of_false (by simp [free]) (by simp [live, quiet])
    · cases live.symm.trans now
      exact ⟨by simp [quiet], number⟩
    · cases live.symm.trans now
      exact unique d z there
  rw [createCabin_eq]
  exact taken.of_roll ((roll_pickAll _).trans (roll_joinPlateQueue _ c))

/-- A test that no record passes. -/
theorem not_of_find_none {α : Type} {t : Table α} {p : α → Bool} (none_ : Table.find t p = none) {k : Nat} {x : α}
    (live : Table.get t k = some x) : p x = false := by
  have mem := Table.mem_of_get _ _ _ live
  rw [Table.find, List.find?_eq_none] at none_
  simpa using none_ (k, x) mem

theorem number_of_none {s : State} {n : CabinNumber} (none_ : s.cabinByNumber n = none) {c : Nat} {x : Cabin}
    (live : s.cabinAt c = some x) : x.number ≠ n := by
  simpa using not_of_find_none none_ live

theorem plate_of_none {s : State} {p : PlateAddress} (none_ : s.cabinByPlate p = none) {c : Nat} {x : Cabin}
    (live : s.cabinAt c = some x) : x.plate ≠ some p := by
  simpa using not_of_find_none none_ live

theorem cabinAt_of_byNumber {s : State} (sorted : Table.wf s.cabin.cabins = true) {n : CabinNumber} {c : Nat} {x : Cabin}
    (found : s.cabinByNumber n = some (c, x)) : s.cabinAt c = some x ∧ x.number = n := by
  obtain ⟨live, passes⟩ := Table.get_of_find sorted found
  exact ⟨live, by simpa using passes⟩

theorem cabinAt_of_byPlate {s : State} (sorted : Table.wf s.cabin.cabins = true) {p : PlateAddress} {c : Nat} {x : Cabin}
    (found : s.cabinByPlate p = some (c, x)) : s.cabinAt c = some x ∧ x.plate = some p := by
  obtain ⟨live, passes⟩ := Table.get_of_find sorted found
  exact ⟨live, by simpa using passes⟩

theorem cabinNumberInRange_iff (deck number : Nat) :
    cabinNumberInRange deck number = true ↔ deck ≤ 19 ∧ 1 ≤ number ∧ number ≤ 999 := by
  rw [cabinNumberInRange, show Config.maxDeck = 19 from rfl, show Config.maxCabinNumber = 999 from rfl]
  simp [and_assoc]

theorem number_of_fields {b : CabinBody} {f : CabinFields} (h : b.fields = some f) :
    f.number.deck ≤ 19 ∧ 1 ≤ f.number.number ∧ f.number.number ≤ 999 := by
  rw [CabinBody.fields] at h
  split at h
  · split at h
    · rename_i inRange
      cases h
      simp only [Bool.and_eq_true] at inRange
      obtain ⟨⟨⟨⟨⟨⟨number, _⟩, _⟩, _⟩, _⟩, _⟩, _⟩ := inRange
      exact (cabinNumberInRange_iff _ _).mp number
    · cases h
  · cases h

theorem kept_cabinPut (b : CabinBody) (s : State) : Kept s (cabinPut b s).1 := by
  rw [cabinPut]
  split
  · exact .refl s
  · rename_i f fields
    refine kept_reply_ite (fun _ => .refl s) fun _ => kept_reply_ite (fun _ => .refl s) fun _ =>
      kept_reply_ite (fun _ => .refl s) fun _ => kept_reply_ite (fun _ => .refl s) fun _ =>
      kept_reply_ite (fun _ => .refl s) fun numbers => ?_
    split
    · exact .refl s
    · rename_i plates
      split
      · exact .refl s
      · rename_i c lowest
        have free : s.cabinAt c = none := Table.get_lowestFree lowest
        have state : f.cabin.plateState = if f.cabin.plate.isSome then .pending else .noPlate := by
          rw [CabinFields.cabin]
        dsimp only
        refine ⟨fun h => Plated.createCabin h free state, fun h => Listed.createCabin h free (by rw [CabinFields.cabin])
          (number_of_fields fields) fun d y live => ⟨fun same => ?_, fun p plate => ?_⟩⟩
        · have none_ : s.cabinByNumber f.number = none := by simpa using numbers
          exact number_of_none none_ live same.symm
        · have none_ : s.cabinByPlate p = none := by
            rw [show f.plate = some p from plate] at plates
            exact plates
          exact plate_of_none none_ live

end Sys2Proof.Machine
end

section
/-! CABIN_AMEND, CABIN_RETIRE, PLATE_RETRY, SERVICE_TAKE and the reports keep the plates in order and the service list
and the indexes right (R61 to R65, R70 to R77). -/

namespace Sys2Proof.Machine

/-! ### CABIN_AMEND (R61 to R64) -/

theorem cabinAt_leavePlate (s : State) (c d : Nat) : (s.leavePlate c).cabinAt d = s.cabinAt d :=
  cabinAt_of_cabin (by simp) d

/-- A cabin's record once its plate has an address anew: its face is raised and owed. -/
def Cabin.plated (p : PlateAddress) (x : Cabin) : Cabin :=
  { x with plate := some p, contentGen := raise x.contentGen, plateState := .pending, retries := 0 }

/-- A cabin's record with another plate address. -/
def Cabin.readdressed (a : Option PlateAddress) (x : Cabin) : Cabin := { x with plate := a }

/-- A cabin's record once its plate has no address. -/
def Cabin.unplated (x : Cabin) : Cabin := { x with plate := none, plateState := .noPlate, retries := 0 }

/-- What an amend makes of a plate: it is left alone, or it leaves its trunk and joins the one it goes to. -/
theorem amendPlate_moves (s : State) (c : Nat) {old new : Option PlateAddress} (moves : old ≠ new) (face : Bool) :
    s.amendPlate c old new face =
      match new with
      | some p => ((s.leavePlate c).modCabin c (Cabin.plated p)).joinPlateQueue c
      | none =>
        if face then ((s.leavePlate c).modCabin c Cabin.unplated).raiseContent c
        else (s.leavePlate c).modCabin c Cabin.unplated := by
  rw [State.amendPlate, if_neg moves]
  cases new with
  | none => rfl
  | some p =>
    dsimp only
    rw [State.owePlate, State.raiseContent, modCabin_modCabin, modCabin_modCabin]
    rfl

theorem Plated.amendPlate {s : State} (h : Plated nobody s) {c : Nat} {old new : Option PlateAddress} (face : Bool) :
    Plated nobody (s.amendPlate c old new face) := by
  by_cases same : old = new
  · rw [State.amendPlate, if_pos same]
    split
    · exact h.faceChanged c
    · exact h
  · rw [amendPlate_moves s c same]
    have away := h.leavePlate c
    split
    · rename_i p _
      have moved := away.modCabin_off (also_same _ _) (Cabin.plated p) fun _ _ => by simp [Cabin.plated]
      cases live : s.cabinAt c with
      | none =>
        have gone : ((s.leavePlate c).modCabin c (Cabin.plated p)).cabinAt c = none := by
          simp [cabinAt_modCabin, cabinAt_leavePlate, live]
        rw [State.joinPlateQueue, gone]
        exact moved.back fun y now => by rw [gone] at now; cases now
      | some x =>
        refine without_also c ▸ moved.joins (also_same _ _) (x := x.plated p) ?_ rfl
        simp [cabinAt_modCabin, cabinAt_leavePlate, live]
    · have moved := away.modCabin_off (also_same _ _) Cabin.unplated fun _ _ => by simp [Cabin.unplated]
      have back : Plated nobody ((s.leavePlate c).modCabin c Cabin.unplated) := moved.back fun y now => by
        rw [cabinAt_modCabin] at now
        obtain ⟨x, _, rfl⟩ := Option.map_eq_some_iff.mp now
        rw [if_pos rfl, Cabin.unplated]
        exact PlateState.noConfusion
      split
      · exact back.modCabin c _ fun _ => by rfl
      · exact back

theorem roll_amendPlate {s : State} (sorted : Table.wf s.cabin.cabins = true) {c : Nat} {x : Cabin}
    (live : s.cabinAt c = some x) (new : Option PlateAddress) (face : Bool) :
    (s.amendPlate c x.plate new face).roll = (s.modCabin c (Cabin.readdressed new)).roll := by
  by_cases same : x.plate = new
  · have still : (s.modCabin c (Cabin.readdressed new)).roll = s.roll :=
      Prod.ext (Table.view_modify_of_get Cabin.card (Cabin.readdressed new) _ c x sorted live (by
        rw [← same]
        rfl)) rfl
    rw [State.amendPlate, if_pos same, still]
    split
    · exact roll_faceChanged s c
    · rfl
  · have left : ∀ (f : Cabin → Cabin), (∀ x, (f x).card = (x.readdressed new).card) →
        ((s.leavePlate c).modCabin c f).roll = (s.modCabin c (Cabin.readdressed new)).roll := fun f card => by
      have cabin : (s.leavePlate c).cabin = s.cabin := by simp
      refine Prod.ext ?_ (show (s.leavePlate c).cabin.service = s.cabin.service by rw [cabin])
      show Table.view Cabin.card (Table.modify (s.leavePlate c).cabin.cabins c f) = _
      rw [cabin]
      simp only [Table.view, Table.modify, State.roll, State.modCabin, List.map_map]
      refine List.map_congr_left fun r _ => ?_
      simp only [Function.comp]
      split
      · exact congrArg _ (card r.2)
      · rfl
    rw [amendPlate_moves s c same]
    split
    · exact (roll_joinPlateQueue _ c).trans (left _ fun _ => by rfl)
    · split
      · exact (roll_raiseContent _ c).trans (left _ fun _ => by rfl)
      · exact left _ fun _ => by rfl

/-- The records of an amend, its plate apart. -/
theorem cabinMoved_cabin (s : State) (c : Nat) (old new : Cabin) :
    ((s.cabinMoved c old new).judgeOver s).cabin.cabins = Table.modify s.cabin.cabins c (fun _ => new) ∧
    ((s.cabinMoved c old new).judgeOver s).cabin.service =
      if old.service && !new.service then s.cabin.service.filter fun x => decide (x ≠ c) else s.cabin.service := by
  have moved : ((s.moveContribution old new).moveCabinClaims old new).cabin = s.cabin :=
    (moveCabinClaims_keeps _ old new).1.trans (by simp)
  have judged : ((s.cabinMoved c old new).judgeOver s).cabin = (s.cabinMoved c old new).cabin := by simp
  rw [judged, State.cabinMoved]
  split
  · simp only [State.leaveService, State.modCabin, moved, true_and]
  · simp only [State.modCabin, moved, true_and]

theorem cabinMoved_plate (s : State) (c : Nat) (old new : Cabin) :
    ((s.cabinMoved c old new).judgeOver s).plate = s.plate := by
  have claims : ((s.moveContribution old new).moveCabinClaims old new).plate = s.plate := by
    have anchored : ((s.moveContribution old new).reanchor old.doorNode new.doorNode).plate = s.plate := by
      rw [State.reanchor]
      split <;> simp
    simp [moveCabinClaims_eq, anchored]
  have judged : ((s.cabinMoved c old new).judgeOver s).plate = (s.cabinMoved c old new).plate := by simp
  rw [judged, State.cabinMoved]
  split <;> exact claims

theorem Plated.amendCabin {s : State} (h : Plated nobody s) {c : Nat} {old new : Cabin} (was : s.cabinAt c = some old)
    (plating : new.plating = old.plating) (plate : Option PlateAddress) (face : Bool) :
    Plated nobody (s.amendCabin c old new plate face) := by
  have moved : Plated nobody ((s.cabinMoved c old new).judgeOver s) := by
    refine h.of_views ?_ (cabinMoved_plate s c old new)
    rw [(cabinMoved_cabin s c old new).1]
    exact Table.view_modify_of_get Cabin.plating (fun _ => new) _ c old h.sorted was plating
  rw [amendCabin_eq]
  exact (moved.amendPlate face).pickAll

theorem Listed.amendCabin {s : State} (h : Listed s) {c : Nat} {old new : Cabin} (was : s.cabinAt c = some old)
    (number : new.number = old.number) (plate : new.plate = old.plate)
    (service : new.service = true → old.service = true ∧ new.occupancy = .occupied) {address : Option PlateAddress}
    (unique : ∀ p, address = some p → ∀ d y, d ≠ c → s.cabinAt d = some y → y.plate ≠ some p) (face : Bool) :
    Listed (s.amendCabin c old new address face) := by
  obtain ⟨once, called, _⟩ := h.right
  obtain ⟨records, list⟩ := cabinMoved_cabin s c old new
  have now := cabinAt_of_modify records was
  have sorted : Table.wf ((s.cabinMoved c old new).judgeOver s).cabin.cabins = true := by
    rw [records]
    exact (Table.wf_modify s.cabin.cabins c fun _ => new).trans h.sorted
  have calling : c ∈ s.cabin.service ↔ old.service = true := (called c).trans (by simp [was])
  have calls : c ∈ ((s.cabinMoved c old new).judgeOver s).cabin.service ↔ new.service = true := by
    rw [list]
    split
    · rename_i drops
      simp only [Bool.and_eq_true, Bool.not_eq_true'] at drops
      simp [drops.2]
    · rename_i stays
      rw [calling]
      constructor
      · intro on
        simpa [on] using stays
      · exact fun on => (service on).1
  have roll : (s.amendCabin c old new address face).roll =
      (((s.cabinMoved c old new).judgeOver s).modCabin c (Cabin.readdressed address)).roll := by
    rw [amendCabin_eq, roll_pickAll, ← plate]
    exact roll_amendPlate sorted (by rw [now, if_pos rfl]) address face
  refine Listed.of_roll ?_ roll
  refine h.amended (c := c) was (f := fun _ => new.readdressed address) ?_ number (fun p e d y => unique p e d y) ?_ ?_ calls
    (fun on => (service on).2)
  · show Table.modify _ c _ = _
    rw [records]
    simp only [Table.modify, List.map_map]
    refine List.map_congr_left fun r _ => ?_
    simp only [Function.comp]
    split <;> rfl
  · rw [modCabin_service, list]
    split
    · exact once.filter _
    · exact once
  · intro d other
    rw [modCabin_service, list]
    split
    · simp [other]
    · exact Iff.rfl

/-- What an amend leaves of number and plate, and that it raises no service flag. -/
theorem applyTo_card (g : CabinChange) (x : Cabin) :
    (g.applyTo x).number = x.number ∧ (g.applyTo x).plating = x.plating ∧
    ((g.applyTo x).service = true → x.service = true ∧ (x.occupancy = .occupied → (g.applyTo x).occupancy = .occupied)) := by
  rw [CabinChange.applyTo]
  split
  · exact ⟨rfl, rfl, fun on => by cases on⟩
  · rename_i stays
    refine ⟨rfl, rfl, fun on => ⟨(Bool.and_eq_true_iff.mp on).1, fun occupied => ?_⟩⟩
    rw [CabinChange.vacates, occupied] at stays
    cases given : g.occupancy with
    | none => simp [occupied]
    | some o =>
      cases o with
      | occupied => rfl
      | vacant => simp [given] at stays

theorem kept_cabinAmend (b : CabinAmendBody) (s : State) : Kept s (cabinAmend b s).1 := by
  rw [cabinAmend]
  split
  · exact .refl s
  · rename_i g _
    split
    · exact .refl s
    · rename_i c old found
      refine kept_reply_ite (fun _ => .refl s) fun _ => kept_reply_ite (fun _ => .refl s) fun _ =>
        kept_reply_ite (fun _ => .refl s) fun _ => kept_reply_ite (fun _ => .refl s) fun _ => ?_
      split
      · exact .refl s
      · rename_i holder
        dsimp only
        obtain ⟨number, plating, service⟩ := applyTo_card g old
        refine ⟨fun h => h.amendCabin (cabinAt_of_byNumber h.sorted found).1 plating _ _, fun h => ?_⟩
        obtain ⟨was, _⟩ := cabinAt_of_byNumber h.sorted found
        obtain ⟨_, _, held, _⟩ := h.right
        refine h.amendCabin was number (congrArg CabinPlating.plate plating)
          (fun on => ⟨(service on).1, (service on).2 ((held c old was).1 (service on).1)⟩)
          (fun p address d y other there same => ?_) _
        cases given : g.plate with
        | none =>
          rw [given, Option.getD_none] at address
          exact h.plate_apart was address other there same
        | some q =>
          rw [given, Option.getD_some] at address
          rw [given, address, Option.bind_some, id, Option.bind_some, Option.filter_eq_none_iff] at holder
          cases index : s.cabinByPlate p with
          | none => exact plate_of_none index there same
          | some r =>
            obtain ⟨live, plate⟩ := cabinAt_of_byPlate h.sorted (c := r.1) (x := r.2) index
            have mine : r.1 = c := by simpa using holder r index
            exact h.plate_apart (mine ▸ live) plate other there same

end Sys2Proof.Machine
end

section
/-! CABIN_RETIRE, PLATE_RETRY, SERVICE_TAKE and the reports keep the plates in order and the service list and the
indexes right (R65, R70 to R77). -/

namespace Sys2Proof.Machine

/-! ### CABIN_RETIRE, PLATE_RETRY and SERVICE_TAKE (R65, R70, R72) -/

theorem removeCabin_cabin (s : State) (c : Nat) (x : Cabin) :
    (s.removeCabin c x).cabin = { s.cabin with cabins := Table.del s.cabin.cabins c } ∧
    (s.removeCabin c x).plate = (s.leavePlate c).plate := by
  simp [removeCabin_eq, State.withCabins]

theorem cabinAt_removeCabin (s : State) (c : Nat) (x : Cabin) (d : Nat) :
    (s.removeCabin c x).cabinAt d = if d = c then none else s.cabinAt d := by
  rw [State.cabinAt, (removeCabin_cabin s c x).1]
  exact Table.get_del _ _ _

theorem Plated.removeCabin {s : State} (h : Plated nobody s) (c : Nat) (x : Cabin) :
    Plated nobody (s.removeCabin c x) := by
  obtain ⟨cabin, plate⟩ := removeCabin_cabin s c x
  have gone : (s.removeCabin c x).cabinAt c = none := by rw [cabinAt_removeCabin, if_pos rfl]
  have removed : Plated (also nobody c) (s.removeCabin c x) := by
    refine (h.leavePlate c).recordMoved (also_same _ _) plate ?_ (fun d e => ?_) fun y now => ?_
    · rw [cabin]
      exact Table.wf_del _ _ h.sorted
    · rw [cabinAt_removeCabin, if_neg e, cabinAt_leavePlate]
    · rw [gone] at now
      cases now
  exact removed.back fun y now => by rw [gone] at now; cases now

theorem Listed.removeCabin {s : State} (h : Listed s) {c : Nat} {x : Cabin} (was : s.cabinAt c = some x)
    (vacant : x.occupancy ≠ .occupied) : Listed (s.removeCabin c x) := by
  obtain ⟨cabin, _⟩ := removeCabin_cabin s c x
  obtain ⟨once, calls, held, _⟩ := h.right
  have gone : (s.removeCabin c x).cabinAt c = none := by rw [cabinAt_removeCabin, if_pos rfl]
  have service : (s.removeCabin c x).cabin.service = s.cabin.service := by rw [cabin]
  refine h.replaced (c := c) ?_ (fun d e => by rw [cabinAt_removeCabin, if_neg e]) (service ▸ once)
    (fun d _ => by rw [service]) ?_ (fun y now => by rw [gone] at now; cases now)
    fun y d z now => by rw [gone] at now; cases now
  · rw [cabin]
    exact Table.wf_del _ _ h.sorted
  · rw [service, calls]
    refine iff_of_false ?_ (by simp [gone])
    rintro ⟨y, now, on⟩
    cases was.symm.trans now
    exact vacant ((held c x was).1 on)

theorem kept_cabinRetire (b : Nat × Nat) (s : State) : Kept s (cabinRetire b s).1 := by
  rw [cabinRetire]
  refine kept_reply_ite (fun _ => ?_) fun _ => .refl s
  split
  · exact .refl s
  · rename_i c x found
    refine kept_reply_ite (fun _ => .refl s) fun vacant => ?_
    dsimp only
    exact ⟨fun h => h.removeCabin c x, fun h => h.removeCabin (cabinAt_of_byNumber h.sorted found).1 vacant⟩

theorem kept_plateRetry (b : Nat × Nat) (s : State) : Kept s (plateRetry b s).1 := by
  rw [plateRetry]
  refine kept_reply_ite (fun _ => ?_) fun _ => .refl s
  split
  · exact .refl s
  · rename_i c x found
    refine kept_reply_ite (fun failed => ?_) fun _ => .refl s
    dsimp only
    refine Kept.trans (kept_of_roll (fun h => ?_) (roll_owePlate s c)) (kept_pickAll _)
    exact h.owePlate (cabinAt_of_byNumber h.sorted found).1 (by simp [Cabin.owedAnew, failed])

/-- A cabin's record once its call is taken. -/
def Cabin.uncalled (x : Cabin) : Cabin := { x with service := false }

/-- The call at the head of the service list is taken. -/
def State.callTaken (s : State) (c : Nat) (rest : List Nat) : State :=
  ({ s with cabin := { s.cabin with service := rest } } : State).modCabin c Cabin.uncalled

theorem Listed.callTaken {s : State} (h : Listed s) {c : Nat} {rest : List Nat} (list : s.cabin.service = c :: rest) :
    Listed (s.callTaken c rest) := by
  obtain ⟨once, calls, _⟩ := h.right
  obtain ⟨x, was, _⟩ := (calls c).mp (by rw [list]; exact List.mem_cons_self)
  rw [list, List.nodup_cons] at once
  obtain ⟨fresh, once⟩ := once
  refine h.amended was (f := Cabin.uncalled) rfl rfl (fun p plate d y => h.plate_apart was plate) once (fun d e => ?_)
    (iff_of_false fresh Bool.false_ne_true) fun on => by cases on
  rw [list, List.mem_cons]
  exact (or_iff_right e).symm

theorem kept_serviceTake (b : Unit) (s : State) : Kept s (serviceTake b s).1 := by
  rw [serviceTake]
  split
  · exact .refl s
  · rename_i c rest list
    have taken : Kept s (s.callTaken c rest) := by
      refine ⟨fun h => h.of_views ?_ rfl, fun h => h.callTaken list⟩
      exact Table.view_modify Cabin.plating Cabin.uncalled _ _ fun _ => by rfl
    dsimp only
    split <;> exact taken

/-! ### Reports (R73 to R77) -/

/-- The records' canonical form is at hand. -/
theorem kept_of_sorted {s t : State} (h : Table.wf s.cabin.cabins = true → Kept s t) : Kept s t :=
  ⟨fun g => (h g.sorted).plated g, fun g => (h g.sorted).listed g⟩

theorem kept_modCabin (s : State) (c : Nat) (f : Cabin → Cabin)
    (same : ∀ x, (f x).plating = x.plating ∧ (f x).card = x.card) : Kept s (s.modCabin c f) :=
  kept_of_roll (fun h => h.modCabin c f fun x => (same x).1) (roll_modCabin s c f fun x => (same x).2)

theorem kept_raiseContent (s : State) (c : Nat) : Kept s (s.raiseContent c) :=
  kept_modCabin s c _ fun _ => ⟨by rfl, by rfl⟩

theorem kept_owePlate {s : State} {c : Nat} {x : Cabin} (live : s.cabinAt c = some x) (anew : x.owedAnew = true) :
    Kept s (s.owePlate c) := kept_of_roll (fun h => h.owePlate live anew) (roll_owePlate s c)

theorem kept_settlePrivacy {s : State} {c : Nat} {x : Cabin} (live : s.cabinAt c = some x) :
    Kept s (s.settlePrivacy c x.plateState) := by
  cases state : x.plateState with
  | current => exact kept_modCabin _ _ _ fun _ => ⟨by rfl, by rfl⟩
  | pending => exact .refl s
  | failed => exact kept_owePlate live (by simp [Cabin.owedAnew, state])
  | noPlate => exact .refl s

theorem kept_takePrivacy (v : Privacy) {s : State} {c : Nat} {x : Cabin} (live : s.cabinAt c = some x) :
    Kept s (State.takePrivacy v s c x) := by
  rw [State.takePrivacy]
  refine kept_ite (fun _ => .refl s) fun _ => ?_
  have shown : Kept s (s.modCabin c fun x => { x with privacy := v }) := kept_modCabin _ _ _ fun _ => ⟨by rfl, by rfl⟩
  refine (shown.trans (kept_raiseContent _ c)).trans
    (kept_settlePrivacy (x := { x with privacy := v, contentGen := raise x.contentGen }) ?_)
  simp [State.raiseContent, cabinAt_modCabin, live]

/-- A cabin's record once it calls. -/
def Cabin.called (minute : Option Nat) (x : Cabin) : Cabin := { x with service := true, serviceMinute := minute }

theorem takeServiceCall_eq (s : State) (c : Nat) (x : Cabin) :
    s.takeServiceCall c x = if x.occupancy = .vacant ∨ x.service = true then s
      else (s.modCabin c (Cabin.called (s.programme.clock.map (·.minute)))).joinService c := rfl

theorem kept_takeServiceCall {s : State} {c : Nat} {x : Cabin} (live : s.cabinAt c = some x) :
    Kept s (s.takeServiceCall c x) := by
  rw [takeServiceCall_eq]
  refine kept_ite (fun _ => .refl s) fun may => ⟨fun h => h.of_views ?_ rfl, fun h => ?_⟩
  · exact Table.view_modify Cabin.plating (Cabin.called _) _ _ fun _ => by rfl
  · obtain ⟨vacant, quiet⟩ := not_or.mp may
    obtain ⟨once, calls, _⟩ := h.right
    have fresh : c ∉ s.cabin.service := fun on => by
      obtain ⟨y, now, on⟩ := (calls c).mp on
      cases live.symm.trans now
      exact quiet on
    have list : ((s.modCabin c (Cabin.called (s.programme.clock.map (·.minute)))).joinService c).cabin.service =
        s.cabin.service ++ [c] := rfl
    refine h.amended live (f := Cabin.called _) rfl rfl (fun p plate d y => h.plate_apart live plate) ?_ (fun d e => ?_)
      (by simp [list, Cabin.called]) fun _ => ?_
    · rw [list]
      exact List.concat_eq_append ▸ once.concat fresh
    · simp [list, e]
    · cases occupancy : x.occupancy with
      | occupied => exact occupancy
      | vacant => exact absurd occupancy vacant

theorem kept_takeSweep (tag : Word16) (s : State) (c : Nat) (x : Cabin) : Kept s (State.takeSweep tag s c x) := by
  have counted : Kept s (s.countSweep x) := by
    rw [State.countSweep]
    split
    · exact .refl s
    · exact kept_of_blocks rfl rfl
  rw [State.takeSweep]
  refine kept_ite (fun _ => ?_) fun _ => .refl s
  exact (kept_ite (fun _ => .refl s) fun _ => counted).trans (kept_modCabin _ _ _ fun _ => ⟨by rfl, by rfl⟩)

theorem kept_takeToolWrite {s : State} {c : Nat} {x : Cabin} (live : s.cabinAt c = some x) :
    Kept s (s.takeToolWrite c x) := by
  have raised : (s.raiseContent c).cabinAt c = some { x with contentGen := raise x.contentGen } := by
    simp [State.raiseContent, cabinAt_modCabin, live]
  rw [State.takeToolWrite]
  refine (kept_raiseContent s c).trans ?_
  cases state : x.plateState with
  | current => exact kept_owePlate raised (by simp [Cabin.owedAnew, state])
  | failed => exact kept_owePlate raised (by simp [Cabin.owedAnew, state])
  | pending => exact kept_modCabin _ _ _ fun _ => ⟨by rfl, by rfl⟩
  | noPlate => exact .refl _

theorem kept_consume {s : State} {e : ReportEntry} {rest : List ReportEntry} (shorter : rest.length ≤ s.held)
    {effect : State → Nat → Cabin → State}
    (keeps : ∀ {u c x}, u.cabinAt c = some x → Kept u (effect u c x)) : Kept s (s.consume e rest effect) := by
  have taken : Kept s { s with plate := { s.plate with inbound := rest } } :=
    kept_of_roll (fun h => h.reported rfl rfl ((Nat.add_le_add_right shorter _).trans h.room)) rfl
  refine kept_of_sorted fun sorted => ?_
  rw [State.consume]
  refine Kept.trans (taken.trans ?_) (kept_pickAll _)
  split
  · exact .refl _
  · rename_i c x found
    exact keeps (cabinAt_of_byPlate sorted found).1

end Sys2Proof.Machine
end

section
/-! What leaves cabins and plates alone: every operation on the deck graph, the maps, the targets, the programme, the
screens, the muster state and the port. -/

namespace Sys2Proof.Machine

/-- The cabins and the plates. -/
def State.desk (s : State) : CabinTable × PlateBus := (s.cabin, s.plate)

theorem kept_of_desk {s t : State} (h : t.desk = s.desk) : Kept s t :=
  kept_of_blocks (congrArg Prod.fst h) (congrArg Prod.snd h)

theorem desk_ite {c : Prop} [Decidable c] {a b s : State} (yes : a.desk = s.desk) (no : b.desk = s.desk) :
    (if c then a else b).desk = s.desk := by
  split
  · exact yes
  · exact no

/-! ### Shared operations -/

@[simp] theorem desk_mark (s : State) (p : Causes) : (s.mark p).desk = s.desk := by simp [State.desk]

@[simp] theorem desk_judgeStandDown (s : State) : s.judgeStandDown.desk = s.desk := by simp [State.desk]

@[simp] theorem desk_startBuild (s : State) : s.startBuild.desk = s.desk := by simp [State.desk]

@[simp] theorem desk_claimTargets (s : State) (ts : List Nat) : (s.claimTargets ts).desk = s.desk := by
  simp [State.desk]

@[simp] theorem desk_releaseTargets (s : State) (ts : List Nat) : (s.releaseTargets ts).desk = s.desk := by
  simp [State.desk]

@[simp] theorem desk_judgeOver (s before : State) : (s.judgeOver before).desk = s.desk := by simp [State.desk]

@[simp] theorem desk_contributeAll (s : State) (cs : List Cabin) : (s.contributeAll cs).desk = s.desk := by
  simp [State.desk]

@[simp] theorem desk_withdrawAll (s : State) (cs : List Cabin) : (s.withdrawAll cs).desk = s.desk := by
  simp [State.desk]

@[simp] theorem desk_graphRaise (s : State) (b : Bool) : (s.graphRaise b).desk = s.desk := by simp [State.desk]

@[simp] theorem desk_reanchor (s : State) (a b : Nat) : (s.reanchor a b).desk = s.desk := desk_ite rfl rfl

theorem kept_settle (s : State) : Kept s s.settle :=
  (kept_of_desk (desk_startBuild s)).trans (kept_pickAll _)

/-! ### Nodes and edges -/

theorem desk_reply_ite {c : Prop} [Decidable c] {a b : State × Reply} {s : State} (yes : a.1.desk = s.desk)
    (no : b.1.desk = s.desk) : (if c then a else b).1.desk = s.desk := by
  split
  · exact yes
  · exact no

theorem desk_nodePut (b : NodeBody) (s : State) : (nodePut b s).1.desk = s.desk := by
  rw [nodePut]
  split
  · rfl
  · split
    · rfl
    · exact desk_ite rfl (desk_mark _ _)

theorem desk_nodeRetire (id : Nat) (s : State) : (nodeRetire id s).1.desk = s.desk := by
  rw [nodeRetire]
  split
  · rfl
  · split
    · rfl
    · split <;> rfl

/-- A change of the deck graph, the raise and the build that follow it. -/
theorem desk_graphMoved {s u : State} (blocks : u.GraphOf s) (b : Bool) :
    (u.graphRaise b).startBuild.desk = s.desk := by
  rw [desk_startBuild, desk_graphRaise, blocks.blocks]
  rfl

theorem desk_edgePut (b : EdgeBody) (s : State) : (edgePut b s).1.desk = s.desk := by
  rw [edgePut]
  split
  · rfl
  · refine desk_reply_ite rfl (desk_reply_ite rfl (desk_reply_ite rfl (desk_reply_ite rfl ?_)))
    split
    · dsimp only
      rw [createEdge_eq, desk_graphMoved (edgeTaken_graphOf _ _ _)]
    · dsimp only
      rw [amendEdge_eq, desk_graphMoved (edgeMoved_graphOf _ _ _ _)]

theorem desk_edgeSetPass (b : Nat × Nat) (s : State) : (edgeSetPass b s).1.desk = s.desk := by
  rw [edgeSetPass]
  split
  · rfl
  · refine desk_reply_ite rfl ?_
    split
    · rfl
    · refine desk_reply_ite rfl ?_
      dsimp only
      rw [setPass_eq, desk_graphMoved (passSet_graphOf _ _ _ _)]

theorem desk_edgeRetire (id : Nat) (s : State) : (edgeRetire id s).1.desk = s.desk := by
  rw [edgeRetire]
  refine desk_reply_ite rfl ?_
  split
  · rfl
  · dsimp only
    rw [removeEdge_eq, desk_graphMoved (edgeGone_graphOf _ _ _)]

/-! ### Targets -/

theorem desk_createTarget (s : State) (b : TargetBody) (given : Option (Nat × Nat)) :
    (s.createTarget b given).desk = s.desk := by
  have maps : ((s.targetTaken b.id (b.target given)).createMaps b.id).desk = s.desk := by
    simp [State.desk, State.targetTaken, State.withTargets]
  rw [createTarget_eq]
  dsimp only
  rw [desk_startBuild]
  exact desk_ite ((desk_mark _ _).trans maps) maps

theorem desk_removeTarget (s : State) (k : Nat) (x : Target) : (s.removeTarget k x).desk = s.desk := by
  have maps : ((s.targetGone k x).freeMaps k).desk = s.desk := by simp [State.desk, State.targetGone, State.withTargets]
  rw [removeTarget_eq, desk_startBuild, State.targetFreed]
  exact desk_ite ((desk_mark _ _).trans maps) maps

theorem desk_targetAmended (s : State) (k : Nat) (old new : Target) : (s.targetAmended k old new).desk = s.desk := by
  have moved : (s.targetMoved k old new).desk = s.desk := by rw [targetMoved_eq, desk_reanchor]; rfl
  have rerouted : ∀ (u : State) (hurried moved : Bool), (u.targetRerouted k hurried moved).desk = u.desk := fun u _ _ => by
    have hurry : ∀ v : State, (v.hurryTarget k).desk = v.desk := fun v => by simp [State.desk]
    have anchor : ∀ v : State, (v.anchorMoved k).desk = v.desk := fun v => by simp [State.desk]
    rw [State.targetRerouted]
    exact desk_ite ((anchor _).trans (desk_ite (hurry u) rfl)) (desk_ite (hurry u) rfl)
  rw [State.targetAmended, State.judgedIf]
  exact desk_ite ((desk_judgeOver _ _).trans ((rerouted _ _ _).trans moved)) ((rerouted _ _ _).trans moved)

theorem kept_facesChanged (s : State) (cs : List (Nat × Cabin)) : Kept s (s.facesChanged cs) :=
  kept_of_roll (fun h => h.facesChanged cs) (roll_facesChanged s cs)

theorem kept_amendTarget (s : State) (b : TargetBody) (given : Option (Nat × Nat)) (old : Target) :
    Kept s (s.amendTarget b given old) := by
  rw [amendTarget_eq]
  dsimp only
  refine Kept.trans (Kept.trans (kept_of_desk (desk_targetAmended s b.id old (b.amends given old))) ?_) (kept_settle _)
  exact (kept_ite (fun _ => kept_facesChanged _ _) fun _ => .refl _).trans (kept_of_desk (desk_mark _ _))

theorem kept_targetPut (b : TargetBody) (s : State) : Kept s (targetPut b s).1 := by
  rw [targetPut]
  split
  · exact .refl s
  · refine kept_reply_ite (fun _ => .refl s) fun _ => kept_reply_ite (fun _ => .refl s) fun _ => ?_
    split
    · exact .refl s
    · split
      · dsimp only
        exact kept_of_desk (desk_createTarget s b _)
      · dsimp only
        exact kept_amendTarget s b _ _

theorem desk_targetRetire (k : Nat) (s : State) : (targetRetire k s).1.desk = s.desk := by
  rw [targetRetire]
  refine desk_reply_ite rfl ?_
  split
  · rfl
  · refine desk_reply_ite rfl ?_
    dsimp only
    rw [desk_removeTarget]

theorem kept_changeBlocked (s : State) (k : Nat) (blocked : Bool) : Kept s (s.changeBlocked k blocked) := by
  have judged : ((s.reblocked k blocked).judgeOver s).desk = s.desk := by
    rw [desk_judgeOver, State.reblocked, desk_contributeAll]
    exact desk_withdrawAll s (s.movedBy k blocked)
  rw [State.changeBlocked, setBlocked_eq]
  exact ((kept_of_desk judged).trans (kept_facesChanged _ _)).trans
    (Kept.trans (kept_of_desk (desk_mark _ _)) (kept_pickAll _))

theorem kept_stationSet (blocked : Bool) (k : Nat) (s : State) : Kept s (stationSet blocked k s).1 := by
  rw [stationSet]
  refine kept_reply_ite (fun _ => .refl s) fun _ => ?_
  split
  · exact .refl s
  · split
    · exact .refl s
    · refine kept_reply_ite (fun _ => .refl s) fun _ => ?_
      dsimp only
      exact kept_changeBlocked s k blocked

/-! ### Entries and the Ship Clock -/

theorem desk_amendEntry (s : State) (slot : Nat) (old new : Entry) : (s.amendEntry slot old new).desk = s.desk := by
  rw [State.amendEntry]
  exact desk_ite rfl ((desk_mark _ _).trans (desk_ite rfl rfl))

theorem desk_moveEntries (s : State) (f : Entry → Option EntryState) : (s.moveEntries f).1.desk = s.desk := by
  refine foldl_keeps State.desk _ (fun u r => ?_) (s.entriesChangedBy f) s
  cases r.2.2 <;> rfl

theorem desk_minuteEvent (s : State) (now : Nat) : (s.minuteEvent now).1.desk = s.desk :=
  (desk_mark _ _).trans (desk_moveEntries s (s.judgement now))

theorem desk_secondPasses (s : State) : s.secondPasses.desk = s.desk := by
  rw [State.secondPasses]
  split
  · exact desk_ite (desk_minuteEvent _ _) rfl
  · rfl
  · rfl

theorem desk_eventPut (b : EntryBody) (s : State) : (eventPut b s).1.desk = s.desk := by
  rw [eventPut]
  split
  · rfl
  · refine desk_reply_ite rfl ?_
    split
    · rfl
    · refine desk_reply_ite rfl (desk_reply_ite rfl ?_)
      split
      · rfl
      · dsimp only
        rw [createEntry_eq, desk_mark]
        rfl

theorem desk_eventAmend (b : EntryAmendBody) (s : State) : (eventAmend b s).1.desk = s.desk := by
  rw [eventAmend]
  refine desk_reply_ite rfl ?_
  split
  · rfl
  · refine desk_reply_ite rfl (desk_reply_ite rfl (desk_reply_ite rfl ?_))
    dsimp only
    rw [desk_amendEntry]

theorem desk_dropEntry (s : State) (slot : Nat) (e : Entry) : (s.dropEntry slot e).desk = s.desk := desk_mark _ _

theorem desk_eventCancel (id : Nat) (s : State) : (eventCancel id s).1.desk = s.desk := by
  rw [eventCancel]
  refine desk_reply_ite rfl ?_
  split
  · rfl
  · rename_i slot e _
    cases e.state with
    | scheduled => exact desk_mark _ _
    | cancelled => rfl
    | running => exact desk_dropEntry s slot e
    | suspended => exact desk_dropEntry s slot e
    | ended => rfl

theorem desk_eventRetire (id : Nat) (s : State) : (eventRetire id s).1.desk = s.desk := by
  rw [eventRetire]
  refine desk_reply_ite rfl ?_
  split
  · rfl
  · exact desk_dropEntry s _ _

theorem desk_clockSet (b : Nat × Nat) (s : State) : (clockSet b s).1.desk = s.desk := by
  rw [clockSet]
  exact desk_reply_ite rfl (desk_minuteEvent _ b.1)

/-! ### Screens and links -/

theorem desk_createScreen (s : State) (n : Nat) (x : Screen) : (s.createScreen n x).desk = s.desk := by
  rw [createScreen_eq, desk_claimTargets]
  rfl

theorem desk_amendScreen (s : State) (n : Nat) (old new : Screen) : (s.amendScreen n old new).desk = s.desk := by
  have touched : ∀ u : State, (u.touchAmended n old new).desk = u.desk := fun u => by simp [State.desk]
  have claims : (s.moveScreenClaims old new).desk = s.desk := by
    rw [moveScreenClaims_eq, State.overrideMoved, State.retarget]
    refine desk_ite ?_ ?_ <;> simp
  rw [State.amendScreen, touched]
  exact claims

theorem desk_giveNotices (notice : Nat) (p : Policy) (l : List (Nat × Screen)) (s : State) :
    (l.foldl (State.giveNotice notice p) s).desk = s.desk :=
  foldl_keeps State.desk (State.giveNotice notice p) (fun u r => by rw [State.giveNotice, desk_amendScreen]) l s

theorem desk_removeScreen (s : State) (n : Nat) (x : Screen) : (s.removeScreen n x).desk = s.desk := by
  have gone : (((s.modLink (linkOfScreen n) fun k => (k.leaveScreen n).detachExchange n).releaseNode
      x.node).releaseTargets x.claims).desk = s.desk := by
    rw [desk_releaseTargets]
    rfl
  rw [State.removeScreen]
  exact desk_ite ((desk_judgeStandDown _).trans gone) gone

theorem desk_screenPut (b : ScreenBody) (s : State) : (screenPut b s).1.desk = s.desk := by
  rw [screenPut]
  split
  · refine desk_reply_ite rfl (desk_reply_ite rfl ?_)
    split
    · rfl
    · refine desk_reply_ite rfl (desk_reply_ite rfl ?_)
      dsimp only
      rw [desk_createScreen]
  · rfl

theorem desk_screenAmend (b : ScreenAmendBody) (s : State) : (screenAmend b s).1.desk = s.desk := by
  rw [screenAmend]
  refine desk_reply_ite rfl ?_
  split
  · rfl
  · dsimp only
    split
    · rfl
    · refine desk_reply_ite rfl (desk_reply_ite rfl ?_)
      split
      · rfl
      · refine desk_reply_ite rfl ?_
        dsimp only
        rw [desk_amendScreen]

theorem desk_screenRetire (b : Nat × Nat) (s : State) : (screenRetire b s).1.desk = s.desk := by
  rw [screenRetire]
  split
  · rfl
  · dsimp only
    split
    · rfl
    · dsimp only
      rw [desk_removeScreen]

theorem desk_noticeSet (b : NoticeSetBody) (s : State) : (noticeSet b s).1.desk = s.desk := by
  rw [noticeSet]
  split
  · exact desk_reply_ite rfl (desk_giveNotices _ _ _ s)
  · rfl

@[simp] theorem desk_nextPeriod (s : State) (l : Fin 4) : (s.nextPeriod l).desk = s.desk := by simp [State.desk]

@[simp] theorem desk_runLink (s : State) (l : Fin 4) : (s.runLink l).desk = s.desk := by simp [State.desk]

@[simp] theorem desk_answered (s : State) (n : Nat) : (s.answered n).desk = s.desk := by simp [State.desk]

@[simp] theorem desk_rejoin (s : State) (n : Nat) (p : Packet) : (s.rejoin n p).desk = s.desk := by simp [State.desk]

@[simp] theorem desk_takeAccept (s : State) (n : Nat) (p : Packet) : (s.takeAccept n p).desk = s.desk := by
  simp [State.desk]

@[simp] theorem desk_takeDescriptor (s : State) (n : Nat) (d : Descriptor) : (s.takeDescriptor n d).desk = s.desk := by
  simp [State.desk]

@[simp] theorem desk_descriptorFlag (s : State) (n : Nat) (b : Byte) : (s.descriptorFlag n b).desk = s.desk := by
  simp [State.desk]

@[simp] theorem desk_takeMiss (s : State) (n : Nat) (p : Packet) : (s.takeMiss n p).desk = s.desk := by
  simp [State.desk]

theorem desk_endExchange (s : State) (l : Fin 4) (effect : State → Nat → Packet → State)
    (keeps : ∀ u n p, (effect u n p).desk = u.desk) : (s.endExchange l effect).desk = s.desk := by
  rw [State.endExchange]
  split
  · rfl
  · rw [desk_runLink]
    exact desk_ite rfl (keeps _ _ _)

theorem desk_tellMuster {s before : State} (h : s.desk = before.desk) : (s.tellMuster before).desk = before.desk :=
  desk_ite ((desk_judgeStandDown s).trans h) h

theorem desk_acceptArrives (s : State) (l : Fin 4) (address flags slot : Byte) (gen : Word16) :
    (s.acceptArrives l address flags slot gen).desk = s.desk :=
  desk_endExchange s l _ fun u n p => (desk_descriptorFlag _ _ _).trans (desk_ite (by simp) (by simp))

theorem desk_rejectArrives (s : State) (l : Fin 4) (flags : Byte) : (s.rejectArrives l flags).desk = s.desk :=
  desk_endExchange s l _ fun u n p => by simp

theorem desk_descriptorArrives (s : State) (l : Fin 4) (address flags lines : Byte) (rendered : Word16) (cls : Byte) :
    (s.descriptorArrives l address flags lines rendered cls).desk = s.desk :=
  desk_endExchange s l _ fun u n p => by
    dsimp only
    rw [desk_descriptorFlag]
    split
    · simp
    · exact desk_ite (by simp) (by simp)

theorem desk_missArrives (s : State) (l : Fin 4) : (s.missArrives l).desk = s.desk :=
  desk_endExchange s l _ desk_takeMiss

/-! ### Builds -/

theorem desk_completeBuild (s : State) (b : Build) : (s.completeBuild b).desk = s.desk := by
  have started : ((((s.modMap b.map fun r => r.built (s.buildResult b.map) b.gen).grounded).mark
      (((s.modMap b.map fun r => r.built (s.buildResult b.map) b.gen).grounded).mapCauses b.map)).startBuild).desk =
      s.desk := by
    rw [desk_startBuild, desk_mark]
    rfl
  rw [completeBuild_eq]
  exact desk_ite started started

end Sys2Proof.Machine
end

section
/-! Every command keeps the plates and the trunks in order, and the service list and the indexes right (R59, R69, R71,
R85 to R89, R101, R105). -/

namespace Sys2Proof.Machine

/-! ### Settings (R184) -/

theorem kept_switchTrunk (s : State) (i : Fin 16) (on : Bool) : Kept s (s.switchTrunk i on) :=
  kept_of_roll (fun h => h.switchTrunk i on) (roll_switchTrunk s i on)

theorem desk_switchLink (s : State) (l : Fin 4) (on : Bool) : (s.switchLink l on).desk = s.desk := by
  rw [State.switchLink]
  exact desk_ite rfl (desk_ite (by simp [State.desk]) (by simp [State.desk]))

theorem kept_applySetting (s : State) (code value : Nat) : Kept s (s.applySetting code value) := by
  unfold State.applySetting
  split
  · exact kept_of_desk (foldl_keeps State.desk _ (fun u l => desk_switchLink u l _) _ s)
  · exact kept_of_desk rfl
  · exact kept_of_desk rfl
  · exact kept_of_desk rfl
  · exact kept_of_desk rfl
  · exact kept_foldl (fun u i => kept_switchTrunk u i _) _ s
  · exact kept_of_roll (fun h => h.setSurveyPeriod value) rfl
  · exact kept_of_roll (fun h => h.setHoldLimit value) rfl
  · exact kept_of_desk rfl
  · exact kept_of_desk (desk_mark _ _)
  · exact kept_of_desk rfl
  · exact kept_of_desk rfl
  · exact .refl s

theorem kept_configure (s : State) (changes : List (Nat × Nat)) : Kept s (s.configure changes) := by
  have applied : ∀ u : State, Kept u (applyOrder.foldl (fun s c =>
      match changes.find? fun r => decide (r.1 = c) with
      | none => s
      | some r => s.applySetting c r.2) u) := by
    refine kept_foldl (fun u c => ?_) applyOrder
    split
    · exact .refl u
    · exact kept_applySetting u c _
  have picked := (applied s).trans (kept_pickAll _)
  exact kept_ite (fun _ => picked.trans (kept_of_desk (desk_judgeStandDown _))) fun _ => picked

theorem kept_configSet (b : ConfigBody) (s : State) : Kept s (configSet b s).1 := by
  rw [configSet]
  split
  · exact .refl s
  · refine kept_reply_ite (fun _ => .refl s) fun _ => ?_
    dsimp only
    exact kept_configure s _

/-! ### Transitions of the muster state -/

theorem kept_cabinsTakeTransition (s : State) (old : MusterState) : Kept s (s.cabinsTakeTransition old) := by
  rw [State.cabinsTakeTransition]
  refine kept_ite (fun _ => kept_of_roll (fun h => h.of_views ?_ rfl) (roll_clearSweeps s)) fun _ => .refl s
  exact Table.view_mapAll Cabin.plating (fun x => { x with swept := false, sweptBy := none }) _ fun _ => by rfl

theorem desk_graphTakesTransition (s : State) (old : MusterState) : (s.graphTakesTransition old).desk = s.desk := by
  simp [State.desk]

theorem desk_programmeTakesTransition (s : State) (old : MusterState) :
    (s.programmeTakesTransition old).1.desk = s.desk := by
  rw [State.programmeTakesTransition]
  split
  · exact desk_moveEntries _ _
  · split
    · exact desk_moveEntries _ _
    · rfl

theorem kept_transition (s : State) (new : MusterState) (cause : LastCause) : Kept s (s.transition new cause) := by
  have entered : Kept s (({ s with muster := s.muster.enter new cause } : State).raiseNotice .musterChange) :=
    kept_of_desk rfl
  have taken : Kept s (s.transitionTaken new cause).1 :=
    ((entered.trans (kept_of_desk (desk_graphTakesTransition _ _))).trans (kept_cabinsTakeTransition _ _)).trans
      (kept_of_desk (desk_programmeTakesTransition _ _))
  rw [transition_eq]
  exact ((taken.trans (kept_of_desk (desk_mark _ _))).trans (kept_settle _)).trans
    (kept_of_desk (desk_judgeStandDown _))

theorem kept_musterStart (kind : Nat) (s : State) : Kept s (musterStart kind s).1 := by
  have starts : ∀ new, Kept s (s.startMuster new).1 := fun new => by
    rw [State.startMuster]
    dsimp only
    exact kept_transition s new .request
  unfold musterStart
  split
  · exact starts _
  · exact starts _
  · exact starts _
  · exact .refl s
  · exact starts _
  · exact starts _
  · exact starts _
  · exact .refl s
  · exact .refl s

theorem kept_musterEnd (b : Unit) (s : State) : Kept s (musterEnd b s).1 := by
  have ends : Kept s s.endMuster.1 := by
    rw [State.endMuster]
    refine kept_reply_ite (fun _ => .refl s) fun _ => ?_
    dsimp only
    exact kept_transition s _ _
  rw [musterEnd]
  split
  · exact .refl s
  · exact ends
  · exact ends
  · exact .refl s

theorem kept_completeStandDown (s : State) : Kept s s.completeStandDown := by
  have taken : Kept s { s with muster := { s.muster with completion := false } } := kept_of_desk rfl
  rw [State.completeStandDown]
  dsimp only
  split
  · exact taken.trans (kept_transition _ _ _)
  · exact taken

theorem kept_filterExpires (s : State) : Kept s s.filterExpires := by
  have taken : Kept s { s with muster := { s.muster with asserted := s.muster.rawLow, filterTimer := stopped } } :=
    kept_of_desk rfl
  rw [State.filterExpires]
  dsimp only
  split
  · split
    · exact taken.trans (kept_transition _ _ _)
    · exact taken.trans (kept_transition _ _ _)
    · exact taken.trans (kept_transition _ _ _)
    · exact taken
  · exact taken

/-! ### Restarts and resets -/

theorem desk_restartScreens (s : State) : s.restartScreens.desk = s.desk := by
  refine (foldl_keeps State.desk _ (fun u l => ?_) allLinks s.screensAfresh).trans rfl
  exact desk_ite (by simp [State.desk]) rfl

theorem desk_recountTallies (s : State) : s.recountTallies.desk = s.desk := by
  simp [State.desk, State.recountTallies, State.recountTargets]

theorem desk_restartMaps (s : State) : s.restartMaps.desk = s.desk := by
  obtain ⟨_, _, cabin, _⟩ := restartMaps_keeps s
  have plate : s.restartMaps.plate = s.plate := by
    rw [State.restartMaps]
    exact foldl_keeps (fun u : State => u.plate) _ (fun u m => by simp) _ _
  rw [State.desk, cabin, plate, State.desk]

theorem kept_warmRestart (s : State) : Kept s s.warmRestart := by
  have recounted : (s.recountGraph.recountTallies).restartMaps.desk = s.desk := by
    rw [desk_restartMaps, desk_recountTallies]
    rfl
  have filled : ∀ u : State, Kept u u.restartTrunks.refillPlateQueues := fun u =>
    kept_of_roll Plated.restarted (roll_refillPlateQueues _)
  rw [State.warmRestart]
  refine ((kept_of_desk recounted).trans (filled _)).trans (kept_of_desk ?_)
  generalize State.refillPlateQueues _ = u
  rw [desk_judgeStandDown, desk_startBuild]
  exact desk_restartScreens u.restartClock

theorem plated_resetWith (s : State) (cause : ResetCause) : Plated nobody (s.resetWith cause) := by
  have trunk := trunk_resetWith s cause
  have cabin : (s.resetWith cause).cabin = State.reset.cabin := rfl
  have inbound : (s.resetWith cause).plate.inbound = [] := rfl
  have dead : ∀ c, (s.resetWith cause).cabinAt c = none := fun c => by
    rw [State.cabinAt, cabin]
    rfl
  have reserved : (s.resetWith cause).reserved = 0 := by
    rw [reserved_eq]
    refine Nat.mul_eq_zero.mpr (.inr (Finset.sum_eq_zero fun i _ => ?_))
    rw [trunk]
    rfl
  refine ⟨by rw [cabin]; rfl, fun c x live => ?_, fun i c => ?_, fun i => ?_, ?_⟩
  · rw [dead] at live
    cases live
  · rw [trunk, State.awaits, dead]
    rfl
  · rw [trunk]
    exact trunkOk_off rfl rfl rfl rfl rfl rfl rfl
  · rw [State.held, inbound, reserved]
    exact Nat.zero_le 64

theorem kept_resetWith (s : State) (cause : ResetCause) : Kept s (s.resetWith cause) := by
  obtain ⟨_, _, _, _, _, _, cabins, _⟩ := resetMeetsTheInvariants
  refine ⟨fun _ => plated_resetWith s cause, fun _ => Listed.of_roll (s := State.reset) ⟨rfl, cabins⟩ ?_⟩
  exact roll_of_cabin rfl

end Sys2Proof.Machine
end

section
/-! The events of the trunks, every command, and the obligation on plates, trunks and cabins. -/

namespace Sys2Proof.Machine

/-! ### Requests -/

theorem desk_beginRequest (s : State) : s.beginRequest.desk = s.desk := rfl

theorem desk_placeAnswer (s : State) (tag : Byte) (r : Reply) : (s.placeAnswer tag r).desk = s.desk := rfl

theorem desk_withPending (s : State) (cs : List Instr) : (s.withPending cs).desk = s.desk := rfl

theorem kept_judgeRequest {α : Type} {op : Owner α} (keeps : ∀ b s, Kept s (op b s).1) (parsed : Option α)
    (changing : Bool) (s : State) : Kept s (judgeRequest parsed changing op s).1 := by
  cases parsed with
  | none => exact .refl s
  | some b =>
    rw [judgeRequest, handOver]
    exact kept_reply_ite (fun _ => .refl s) fun _ => keeps b s

theorem kept_serve {α : Type} {op : Owner α} (keeps : ∀ b s, Kept s (op b s).1) (tag : Byte) (parsed : Option α)
    (changing : Bool) (s : State) : Kept s (serve tag parsed changing op s) :=
  ((kept_of_desk (desk_beginRequest s)).trans (kept_judgeRequest keeps parsed changing _)).trans
    (kept_of_desk (desk_placeAnswer _ _ _))

theorem kept_of_owner {α : Type} {op : Owner α} (keeps : ∀ b (s : State), (op b s).1.desk = s.desk) (b : α) (s : State) :
    Kept s (op b s).1 := kept_of_desk (keeps b s)

theorem kept_putRecord (t : TableName) (body : List Byte) (s : State) : Kept s (putRecord t body s).1 := by
  cases t with
  | node => exact kept_judgeRequest (kept_of_owner desk_nodePut) _ _ s
  | edge => exact kept_judgeRequest (kept_of_owner desk_edgePut) _ _ s
  | target => exact kept_judgeRequest kept_targetPut _ _ s
  | cabin => exact kept_judgeRequest kept_cabinPut _ _ s
  | entry => exact kept_judgeRequest (kept_of_owner desk_eventPut) _ _ s
  | screen => exact kept_judgeRequest (kept_of_owner desk_screenPut) _ _ s

theorem kept_loadRecord (body : List Byte) (s : State) : Kept s (loadRecord body s).1 := by
  rw [loadRecord]
  split
  · exact .refl s
  · exact (kept_putRecord _ body s).trans (kept_of_desk (desk_ite rfl rfl))

theorem desk_noticeClear (n : Nat) (s : State) : (noticeClear n s).1.desk = s.desk := desk_reply_ite rfl rfl

theorem desk_cursorSet (b : Nat × Nat) (s : State) : (cursorSet b s).1.desk = s.desk := by
  rw [cursorSet]
  split
  · rfl
  · exact desk_reply_ite rfl rfl

theorem desk_readNext (b : Unit) (s : State) : (readNext b s).1.desk = s.desk := by
  rw [readNext]
  split <;> rfl

theorem desk_loadBegin (b : Nat × Nat) (s : State) : (loadBegin b s).1.desk = s.desk := by
  rw [loadBegin]
  split
  · rfl
  · exact desk_reply_ite rfl rfl

theorem desk_loadAbort (b : Unit) (s : State) : (loadAbort b s).1.desk = s.desk := by
  rw [loadAbort]
  split <;> rfl

theorem kept_restartRequest (s : State) (tag : Byte) (body : List Byte) : Kept s (s.restartRequest tag body) := by
  rw [State.restartRequest]
  split
  · exact (kept_of_desk (desk_beginRequest s)).trans (kept_warmRestart _)
  · exact kept_serve (fun _ u => .refl u) _ _ _ s

/-! ### The events of the trunks -/

/-- A trunk moves without a change of its jobs. -/
theorem kept_trunkSteps {s : State} {i : Fin 16} {f : Trunk → Trunk} (jobs : (s.trunk i).SameJobs (f (s.trunk i)))
    (ok : TrunkOk (s.trunk i) → TrunkOk (f (s.trunk i))) : Kept s (s.modTrunk i f) :=
  kept_of_roll (fun h => h.trunkSteps i jobs (ok (h.trunks i))) rfl

theorem kept_surveyFalls (s : State) (i : Fin 16) (runs : (s.trunk i).surveyTimer.isSome = true) :
    Kept s (s.modTrunk i Trunk.surveyFalls) :=
  kept_trunkSteps ⟨rfl, rfl, rfl⟩ fun ok => trunkOk_surveyStarts ok runs

/-- What a hold leaves of a trunk's jobs. -/
theorem held_jobs (t : Trunk) (accepted : Bool) :
    (∀ c, (t.held accepted).places c = t.places c) ∧ (t.held accepted).surveying = t.surveying := by
  have jobs : (∀ c, (t.held accepted).writing c = t.writing c) ∧ (t.held accepted).surveying = t.surveying := by
    simp only [Trunk.writing, Trunk.surveying, Trunk.held, Trunk.retime]
    cases t.work with
    | none => exact ⟨fun _ => rfl, rfl⟩
    | some w => cases w <;> exact ⟨fun _ => rfl, rfl⟩
  refine ⟨fun c => ?_, jobs.2⟩
  rw [Trunk.places, jobs.1]
  rfl

theorem kept_held {s : State} {i : Fin 16} (talking : (s.trunk i).state = .talking) (accepted : Bool) :
    Kept s (s.modTrunk i fun t => t.held accepted) := by
  obtain ⟨places, surveying⟩ := held_jobs (s.trunk i) accepted
  refine kept_of_roll (fun h => ?_) rfl
  refine h.trunkMoved i (fun c => by rw [places, h.places]) (fun _ _ _ _ => rfl) (trunkOk_held (h.trunks i) talking accepted)
    fun now => .inl (by rwa [surveying] at now)

theorem kept_guardExpires {s : State} {i : Fin 16} (guards : (s.trunk i).state.guards = true) :
    Kept s (s.modTrunk i fun t => t.goTo .idle) := by
  refine kept_trunkSteps (sameJobs_goTo _ _) fun ok => ?_
  have quiet : (s.trunk i).enabled = true ∧ (s.trunk i).work = none := by
    rcases (guards_iff _).mp guards with e | e <;> exact ok.quiet (by simp [e]) (by simp [e]) (by simp [e])
  exact trunkOk_rests _ quiet.1 quiet.2 (ok.steady.survey.trans quiet.1) (.inr (.inl rfl))

theorem kept_stuckExpires {s : State} {i : Fin 16} (watches : (s.trunk i).state.watches = true)
    (runs : (s.trunk i).stuckTimer.isSome = true) : Kept s (s.modTrunk i fun t => t.goTo .fault) := by
  refine kept_trunkSteps (sameJobs_goTo _ _) fun ok => ?_
  have quiet : (s.trunk i).enabled = true ∧ (s.trunk i).work = none := by
    rcases (watches_iff _).mp watches with e | e | e | e <;> exact ok.quiet (by simp [e]) (by simp [e]) (by simp [e])
  obtain ⟨on, work⟩ := quiet
  exact trunkOk_goTo (by simp [on]) (by simp [work]) ok.steady.survey (by decide) (by simp)
    fun _ => (ok.stuck.mp runs).2

theorem kept_wireChange (s : State) (i : Fin 16) (c d : Trunk → Bool) :
    Kept s (s.modTrunk i fun t => t.wireChange (c t) (d t)) :=
  kept_trunkSteps (sameJobs_wireChange _ _ _) fun ok => trunkOk_wireChange ok _ _

/-- Both wires of a trunk in RECOVERING or FAULT are sensed high (R87, R88). -/
theorem kept_wiresHigh {s : State} {i : Fin 16} (low : (s.trunk i).state = .recovering ∨ (s.trunk i).state = .fault) :
    Kept s (s.modTrunk i fun t => (t.wires true true).wiresSeen) := by
  refine kept_trunkSteps ((sameJobs_wires _ _ _).trans (sameJobs_wiresSeen _)) fun ok => ?_
  rcases low with e | e <;> exact trunkOk_wiresSeen ok (by simp [e]) (by simp [e]) (by simp [e]) true true

theorem kept_endWrite (s : State) (i : Fin 16) {effect : State → Nat → Face → State}
    (plated : ∀ {u : State} {c : Nat} {x : Cabin} (face : Face), Plated (also nobody c) u → u.cabinAt c = some x →
      x.plateState = .pending → Plated nobody (effect u c face))
    (roll : ∀ u c face, (effect u c face).roll = u.roll) : Kept s (s.endWrite i effect) :=
  kept_of_roll (fun h => h.endWrite i plated) (roll_endWrite s i roll)

/-! ### Every command -/

/-- Whatever state a command leads to keeps what is kept. -/
def KeptBy (s : State) (o : Host.Outcome State Fault Refusal) : Prop := ∀ t, o = .next t → Kept s t

theorem keptBy_next {s t : State} (h : Kept s t) : KeptBy s (.next t) := fun _ go => by
  cases go
  exact h

theorem request_kept {α : Type} {op : Owner α} (keeps : ∀ b s, Kept s (op b s).1) (tag : Byte) (parsed : Option α)
    (changing : Bool) (s : State) : KeptBy s (.next (serve tag parsed changing op s)) :=
  keptBy_next (kept_serve keeps tag parsed changing s)

theorem reading_kept {α : Type} (f : α → State → Reply) (tag : Byte) (parsed : Option α) (changing : Bool) (s : State) :
    KeptBy s (.next (serve tag parsed changing (reading f) s)) := request_kept (fun _ u => .refl u) _ _ _ s

theorem aside_kept {s t : State} (h : t.desk = s.desk) : KeptBy s (.next t) := keptBy_next (kept_of_desk h)

theorem badFrame_kept (s : State) (bytes : List Byte) : KeptBy s (execBadFrame bytes s) := by
  refine aside_kept ?_
  split
  · rfl
  · split <;> rfl

theorem unknownRequest_kept (s : State) (tag code : Byte) : KeptBy s (execUnknownRequest tag code s) := by
  refine aside_kept ?_
  split <;> rfl

theorem alarmInFilterExpiry_kept (s : State) : KeptBy s (execAlarmInFilterExpiry s) := by
  refine keptBy_next ?_
  split
  · exact .refl s
  · exact kept_filterExpires s

theorem drillTimerExpiry_kept (s : State) : KeptBy s (execDrillTimerExpiry s) := by
  refine keptBy_next ?_
  split
  · exact kept_transition s _ _
  · exact .refl s
  · exact .refl s
  · exact .refl s
  · exact .refl s

theorem entryCountTimerExpiry_kept (s : State) : KeptBy s (execEntryCountTimerExpiry s) := by
  refine aside_kept ?_
  split <;> rfl

theorem standDownCompletion_kept (s : State) : KeptBy s (execStandDownCompletion s) :=
  keptBy_next (kept_ite (fun _ => kept_completeStandDown s) fun _ => .refl s)

theorem buildCompletion_kept (s : State) : KeptBy s (execBuildCompletion s) := by
  refine aside_kept ?_
  split
  · rfl
  · exact desk_completeBuild s _

theorem surveyTimerExpiry_kept (s : State) (i : Fin 16) : KeptBy s (execSurveyTimerExpiry i s) := by
  refine keptBy_next ?_
  split
  · exact .refl s
  · exact (kept_surveyFalls s i (by simp [*])).trans (kept_pickAll _)

theorem broadcastCompletion_kept (s : State) (i : Fin 16) : KeptBy s (execBroadcastCompletion i s) := by
  refine keptBy_next ?_
  split
  · rename_i m sends
    have done : Kept s (s.modTrunk i fun t => t.broadcastDone m).pickAll :=
      Kept.trans (kept_of_roll (fun h => h.broadcastDone sends) rfl) (kept_pickAll _)
    exact kept_ite (fun _ => done.trans (kept_of_desk (desk_judgeStandDown _))) fun _ => done
  · exact .refl s
  · exact .refl s
  · exact .refl s

theorem surveyStepEnd_kept (s : State) (i : Fin 16) (how : SurveyEnd) : KeptBy s (execSurveyStepEnd i how s) := by
  refine keptBy_next ?_
  split
  · rename_i sends
    exact Kept.trans (kept_of_roll (fun h => h.endSurveyStep sends how) (roll_endSurveyStep _ _ _ _ _)) (kept_pickAll _)
  · exact .refl s
  · exact .refl s
  · exact .refl s

theorem periodTimerExpiry_kept (s : State) (l : Fin 4) : KeptBy s (execPeriodTimerExpiry l s) := by
  refine aside_kept ?_
  split
  · rfl
  · exact desk_nextPeriod s l

theorem privacy_kept (s : State) : KeptBy s (execPrivacy s) := by
  refine keptBy_next ?_
  split
  · rename_i list
    exact kept_consume (by simp [State.held, list]) (kept_takePrivacy _)
  · exact .refl s

theorem serviceCall_kept (s : State) : KeptBy s (execServiceCall s) := by
  refine keptBy_next ?_
  split
  · rename_i list
    exact kept_consume (by simp [State.held, list]) kept_takeServiceCall
  · exact .refl s

theorem sweepClear_kept (s : State) : KeptBy s (execSweepClear s) := by
  refine keptBy_next ?_
  split
  · rename_i list
    exact kept_consume (by simp only [State.held, list, List.length_cons]; omega) fun _ => kept_takeSweep _ _ _ _
  · exact .refl s

theorem toolWrite_kept (s : State) : KeptBy s (execToolWrite s) := by
  refine keptBy_next ?_
  split
  · rename_i list
    exact kept_consume (by simp [State.held, list]) kept_takeToolWrite
  · exact .refl s

theorem holdTimerExpiry_kept (s : State) (i : Fin 16) : KeptBy s (execHoldTimerExpiry i s) :=
  keptBy_next (kept_ite (fun held => Kept.trans (kept_of_roll (fun h => h.holdExpires held.1) (roll_holdExpires s i))
    (kept_pickAll _)) fun _ => .refl s)

theorem idleGuardExpiry_kept (s : State) (i : Fin 16) : KeptBy s (execIdleGuardExpiry i s) :=
  keptBy_next (kept_ite (fun ends => (kept_guardExpires ends.1).trans (kept_pickAll _)) fun _ => .refl s)

theorem stuckTimerExpiry_kept (s : State) (i : Fin 16) : KeptBy s (execStuckTimerExpiry i s) :=
  keptBy_next (kept_ite (fun ends => (kept_stuckExpires ends.1 ends.2).trans
    (kept_of_desk (desk_judgeStandDown (State.raiseNotice _ _)))) fun _ => .refl s)

theorem hold_kept (s : State) (i : Fin 16) (accepted : Bool) : KeptBy s (execHold i accepted s) :=
  keptBy_next (kept_ite (fun talking => kept_held talking accepted) fun _ => .refl s)

theorem holdRelease_kept (s : State) (i : Fin 16) : KeptBy s (execHoldRelease i s) :=
  keptBy_next (kept_ite (fun held => kept_trunkSteps ((sameJobs_wires _ _ _).trans (sameJobs_goTo _ _))
    fun ok => trunkOk_released ok held) fun _ => (kept_wireChange s i (fun _ => true) Trunk.dataHigh).trans (kept_pickAll _))

theorem arbitrationLoss_kept (s : State) (i : Fin 16) (accepted : Bool) : KeptBy s (execArbitrationLoss i accepted s) :=
  keptBy_next (kept_ite (fun talking => Kept.trans (kept_of_roll (fun h => h.loses talking accepted)
    (roll_loses s i accepted)) (kept_pickAll _)) fun _ => .refl s)

theorem exec_kept (i : Instr) (s : State) : KeptBy s (exec i s) := by
  cases i with
  | identify tag body => exact reading_kept _ _ _ _ s
  | portStatus tag body => exact reading_kept _ _ _ _ s
  | configGet tag body => exact reading_kept _ _ _ _ s
  | configSet tag body => exact request_kept kept_configSet _ _ _ s
  | noticeClear tag body => exact request_kept (kept_of_owner desk_noticeClear) _ _ _ s
  | restart tag body => exact keptBy_next (kept_restartRequest s tag body)
  | cursorSet tag body => exact request_kept (kept_of_owner desk_cursorSet) _ _ _ s
  | readNext tag body => exact request_kept (kept_of_owner desk_readNext) _ _ _ s
  | loadBegin tag body => exact request_kept (kept_of_owner desk_loadBegin) _ _ _ s
  | loadRecord tag body => exact request_kept kept_loadRecord _ _ _ s
  | loadAbort tag body => exact request_kept (kept_of_owner desk_loadAbort) _ _ _ s
  | nodePut tag body => exact request_kept (kept_of_owner desk_nodePut) _ _ _ s
  | nodeRetire tag body => exact request_kept (kept_of_owner desk_nodeRetire) _ _ _ s
  | nodeGet tag body => exact reading_kept _ _ _ _ s
  | edgePut tag body => exact request_kept (kept_of_owner desk_edgePut) _ _ _ s
  | edgeSetPass tag body => exact request_kept (kept_of_owner desk_edgeSetPass) _ _ _ s
  | edgeRetire tag body => exact request_kept (kept_of_owner desk_edgeRetire) _ _ _ s
  | edgeGet tag body => exact reading_kept _ _ _ _ s
  | routeAsk tag body => exact reading_kept _ _ _ _ s
  | targetPut tag body => exact request_kept kept_targetPut _ _ _ s
  | targetRetire tag body => exact request_kept (kept_of_owner desk_targetRetire) _ _ _ s
  | targetGet tag body => exact reading_kept _ _ _ _ s
  | stationBlock tag body => exact request_kept (kept_stationSet true) _ _ _ s
  | stationUnblock tag body => exact request_kept (kept_stationSet false) _ _ _ s
  | cabinPut tag body => exact request_kept kept_cabinPut _ _ _ s
  | cabinAmend tag body => exact request_kept kept_cabinAmend _ _ _ s
  | cabinRetire tag body => exact request_kept kept_cabinRetire _ _ _ s
  | cabinGet tag body => exact reading_kept _ _ _ _ s
  | plateRetry tag body => exact request_kept kept_plateRetry _ _ _ s
  | serviceTake tag body => exact request_kept kept_serviceTake _ _ _ s
  | trunkGet tag body => exact reading_kept _ _ _ _ s
  | eventPut tag body => exact request_kept (kept_of_owner desk_eventPut) _ _ _ s
  | eventAmend tag body => exact request_kept (kept_of_owner desk_eventAmend) _ _ _ s
  | eventCancel tag body => exact request_kept (kept_of_owner desk_eventCancel) _ _ _ s
  | eventRetire tag body => exact request_kept (kept_of_owner desk_eventRetire) _ _ _ s
  | eventGet tag body => exact reading_kept _ _ _ _ s
  | clockSet tag body => exact request_kept (kept_of_owner desk_clockSet) _ _ _ s
  | clockGet tag body => exact reading_kept _ _ _ _ s
  | screenPut tag body => exact request_kept (kept_of_owner desk_screenPut) _ _ _ s
  | screenAmend tag body => exact request_kept (kept_of_owner desk_screenAmend) _ _ _ s
  | screenRetire tag body => exact request_kept (kept_of_owner desk_screenRetire) _ _ _ s
  | screenGet tag body => exact reading_kept _ _ _ _ s
  | noticeSet tag body => exact request_kept (kept_of_owner desk_noticeSet) _ _ _ s
  | musterStart tag body => exact request_kept kept_musterStart _ _ _ s
  | musterEnd tag body => exact request_kept kept_musterEnd _ _ _ s
  | musterStatus tag body => exact reading_kept _ _ _ _ s
  | readAnswer x => exact aside_kept rfl
  | portOverrun => exact aside_kept rfl
  | badFrame bytes => exact badFrame_kept s bytes
  | unknownRequest tag code => exact unknownRequest_kept s tag code
  | powerOnReset => exact keptBy_next (kept_resetWith s _)
  | pinReset => exact keptBy_next (kept_resetWith s _)
  | alarmInChange low => exact aside_kept rfl
  | alarmInFilterExpiry => exact alarmInFilterExpiry_kept s
  | drillTimerExpiry => exact drillTimerExpiry_kept s
  | entryCountTimerExpiry => exact entryCountTimerExpiry_kept s
  | secondTimerExpiry => exact aside_kept (desk_secondPasses s)
  | standDownCompletion => exact standDownCompletion_kept s
  | buildCompletion => exact buildCompletion_kept s
  | surveyTimerExpiry i => exact surveyTimerExpiry_kept s i
  | holdTimerExpiry i => exact holdTimerExpiry_kept s i
  | idleGuardExpiry i => exact idleGuardExpiry_kept s i
  | stuckTimerExpiry i => exact stuckTimerExpiry_kept s i
  | otherTalkerOpen i => exact keptBy_next (kept_trunkSteps (sameJobs_otherOpen _) trunkOk_otherOpen)
  | otherTalkerClose i =>
    exact keptBy_next ((kept_trunkSteps (sameJobs_otherClose _) trunkOk_otherClose).trans (kept_pickAll _))
  | hold i a => exact hold_kept s i a
  | holdRelease i => exact holdRelease_kept s i
  | arbitrationLoss i a => exact arbitrationLoss_kept s i a
  | recoveringWiresHigh i => exact keptBy_next (kept_ite (fun state => kept_wiresHigh (.inl state)) fun _ => .refl s)
  | faultWiresHigh i => exact keptBy_next (kept_ite (fun state => kept_wiresHigh (.inr state)) fun _ => .refl s)
  | writeCompletion i =>
    exact keptBy_next (kept_endWrite s i (fun face h live pending => h.writeDone live pending face.gen)
      fun u c face => roll_writeDone u c face.gen)
  | writeRefused i =>
    exact keptBy_next (kept_endWrite s i (fun _ h live pending => h.writeFailed live pending)
      fun u c _ => roll_writeFailed u c)
  | broadcastCompletion i => exact broadcastCompletion_kept s i
  | surveyStepEnd i how => exact surveyStepEnd_kept s i how
  | privacy => exact privacy_kept s
  | serviceCall => exact serviceCall_kept s
  | sweepClear => exact sweepClear_kept s
  | toolWrite => exact toolWrite_kept s
  | periodTimerExpiry l => exact periodTimerExpiry_kept s l
  | accept l address flags slot gen => exact aside_kept (desk_tellMuster (desk_acceptArrives s l address flags slot gen))
  | reject l address flags slot gen => exact aside_kept (desk_rejectArrives s l flags)
  | descriptor l address flags lines languages panelClass =>
    exact aside_kept (desk_descriptorArrives s l address flags lines languages panelClass)
  | corruptAnswer l => exact aside_kept (desk_tellMuster (desk_missArrives s l))
  | answerWindowExpiry l => exact aside_kept (desk_ite (desk_tellMuster (desk_missArrives s l)) rfl)
  | answerLimitExpiry l => exact aside_kept (desk_ite (desk_tellMuster (desk_missArrives s l)) rfl)
  | trunkWireChange i c d => exact keptBy_next ((kept_wireChange s i (fun _ => c) fun _ => d).trans (kept_pickAll _))
  | screenAnswerBegin l => exact aside_kept (desk_ite rfl rfl)

theorem step_kept (s : State) : KeptBy s (step s) := by
  rw [step]
  split
  · exact keptBy_next (kept_of_roll Plated.tick rfl)
  · exact fun t go => (kept_of_desk (desk_withPending s _)).trans (exec_kept _ _ t go)

/-- Settles O58: plates and trunks are in order trunk by trunk (`plated_iff`), the service list and the indexes read
the cards of the cabins alone (`Listed.of_roll`), and every command keeps both. -/
theorem stepsKeepPlatesAndTrunks : Obligations.StepsKeepPlatesAndTrunks := by
  refine ⟨fun s t _ plates trunks go => ?_, fun s t tables cabins go => ?_⟩
  · exact (plated_iff t).mp ((step_kept s t go).plated ((plated_iff s).mpr ⟨plates, trunks⟩))
  · exact ((step_kept s t go).listed ⟨(sorted_of_tables tables).cabins, cabins⟩).right

end Sys2Proof.Machine
end

section
/-! A plate that is owed stands in its trunk's queue or is written, also when the trunks have picked (R69, R90). And what
an operation on cabins and plates leaves alone. -/

namespace Sys2Proof.Machine

/-! ### A cabin that waits is not passed over -/

/-- A cabin waits on a trunk, or its write is in flight and holds the trunk. -/
def Trunk.takes (t : Trunk) (c : Nat) : Prop :=
  c ∈ t.urgent ∨ c ∈ t.ordinary ∨ (t.writing c = true ∧ t.state ≠ .idle)

theorem takes_startWrite {s : State} {i : Fin 16} {c : Nat} (live : (s.cabinAt c).isSome)
    (waits : c ∈ (s.trunk i).urgent ∨ c ∈ (s.trunk i).ordinary) (d : Nat) (k : QueueClass) :
    ((s.startWrite i d k).trunk i).takes c := by
  have left : d ≠ c → c ∈ ((s.trunk i).leave d).urgent ∨ c ∈ ((s.trunk i).leave d).ordinary := fun other => by
    simpa [Trunk.leave, List.mem_filter, Ne.symm other] using waits
  rw [State.startWrite]
  cases record : s.cabinAt d with
  | none =>
    have other : d ≠ c := fun e => by rw [← e, record] at live; cases live
    dsimp only
    rw [trunk_modTrunk_same]
    exact or_assoc.mp (.inl (left other))
  | some x =>
    dsimp only
    rw [trunk_modTrunk_same]
    by_cases e : d = c
    · exact .inr (.inr ⟨(writing_write (by rw [e]; rfl) c).trans (decide_eq_true rfl), TrunkState.noConfusion⟩)
    · exact or_assoc.mp (.inl (left e))

theorem takes_pickOrdinary {s : State} {i : Fin 16} {c : Nat} (live : (s.cabinAt c).isSome)
    (waits : c ∈ (s.trunk i).urgent ∨ c ∈ (s.trunk i).ordinary) : ((s.pickOrdinary i).trunk i).takes c := by
  rw [State.pickOrdinary]
  split
  · exact or_assoc.mp (.inl waits)
  · exact takes_startWrite live waits _ _

theorem takes_pickSurvey {s : State} {i : Fin 16} {c : Nat} (live : (s.cabinAt c).isSome)
    (waits : c ∈ (s.trunk i).urgent ∨ c ∈ (s.trunk i).ordinary) : ((s.pickSurvey i).trunk i).takes c := by
  rw [State.pickSurvey]
  split
  · split
    · rw [trunk_modTrunk_same]
      exact or_assoc.mp (.inl waits)
    · exact takes_pickOrdinary live (by rw [trunk_modTrunk_same]; exact waits)
  · exact takes_pickOrdinary live waits

theorem takes_pick_same {s : State} {i : Fin 16} {c : Nat} (live : (s.cabinAt c).isSome) (takes : (s.trunk i).takes c) :
    ((s.pick i).trunk i).takes c := by
  rw [State.pick]
  split
  · rename_i free
    have waits : c ∈ (s.trunk i).urgent ∨ c ∈ (s.trunk i).ordinary := by
      rcases takes with h | h | ⟨_, busy⟩
      · exact .inl h
      · exact .inr h
      · exact absurd free.1 busy
    split
    · rw [trunk_modTrunk_same]
      exact or_assoc.mp (.inl waits)
    · split
      · exact takes_startWrite live waits _ _
      · exact takes_pickSurvey live waits
  · exact takes

theorem trunk_startWrite_other (s : State) {i j : Fin 16} (other : j ≠ i) (d : Nat) (k : QueueClass) :
    (s.startWrite i d k).trunk j = s.trunk j := by
  rw [State.startWrite]
  split <;> exact trunk_modTrunk_other _ _ _ _ other

theorem trunk_pickOrdinary_other (s : State) {i j : Fin 16} (other : j ≠ i) :
    (s.pickOrdinary i).trunk j = s.trunk j := by
  rw [State.pickOrdinary]
  split
  · rfl
  · exact trunk_startWrite_other s other _ _

/-- A pick moves one trunk alone. -/
theorem trunk_pick_other (s : State) {i j : Fin 16} (other : j ≠ i) : (s.pick i).trunk j = s.trunk j := by
  have survey : (s.pickSurvey i).trunk j = s.trunk j := by
    rw [State.pickSurvey]
    split
    · split
      · exact trunk_modTrunk_other _ _ _ _ other
      · exact (trunk_pickOrdinary_other _ other).trans (trunk_modTrunk_other _ _ _ _ other)
    · exact trunk_pickOrdinary_other s other
  rw [State.pick]
  split
  · split
    · exact trunk_modTrunk_other _ _ _ _ other
    · split
      · exact trunk_startWrite_other s other _ _
      · exact survey
  · rfl

theorem takes_pickAll {s : State} {i : Fin 16} {c : Nat} (live : (s.cabinAt c).isSome) (takes : (s.trunk i).takes c) :
    (s.pickAll.trunk i).takes c := by
  rw [State.pickAll]
  generalize allTrunks = js
  induction js generalizing s with
  | nil => exact takes
  | cons j js ih =>
    have cabin : (s.pick j).cabin = s.cabin := by simp
    refine ih (by rwa [cabinAt_of_cabin cabin]) ?_
    by_cases e : i = j
    · exact e ▸ takes_pick_same live (e ▸ takes)
    · rwa [trunk_pick_other s e]

/-- A live cabin that waits on its trunk is owed its plate when the trunks have picked. -/
theorem plateOwed_pickAll {s : State} {c : Nat} {p : PlateAddress} (live : (s.cabinAt c).isSome)
    (waits : c ∈ (s.trunk p.trunk).urgent ∨ c ∈ (s.trunk p.trunk).ordinary) : PlateOwed s.pickAll c p := by
  rcases takes_pickAll live (or_assoc.mp (.inl waits)) with h | h | ⟨h, _⟩
  · exact .inl h
  · exact .inr (.inl h)
  · exact .inr (.inr h)

/-! ### A cabin that joins its trunk -/

theorem plateJoins_eq (s : State) (t : Trunk) (joins : Bool) (c : Nat) :
    s.plateJoins t joins c = if joins then t.joinTail s.plateClassNow c else t := by
  rw [State.plateJoins, plateClassNow_eq]
  cases joins with
  | false => simp
  | true => by_cases proper : s.muster.state = .drill ∨ s.muster.state = .alarm <;> simp [proper, Trunk.joinTail]

theorem plateJoins_of_muster {s t : State} (h : t.muster = s.muster) (u : Trunk) (joins : Bool) (c : Nat) :
    t.plateJoins u joins c = s.plateJoins u joins c := by
  rw [State.plateJoins, h]
  rfl

theorem mem_plateJoins (s : State) (t : Trunk) (c : Nat) :
    c ∈ (s.plateJoins t true c).urgent ∨ c ∈ (s.plateJoins t true c).ordinary := by
  rw [plateJoins_eq, if_pos rfl]
  cases s.plateClassNow <;> simp [Trunk.joinTail]

theorem trunk_joins (s : State) {c : Nat} {x : Cabin} (live : s.cabinAt c = some x) (i : Fin 16) :
    (s.joinPlateQueue c).trunk i = s.plateJoins (s.trunk i) (onTrunk x.plate i) c := by
  rw [trunk_joinPlateQueue, plateJoins_eq, State.plateOn, live]
  rfl

theorem cabinAt_owePlate {s : State} {c : Nat} {x : Cabin} (live : s.cabinAt c = some x) (d : Nat) :
    (s.owePlate c).cabinAt d = if d = c then some x.plateOwed else s.cabinAt d := by
  have cabin : (s.owePlate c).cabin = (s.modCabin c Cabin.plateOwed).cabin := (joinPlateQueue_keeps _ c).2.2.2.1
  rw [cabinAt_of_cabin cabin, cabinAt_modCabin]
  by_cases e : d = c
  · simp [e, live]
  · simp [e]

theorem trunk_owePlate {s : State} {c : Nat} {x : Cabin} (live : s.cabinAt c = some x) (i : Fin 16) :
    (s.owePlate c).trunk i = s.plateJoins (s.trunk i) (onTrunk x.plate i) c :=
  trunk_joins (s.modCabin c Cabin.plateOwed) (x := x.plateOwed) (by simp [cabinAt_modCabin, live]) i

/-- A plate that is owed anew is owed when the trunks have picked. -/
theorem plateOwed_of_joins {s t : State} {c : Nat} {p : PlateAddress} {u : Trunk} {joins : Bool}
    (live : (t.cabinAt c).isSome) (joined : t.trunk p.trunk = s.plateJoins u joins c) (does : joins = true) :
    PlateOwed t.pickAll c p := by
  rw [does] at joined
  exact plateOwed_pickAll live (joined ▸ mem_plateJoins s u c)

/-! ### What an operation on cabins and plates leaves alone -/

/-- The state with the records of the cabins and the trunks of another. -/
def State.withDesk (s t : State) : State :=
  { s with cabin := { s.cabin with cabins := t.cabin.cabins }, plate := { s.plate with trunks := t.plate.trunks } }

/-- Of a state only the records of the cabins and the trunks differ. -/
def State.DeskOf (t s : State) : Prop := t = s.withDesk t

theorem State.DeskOf.refl (s : State) : s.DeskOf s := rfl

theorem State.DeskOf.trans {s t u : State} (h : u.DeskOf t) (g : t.DeskOf s) : u.DeskOf s :=
  Eq.trans h ((congrArg (fun v => v.withDesk u) g).trans rfl)

theorem deskOf_modCabin (s : State) (c : Nat) (f : Cabin → Cabin) : (s.modCabin c f).DeskOf s := rfl

theorem deskOf_joinPlateQueue (s : State) (c : Nat) : (s.joinPlateQueue c).DeskOf s := by
  rw [State.joinPlateQueue]
  split <;> rfl

theorem deskOf_leavePlate (s : State) (c : Nat) : (s.leavePlate c).DeskOf s := by
  rw [State.leavePlate]
  split <;> rfl

theorem deskOf_owePlate (s : State) (c : Nat) : (s.owePlate c).DeskOf s :=
  (deskOf_joinPlateQueue _ c).trans (deskOf_modCabin s c _)

theorem deskOf_raiseContent (s : State) (c : Nat) : (s.raiseContent c).DeskOf s := rfl

end Sys2Proof.Machine
end

section
/-! The reports at the head of the Inbound Report Queue, and what each makes of its cabin (R73 to R77). -/

namespace Sys2Proof.Machine

/-! ### A report leaves the queue (R73) -/

/-- The state with another Inbound Report Queue. -/
def State.withInbound (s : State) (rest : List ReportEntry) : State :=
  { s with plate := { s.plate with inbound := rest } }

/-- The state of a report once it is applied, before the trunks pick. -/
def State.reported (s : State) (p : PlateAddress) (rest : List ReportEntry) (effect : State → Nat → Cabin → State) :
    State :=
  match s.cabinByPlate p with
  | none => s.withInbound rest
  | some (c, x) => effect (s.withInbound rest) c x

theorem reported_none {s : State} {p : PlateAddress} (found : s.cabinByPlate p = none) (rest : List ReportEntry)
    (effect : State → Nat → Cabin → State) : s.reported p rest effect = s.withInbound rest := by
  rw [State.reported, found]

theorem reported_some {s : State} {p : PlateAddress} {c : Nat} {x : Cabin} (found : s.cabinByPlate p = some (c, x))
    (rest : List ReportEntry) (effect : State → Nat → Cabin → State) :
    s.reported p rest effect = effect (s.withInbound rest) c x := by
  rw [State.reported, found]

/-- What a report leaves alone, if its effect keeps a property of the state without it. -/
theorem reported_keeps {s : State} {rest : List ReportEntry} {P : State → Prop} (refl : P (s.withInbound rest))
    (p : PlateAddress) {effect : State → Nat → Cabin → State} (keeps : ∀ c x, P (effect (s.withInbound rest) c x)) :
    P (s.reported p rest effect) := by
  rw [State.reported]
  split
  · exact refl
  · exact keeps _ _

/-! ### The record of one cabin -/

/-- A live cabin's record stands where it is. -/
theorem cabinAt_self {s : State} {c : Nat} {x : Cabin} (live : s.cabinAt c = some x) (k : Nat) :
    s.cabinAt k = if k = c then some x else s.cabinAt k := by
  split
  · rename_i e
    exact e ▸ live
  · rfl

theorem cabinAt_changed {s : State} {c : Nat} {x : Cabin} (live : s.cabinAt c = some x) (f : Cabin → Cabin) (k : Nat) :
    (s.modCabin c f).cabinAt k = if k = c then some (f x) else s.cabinAt k := by
  rw [cabinAt_modCabin]
  by_cases e : k = c
  · simp [e, live]
  · simp [e]

theorem plateJoins_no (s : State) (t : Trunk) (c : Nat) : s.plateJoins t false c = t := by
  rw [plateJoins_eq]
  rfl

/-! ### PRIVACY (R74) -/

theorem deskOf_takePrivacy (v : Privacy) (s : State) (c : Nat) (x : Cabin) : (State.takePrivacy v s c x).DeskOf s := by
  rw [State.takePrivacy]
  split
  · rfl
  · refine State.DeskOf.trans (t := (s.modCabin c fun x => { x with privacy := v }).raiseContent c) ?_ rfl
    cases x.plateState with
    | current => exact deskOf_modCabin _ _ _
    | pending => rfl
    | failed => exact deskOf_owePlate _ c
    | noPlate => rfl

/-- A cabin's record once a PRIVACY report has changed it: a CURRENT plate shows the new face already, and a FAILED one
is owed it. -/
def Cabin.shows (v : Privacy) (x : Cabin) : Cabin :=
  let g := x.contentGen + 1#16
  if x.occupancy = .vacant ∨ x.privacy = v then x
  else if x.plateState = .current then { x with privacy := v, contentGen := g, deliveredGen := g }
  else if x.plateState = .failed then { x with privacy := v, contentGen := g, plateState := .pending, retries := 0 }
  else { x with privacy := v, contentGen := g }

/-- A cabin whose record changes twice, as seen from before. -/
theorem cabinAt_again {s u t : State} {c : Nat} {y z : Cabin}
    (first : ∀ k, u.cabinAt k = if k = c then some y else s.cabinAt k)
    (next : ∀ k, t.cabinAt k = if k = c then some z else u.cabinAt k) (k : Nat) :
    t.cabinAt k = if k = c then some z else s.cabinAt k := by
  by_cases e : k = c
  · rw [next, if_pos e, if_pos e]
  · rw [next, if_neg e, first, if_neg e, if_neg e]

theorem settlePrivacy_effect {s : State} {c : Nat} {x : Cabin} (live : s.cabinAt c = some x) :
    (∀ k, (s.settlePrivacy c x.plateState).cabinAt k = if k = c then some
        (if x.plateState = .current then { x with deliveredGen := x.contentGen }
         else if x.plateState = .failed then x.plateOwed else x) else s.cabinAt k) ∧
    ∀ j, (s.settlePrivacy c x.plateState).trunk j =
      s.plateJoins (s.trunk j) (decide (x.plateState = .failed) && onTrunk x.plate j) c := by
  have still : ∀ j, s.trunk j = s.plateJoins (s.trunk j) false c := fun j => (plateJoins_no s _ c).symm
  cases state : x.plateState with
  | current =>
    refine ⟨fun k => (cabinAt_changed live (fun x => { x with deliveredGen := x.contentGen }) k).trans ?_, still⟩
    rw [← state, if_pos rfl]
  | pending => exact ⟨cabinAt_self live, still⟩
  | failed => exact ⟨cabinAt_owePlate live, trunk_owePlate live⟩
  | noPlate => exact ⟨cabinAt_self live, still⟩

theorem takePrivacy_effect (v : Privacy) {s : State} {c : Nat} {x : Cabin} (live : s.cabinAt c = some x) :
    (∀ k, (State.takePrivacy v s c x).cabinAt k = if k = c then some (x.shows v) else s.cabinAt k) ∧
    ∀ j, (State.takePrivacy v s c x).trunk j = s.plateJoins (s.trunk j)
      (decide (¬(x.occupancy = .vacant ∨ x.privacy = v) ∧ x.plateState = .failed) && onTrunk x.plate j) c := by
  rw [State.takePrivacy, Cabin.shows]
  by_cases stays : x.occupancy = .vacant ∨ x.privacy = v
  · simp only [stays, if_true, not_true_eq_false, false_and, decide_false, Bool.false_and]
    exact ⟨cabinAt_self live, fun j => (plateJoins_no s _ c).symm⟩
  · let y : Cabin := { x with privacy := v, contentGen := x.contentGen + 1#16 }
    let u := (s.modCabin c fun x => { x with privacy := v }).raiseContent c
    have shown : ∀ k, u.cabinAt k = if k = c then some y else s.cabinAt k := fun k => by
      rw [← cabinAt_changed live (fun x => { x with privacy := v, contentGen := x.contentGen + 1#16 }) k]
      exact congrArg (fun w => w.cabinAt k) (modCabin_modCabin s c _ _)
    obtain ⟨records, trunks⟩ := settlePrivacy_effect (s := u) (x := y) (by rw [shown, if_pos rfl])
    simp only [stays, if_false, not_false_eq_true, true_and]
    exact ⟨cabinAt_again shown records, fun j => (trunks j).trans (plateJoins_of_muster rfl _ _ _)⟩

/-! ### TOOL_WRITE (R77) -/

theorem deskOf_takeToolWrite (s : State) (c : Nat) (x : Cabin) : (s.takeToolWrite c x).DeskOf s := by
  rw [State.takeToolWrite]
  refine State.DeskOf.trans ?_ (deskOf_raiseContent s c)
  cases x.plateState with
  | current => exact deskOf_owePlate _ c
  | failed => exact deskOf_owePlate _ c
  | pending => exact deskOf_modCabin _ _ _
  | noPlate => rfl

theorem oweAgain_effect {s : State} {c : Nat} {x : Cabin} (live : s.cabinAt c = some x) :
    (∀ k, (s.oweAgain c x.plateState).cabinAt k = if k = c then some { x with
        plateState := if x.plateState = .current ∨ x.plateState = .failed then .pending else x.plateState
        retries := if x.plateState = .noPlate then x.retries else 0 } else s.cabinAt k) ∧
    ∀ j, (s.oweAgain c x.plateState).trunk j = s.plateJoins (s.trunk j)
      (decide (x.plateState = .current ∨ x.plateState = .failed) && onTrunk x.plate j) c := by
  have still : ∀ j, s.trunk j = s.plateJoins (s.trunk j) false c := fun j => (plateJoins_no s _ c).symm
  cases state : x.plateState with
  | current => exact ⟨cabinAt_owePlate live, trunk_owePlate live⟩
  | failed => exact ⟨cabinAt_owePlate live, trunk_owePlate live⟩
  | pending => exact ⟨fun k => (cabinAt_changed live _ k).trans (by rw [state]; rfl), still⟩
  | noPlate =>
    have same : ({ x with plateState := .noPlate } : Cabin) = x := by rw [← state]
    exact ⟨fun k => (cabinAt_self live k).trans (by simp [same]), still⟩

theorem takeToolWrite_effect {s : State} {c : Nat} {x : Cabin} (live : s.cabinAt c = some x) :
    (∀ k, (s.takeToolWrite c x).cabinAt k = if k = c then some { x with
        contentGen := x.contentGen + 1#16
        plateState := if x.plateState = .current ∨ x.plateState = .failed then .pending else x.plateState
        retries := if x.plateState = .noPlate then x.retries else 0 } else s.cabinAt k) ∧
    ∀ j, (s.takeToolWrite c x).trunk j = s.plateJoins (s.trunk j)
      (decide (x.plateState = .current ∨ x.plateState = .failed) && onTrunk x.plate j) c := by
  let y : Cabin := { x with contentGen := x.contentGen + 1#16 }
  have raised : ∀ k, (s.raiseContent c).cabinAt k = if k = c then some y else s.cabinAt k := cabinAt_changed live _
  obtain ⟨records, trunks⟩ := oweAgain_effect (s := s.raiseContent c) (x := y) (by rw [raised, if_pos rfl])
  exact ⟨cabinAt_again raised records, fun j => (trunks j).trans (plateJoins_of_muster rfl _ _ _)⟩

/-! ### SERVICE_CALL and SWEEP_CLEAR (R75, R76) -/

theorem takeServiceCall_frame (s : State) (c : Nat) (x : Cabin) :
    s.takeServiceCall c x = { s with cabin := (s.takeServiceCall c x).cabin } := by
  rw [takeServiceCall_eq]
  split <;> rfl

/-- Of a state only the records of the cabins and of the targets differ. -/
def State.SweepOf (t s : State) : Prop :=
  t = { s with cabin := { s.cabin with cabins := t.cabin.cabins }
               target := { s.target with targets := t.target.targets } }

theorem State.SweepOf.refl (s : State) : s.SweepOf s := rfl

theorem sweepOf_takeSweep (tag : Word16) (s : State) (c : Nat) (x : Cabin) : (State.takeSweep tag s c x).SweepOf s := by
  have counted : (s.countSweep x).SweepOf s := by
    rw [State.countSweep]
    split <;> rfl
  rw [State.takeSweep]
  split
  · split
    · rfl
    · exact congrArg (fun w => w.modCabin c (Cabin.cleared tag)) counted
  · rfl

theorem proper_iff (s : State) : s.musterNow.proper = true ↔ s.muster.state = .drill ∨ s.muster.state = .alarm := by
  rw [State.musterNow]
  cases s.muster.state <;> simp [MusterState.proper]

theorem takeSweep_effect (tag : Word16) {s : State} {c : Nat} {x : Cabin} (live : s.cabinAt c = some x)
    (proper : s.musterNow.proper = true) :
    (∀ k, (State.takeSweep tag s c x).cabinAt k = if k = c then some { x with swept := true, sweptBy := some tag }
      else s.cabinAt k) ∧
    ∀ k, (State.takeSweep tag s c x).stationAt k = (s.stationAt k).map fun st =>
      if s.effective x = some k ∧ x.swept = false then { st with swept := st.swept + 1 } else st := by
  obtain ⟨_, cabin, _⟩ := countSweep_keeps s x
  rw [State.takeSweep, if_pos proper]
  cases swept : x.swept with
  | true =>
    refine ⟨cabinAt_changed live _, fun k => ?_⟩
    show s.stationAt k = _
    simp
  | false =>
    refine ⟨fun k => ?_, fun k => ?_⟩
    · have counted : (s.countSweep x).cabinAt c = some x := (cabinAt_of_cabin cabin c).trans live
      refine (cabinAt_changed counted _ k).trans ?_
      rw [cabinAt_of_cabin cabin]
    · show (s.countSweep x).stationAt k = _
      rw [stationAt_countSweep]
      simp

/-! ### The obligation -/

theorem execPrivacy_head {s : State} {i : Fin 16} {a : Nat} {v : Privacy} {rest : List ReportEntry}
    (head : s.plate.inbound = ⟨i, a, .privacy v⟩ :: rest) :
    exec .privacy s = .next (s.reported { trunk := i, address := a } rest (State.takePrivacy v)).pickAll := by
  show execPrivacy s = _
  rw [execPrivacy, head]
  rfl

theorem execToolWrite_head {s : State} {i : Fin 16} {a : Nat} {rest : List ReportEntry}
    (head : s.plate.inbound = ⟨i, a, .toolWrite⟩ :: rest) :
    exec .toolWrite s = .next (s.reported { trunk := i, address := a } rest State.takeToolWrite).pickAll := by
  show execToolWrite s = _
  rw [execToolWrite, head]
  rfl

theorem execServiceCall_head {s : State} {i : Fin 16} {a : Nat} {rest : List ReportEntry}
    (head : s.plate.inbound = ⟨i, a, .serviceCall⟩ :: rest) :
    exec .serviceCall s = .next (s.reported { trunk := i, address := a } rest State.takeServiceCall).pickAll := by
  show execServiceCall s = _
  rw [execServiceCall, head]
  rfl

theorem execSweepClear_head {s : State} {i j : Fin 16} {a a' : Nat} {crew : Word16} {rest : List ReportEntry}
    (head : s.plate.inbound = ⟨i, a, .sweepClear⟩ :: ⟨j, a', .crewTag crew⟩ :: rest) :
    exec .sweepClear s = .next (s.reported { trunk := i, address := a } rest (State.takeSweep crew)).pickAll := by
  show execSweepClear s = _
  rw [execSweepClear, head]
  rfl

/-- A report without a cabin is dropped (R73). -/
theorem reported_dropped {s : State} {p : PlateAddress} (found : s.cabinByPlate p = none) (rest : List ReportEntry)
    (effect : State → Nat → Cabin → State) : (s.reported p rest effect).cabin = s.cabin ∧
      ∀ j, (s.reported p rest effect).trunk j = s.trunk j := by
  rw [reported_none found]
  exact ⟨rfl, fun _ => rfl⟩

/-- Settles O31: each report is applied to the cabin that the index names, and the operation that applies it says what
becomes of the record and of the trunk; a plate owed anew has joined its trunk, where the pick does not pass it over
(`plateOwed_of_joins`). -/
theorem reportsReachTheirCabins : Obligations.ReportsReachTheirCabins := by
  refine ⟨fun s i a rest v => ⟨fun head => ?_, fun head => ?_⟩, fun s i j a a' rest crew => ⟨fun head => ?_, fun head => ?_⟩⟩
  · refine ⟨_, execPrivacy_head head, reported_keeps (P := fun t => t.DeskOf (s.withInbound rest)) (.refl _) _
      (deskOf_takePrivacy v _), fun none_ => reported_dropped none_ _ _, fun c x sorted found => ?_⟩
    rw [reported_some found]
    exact takePrivacy_effect v (s := s.withInbound rest) (cabinAt_of_byPlate sorted found).1
  · refine ⟨_, execToolWrite_head head, reported_keeps (P := fun t => t.DeskOf (s.withInbound rest)) (.refl _) _
      (deskOf_takeToolWrite _), fun none_ => reported_dropped none_ _ _, fun c x sorted found => ?_⟩
    rw [reported_some found]
    obtain ⟨records, trunks⟩ := takeToolWrite_effect (s := s.withInbound rest) (cabinAt_of_byPlate sorted found).1
    refine ⟨records, trunks, fun p plate owed => plateOwed_of_joins (by rw [records, if_pos rfl]; rfl)
      (trunks p.trunk) ?_⟩
    rw [decide_eq_true owed, onTrunk, plate]
    simp
  · refine ⟨_, execServiceCall_head head,
      reported_keeps (P := fun t => t = { s.withInbound rest with cabin := t.cabin }) rfl _ (takeServiceCall_frame _),
      fun none_ => (reported_dropped none_ _ _).1, fun c x sorted found => ?_⟩
    rw [reported_some found, takeServiceCall_eq]
    split
    · rfl
    · exact ⟨rfl, cabinAt_changed (s := s.withInbound rest) (cabinAt_of_byPlate sorted found).1 _⟩
  · refine ⟨_, execSweepClear_head head, reported_keeps (P := fun t => t.SweepOf (s.withInbound rest)) (.refl _) _
      (sweepOf_takeSweep crew _), fun dropped => ?_, fun c x sorted found proper => ?_⟩
    · rcases dropped with none_ | calm
      · rw [reported_none none_]
        exact ⟨rfl, rfl⟩
      · refine reported_keeps (rest := rest) (P := fun t => t.cabin = s.cabin ∧ t.target = s.target) ⟨rfl, rfl⟩ _ fun c x => ?_
        rw [State.takeSweep, if_neg (mt (proper_iff (s.withInbound rest)).mp calm)]
        exact ⟨rfl, rfl⟩
    · rw [reported_some found]
      exact takeSweep_effect crew (s := s.withInbound rest) (cabinAt_of_byPlate sorted found).1 ((proper_iff _).mpr proper)

end Sys2Proof.Machine
end

section
/-! The fields of CABIN_PUT and CABIN_AMEND, each in its range or not (R60, R61, check 1). -/

namespace Sys2Proof.Machine

/-! ### The range of one field -/

theorem plateOfRaw_isSome (p : Nat × Nat) : (plateOfRaw p).isSome = true ↔ plateInRange p := by
  rw [plateOfRaw, plateInRange]
  by_cases absent : p = (0xFF, 0)
  · simp [absent]
  · by_cases trunk : p.1 < 16
    · by_cases address : 1 ≤ p.2 ∧ p.2 ≤ Config.plateAddresses
      · simpa [absent, trunk, address] using
          (⟨by omega, address.1, address.2⟩ : p.1 ≤ 15 ∧ 1 ≤ p.2 ∧ p.2 ≤ 250)
      · simpa [absent, trunk, address] using fun (_ : p.1 ≤ 15) (one : 1 ≤ p.2) =>
          (Nat.lt_of_not_le fun most => address ⟨one, most⟩ : 250 < p.2)
    · simpa [absent, trunk] using fun (most : p.1 ≤ 15) => absurd most (by omega)

theorem optTargetOfRaw_of_range {n : Nat} (fits : n = 0xFF ∨ n ≤ 63) :
    optTargetOfRaw n = some (if n = 0xFF then none else some n) := by
  rw [optTargetOfRaw]
  by_cases absent : n = 0xFF
  · rw [if_pos absent, if_pos absent]
  · rw [if_neg absent, if_neg absent, if_pos]
    exact Nat.lt_succ_of_le (fits.resolve_left absent)

theorem optTargetOfRaw_of_out {n : Nat} (out : ¬(n = 0xFF ∨ n ≤ 63)) : optTargetOfRaw n = none := by
  obtain ⟨given, most⟩ := not_or.mp out
  rw [optTargetOfRaw, if_neg given, if_neg]
  exact fun below => most (Nat.le_of_lt_succ below)

theorem optTargetOfRaw_isSome (n : Nat) : (optTargetOfRaw n).isSome = true ↔ n = 0xFF ∨ n ≤ 63 := by
  by_cases fits : n = 0xFF ∨ n ≤ 63
  · simp [optTargetOfRaw_of_range fits, fits]
  · simp [optTargetOfRaw_of_out fits, fits]

theorem labelInRange_iff (l : List Word16) : labelInRange l = true ↔ labelFits l := by
  simp only [labelInRange, labelFits, charInRange, Bool.and_eq_true, decide_eq_true_eq, List.all_eq_true]
  rfl

theorem occupancy_ofCode_of_range {n : Nat} (fits : n ≤ 1) :
    Occupancy.ofCode n = some (if n = 0 then .vacant else .occupied) := by
  obtain rfl | rfl : n = 0 ∨ n = 1 := by omega
  · rfl
  · rfl

theorem occupancy_ofCode_isSome (n : Nat) : (Occupancy.ofCode n).isSome = true ↔ n ≤ 1 := by
  match n with
  | 0 => simp [Occupancy.ofCode]
  | 1 => simp [Occupancy.ofCode]
  | k + 2 => simp [Occupancy.ofCode]

theorem privacy_ofCode_of_range {n : Nat} (fits : n ≤ 2) :
    Privacy.ofCode n = some (if n = 0 then .unasked else if n = 1 then .doNotDisturb else .makeUpRoom) := by
  obtain rfl | rfl | rfl : n = 0 ∨ n = 1 ∨ n = 2 := by omega
  · rfl
  · rfl
  · rfl

theorem privacy_ofCode_isSome (n : Nat) : (Privacy.ofCode n).isSome = true ↔ n ≤ 2 := by
  match n with
  | 0 => simp [Privacy.ofCode]
  | 1 => simp [Privacy.ofCode]
  | 2 => simp [Privacy.ofCode]
  | k + 3 => simp [Privacy.ofCode]

/-! ### CABIN_PUT -/

/-- The fields of a CABIN_PUT in range. -/
def CabinBody.typed (b : CabinBody) : CabinFields :=
  { number := { deck := b.deck, number := b.number }, doorNode := b.doorNode,
    plate := (plateOfRaw b.plate).getD none, berths := b.berths,
    occupancy := if b.occupancy = 0 then .vacant else .occupied,
    privacy := if b.privacy = 0 then .unasked else if b.privacy = 1 then .doNotDisturb else .makeUpRoom,
    language := b.language, message := optCatalogueOfRaw b.message, primary := b.primary,
    alternate := if b.alternate = 0xFF then none else some b.alternate, label := b.label }

theorem cabinBody_fields_of_range {b : CabinBody} (fits : b.InRange) : b.fields = some b.typed := by
  obtain ⟨deck, least, most, door, plate, berth, berths, occupancy, privacy, language, primary, alternate,
    label⟩ := fits
  obtain ⟨address, given⟩ := Option.isSome_iff_exists.mp ((plateOfRaw_isSome _).mpr plate)
  have number := (cabinNumberInRange_iff _ _).mpr ⟨deck, least, most⟩
  have ranges : (decide (b.doorNode < Config.nodeSlots) && decide (1 ≤ b.berths) &&
      decide (b.berths ≤ Config.maxBerths) && labelInRange b.label && decide (b.language < Config.languages) &&
      decide (b.primary < Config.targetSlots)) = true := by
    simp only [Bool.and_eq_true, decide_eq_true_eq]
    exact ⟨⟨⟨⟨⟨Nat.lt_succ_of_le door, berth⟩, berths⟩, (labelInRange_iff _).mpr label⟩, Nat.lt_succ_of_le language⟩,
      Nat.lt_succ_of_le primary⟩
  simp only [Bool.and_assoc] at ranges
  simp [CabinBody.fields, CabinBody.typed, given, number, ranges, occupancy_ofCode_of_range occupancy,
    privacy_ofCode_of_range privacy, optTargetOfRaw_of_range alternate, Bool.and_assoc]

theorem cabinBody_fields_of_out {b : CabinBody} (out : ¬b.InRange) : b.fields = none := by
  by_contra given
  refine out ?_
  obtain ⟨f, made⟩ := Option.ne_none_iff_exists'.mp given
  rw [CabinBody.fields] at made
  split at made
  next plate occupancy privacy alternate plates occupied asked named =>
    obtain ⟨ranges, -⟩ := Option.ite_none_right_eq_some.mp made
    simp only [Bool.and_eq_true, decide_eq_true_eq, cabinNumberInRange_iff, labelInRange_iff] at ranges
    obtain ⟨⟨⟨⟨⟨⟨⟨deck, least, most⟩, door⟩, berth⟩, berths⟩, label⟩, language⟩, primary⟩ := ranges
    exact ⟨deck, least, most, Nat.le_of_lt_succ door, (plateOfRaw_isSome _).mp (by rw [plates]; rfl), berth, berths,
      (occupancy_ofCode_isSome _).mp (by rw [occupied]; rfl), (privacy_ofCode_isSome _).mp (by rw [asked]; rfl),
      Nat.le_of_lt_succ language, Nat.le_of_lt_succ primary, (optTargetOfRaw_isSome _).mp (by rw [named]; rfl), label⟩
  next => exact absurd made (by simp)

/-! ### CABIN_AMEND -/

theorem given_of_range {α β : Type} {f : α → Option β} {o : Option α} (fits : ∀ x, o = some x → (f x).isSome) :
    given f o = some (o.bind f) := by
  cases o with
  | none => rfl
  | some x =>
    obtain ⟨y, made⟩ := Option.isSome_iff_exists.mp (fits x rfl)
    simp [given, made]

theorem range_of_given {α β : Type} {f : α → Option β} {o : Option α} {r : Option β} (h : given f o = some r) :
    ∀ x, o = some x → (f x).isSome := by
  rintro x rfl
  obtain ⟨y, made, -⟩ := Option.map_eq_some_iff.mp h
  rw [made]
  rfl

@[simp] theorem inRange_isSome (p : Nat → Bool) (n : Nat) : (inRange p n).isSome = p n := by
  rw [inRange]
  cases p n
  · rfl
  · rfl

theorem given_inRange {p : Nat → Bool} {o : Option Nat} (fits : ∀ n, o = some n → p n = true) :
    given (inRange p) o = some o := by
  cases o with
  | none => rfl
  | some n => simp [given, inRange, fits n rfl]

theorem given_label {o : Option (List Word16)} (fits : ∀ l, o = some l → labelFits l) :
    given (fun l => if labelInRange l then some l else none) o = some o := by
  cases o with
  | none => rfl
  | some l => simp [given, (labelInRange_iff l).mpr (fits l rfl)]

/-- The fields given by a CABIN_AMEND in range. -/
def CabinAmendBody.typed (b : CabinAmendBody) : CabinChange :=
  { doorNode := b.doorNode, plate := b.plate.bind plateOfRaw, berths := b.berths,
    occupancy := b.occupancy.bind Occupancy.ofCode, label := b.label, language := b.language,
    message := b.message.map optCatalogueOfRaw, primary := b.primary, alternate := b.alternate.bind optTargetOfRaw,
    privacy := b.privacy.bind Privacy.ofCode, serviceClear := b.service.isSome }

theorem cabinAmendBody_change_of_range {b : CabinAmendBody} (fits : b.InRange) : b.change = some b.typed := by
  obtain ⟨deck, least, most, mask, door, plate, berths, occupancy, label, language, primary, alternate, privacy,
    service⟩ := fits
  have number := (cabinNumberInRange_iff _ _).mpr ⟨deck, least, most⟩
  rw [CabinAmendBody.change,
    given_inRange (p := fun n => decide (n < Config.nodeSlots)) fun n is =>
      decide_eq_true (Nat.lt_succ_of_le (door n is)),
    given_of_range fun p is => (plateOfRaw_isSome p).mpr (plate p is),
    given_inRange (p := fun n => decide (1 ≤ n) && decide (n ≤ Config.maxBerths)) fun n is => by
      rw [Bool.and_eq_true, decide_eq_true_eq, decide_eq_true_eq]
      exact berths n is,
    given_of_range fun n is => (occupancy_ofCode_isSome n).mpr (occupancy n is),
    given_label label,
    given_inRange (p := fun n => decide (n < Config.languages)) fun n is =>
      decide_eq_true (Nat.lt_succ_of_le (language n is)),
    given_inRange (p := fun n => decide (n < Config.targetSlots)) fun n is =>
      decide_eq_true (Nat.lt_succ_of_le (primary n is)),
    given_of_range fun n is => (optTargetOfRaw_isSome n).mpr (alternate n is),
    given_of_range fun n is => (privacy_ofCode_isSome n).mpr (privacy n is),
    given_inRange (p := fun n => decide (n = 0)) fun n is => decide_eq_true (service n is)]
  simp [number, mask, CabinAmendBody.typed]

theorem cabinAmendBody_change_of_out {b : CabinAmendBody} (out : ¬b.InRange) : b.change = none := by
  by_contra made
  refine out ?_
  obtain ⟨g, made⟩ := Option.ne_none_iff_exists'.mp made
  simp only [CabinAmendBody.change, Option.bind_eq_bind, Option.bind_eq_some_iff, Option.ite_none_right_eq_some,
    Bool.and_eq_true, decide_eq_true_eq, cabinNumberInRange_iff] at made
  obtain ⟨_, door, _, plate, _, berths, _, occupancy, _, label, _, language, _, primary, _, alternate, _, privacy,
    _, service, ⟨⟨deck, least, most⟩, mask⟩, -⟩ := made
  refine ⟨deck, least, most, mask, fun n is => ?_, fun p is => ?_, fun n is => ?_, fun n is => ?_, fun l is => ?_,
    fun n is => ?_, fun n is => ?_, fun n is => ?_, fun n is => ?_, fun n is => ?_⟩
  · exact Nat.le_of_lt_succ (by simpa using range_of_given door n is : n < Config.nodeSlots)
  · exact (plateOfRaw_isSome p).mp (range_of_given plate p is)
  · exact (by simpa using range_of_given berths n is : 1 ≤ n ∧ n ≤ Config.maxBerths)
  · exact (occupancy_ofCode_isSome n).mp (range_of_given occupancy n is)
  · refine (labelInRange_iff l).mp ?_
    by_contra bad
    simpa [bad] using range_of_given label l is
  · exact Nat.le_of_lt_succ (by simpa using range_of_given language n is : n < Config.languages)
  · exact Nat.le_of_lt_succ (by simpa using range_of_given primary n is : n < Config.targetSlots)
  · exact (optTargetOfRaw_isSome n).mp (range_of_given alternate n is)
  · exact (privacy_ofCode_isSome n).mp (range_of_given privacy n is)
  · simpa using range_of_given service n is

end Sys2Proof.Machine
end

section
/-! The checks of CABIN_PUT and CABIN_AMEND in their order (R60, R61): the owner's chain of refusals, matched check
by check with the obligation's. -/

namespace Sys2Proof.Table

variable {α : Type}

theorem not_free {t : Table α} {k : Nat} (live : (get t k).isSome = true) : ¬(get t k).isNone = true := by
  rw [Option.isNone_iff_eq_none]
  exact Option.isSome_iff_ne_none.mp live

/-- No slot is free where every slot looked at is live. -/
theorem lowestFree_eq_none {t : Table α} {fuel k : Nat} (live : ∀ j, k ≤ j → j < k + fuel → (get t j).isSome = true) :
    lowestFree t fuel k = none := by
  induction fuel generalizing k with
  | zero => rfl
  | succ fuel ih =>
    rw [lowestFree, if_neg (not_free (live k (by omega) (by omega)))]
    exact ih fun j low high => live j (by omega) (by omega)

/-- The lowest free slot, when every slot below it is live. -/
theorem lowestFree_eq_some {t : Table α} {fuel k j : Nat} (low : k ≤ j) (high : j < k + fuel) (free : get t j = none)
    (live : ∀ i, k ≤ i → i < j → (get t i).isSome = true) : lowestFree t fuel k = some j := by
  induction fuel generalizing k with
  | zero => omega
  | succ fuel ih =>
    rw [lowestFree]
    obtain rfl | above : k = j ∨ k < j := by omega
    · rw [if_pos (by simp [free])]
    · rw [if_neg (not_free (live k (Nat.le_refl k) above))]
      exact ih (by omega) (by omega) fun i low high => live i (by omega) high

end Sys2Proof.Table

namespace Sys2Proof.Machine

/-- What an owner that refuses makes of a state. -/
def State.refusing (s : State) (r : Result × List Byte) : State × Reply := (s, { result := r.1, body := r.2 })

theorem serve_refusing {α : Type} {tag : Byte} {b : α} {op : Owner α} {s : State} {r : Result × List Byte}
    (ready : s.loading = false) (refused : op b s.beginRequest = s.beginRequest.refusing r) :
    serve tag (some b) true op s = s.answering s tag r.1 r.2 :=
  serve_refused tag b op s _ ready refused

/-- One check of a chain of refusals: where it fails, both chains give its refusal, and where it passes, the chains
that follow it agree. -/
theorem refusing_check {p q : Prop} [Decidable p] [Decidable q] (same : p ↔ q) {s : State} {here : Result × List Byte}
    {later : State × Reply} {rest : Option (Result × List Byte)} {r : Result × List Byte}
    (refusal : (if q then some here else rest) = some r) (next : ¬p → rest = some r → later = s.refusing r) :
    (if p then s.refusing here else later) = s.refusing r := by
  by_cases fails : p
  · rw [if_pos (same.mp fails)] at refusal
    rw [if_pos fails, Option.some.inj refusal]
  · rw [if_neg fun c => fails (same.mpr c)] at refusal
    rw [if_neg fails]
    exact next fails refusal

/-- The body with which a cabin that holds the plate is named. -/
def holderBytes (holder : Option (Nat × Cabin)) : List Byte :=
  [5#8] ++ (holder.map fun r => u8 r.2.number.deck ++ u16 r.2.number.number).getD []

@[simp] theorem isSome_optCatalogueOfRaw (n : Nat) : (optCatalogueOfRaw n).isSome = true ↔ n ≠ 0 := by
  by_cases h : n = 0
  · simp [optCatalogueOfRaw, h]
  · simp [optCatalogueOfRaw, h]

@[simp] theorem isEmpty_not {α : Type} (l : List α) : (!l.isEmpty) = true ↔ l ≠ [] := by
  cases l with
  | nil => simp
  | cons x xs => simp

/-! ### CABIN_PUT -/

theorem typed_vacantContents (b : CabinBody) :
    b.typed.vacantContents = true ↔ b.occupancy = 0 ∧ (b.label ≠ [] ∨ b.privacy ≠ 0 ∨ b.message ≠ 0) := by
  have vacant : b.typed.occupancy = .vacant ↔ b.occupancy = 0 := by
    by_cases h : b.occupancy = 0
    · simp [CabinBody.typed, h]
    · simp [CabinBody.typed, h]
  have asked : b.typed.privacy ≠ .unasked ↔ b.privacy ≠ 0 := by
    by_cases zero : b.privacy = 0
    · simp [CabinBody.typed, zero]
    · by_cases one : b.privacy = 1
      · simp [CabinBody.typed, one]
      · simp [CabinBody.typed, zero, one]
  have told : b.typed.message.isSome = true ↔ b.message ≠ 0 := isSome_optCatalogueOfRaw b.message
  rw [CabinFields.vacantContents, Bool.and_eq_true, Bool.or_eq_true, Bool.or_eq_true, decide_eq_true_eq,
    decide_eq_true_eq, isEmpty_not, vacant, asked, told, or_assoc]
  rfl

theorem typed_alternate {b : CabinBody} (fits : b.InRange) :
    b.typed.alternate = some b.typed.primary ↔ b.alternate = b.primary := by
  obtain ⟨-, -, -, -, -, -, -, -, -, -, primary, -, -⟩ := fits
  by_cases h : b.alternate = 0xFF
  · simp [CabinBody.typed, h]
    omega
  · simp [CabinBody.typed, h]

theorem typed_stations (b : CabinBody) (s : State) :
    (!s.stationOk b.typed.primary || !optOk s.stationOk b.typed.alternate) = true ↔
      s.stationAt b.primary = none ∨ (b.alternate ≠ 0xFF ∧ s.stationAt b.alternate = none) := by
  by_cases h : b.alternate = 0xFF
  · simp [CabinBody.typed, h, State.stationOk, optOk]
  · simp [CabinBody.typed, h, State.stationOk, optOk]

theorem cabinPut_of_out {b : CabinBody} (out : ¬b.InRange) (s : State) : cabinPut b s = s.refusing (.badField, []) := by
  rw [cabinPut, cabinBody_fields_of_out out]
  rfl

theorem cabinPut_full {s : State} (full : (List.range 3072).all (fun c => (s.cabinAt c).isSome) = true) :
    Table.lowestFree s.cabin.cabins Config.cabinSlots 0 = none :=
  Table.lowestFree_eq_none fun j _ high =>
    List.all_eq_true.mp full j (List.mem_range.mpr (lt_of_lt_of_eq high (Nat.zero_add _)))

/-- What CABIN_PUT refuses, check by check (R60). -/
theorem cabinPut_refuses {b : CabinBody} (fits : b.InRange) {s : State} {r : Result × List Byte}
    (refusal :
      (if b.occupancy = 0 ∧ (b.label ≠ [] ∨ b.privacy ≠ 0 ∨ b.message ≠ 0) then some (.badField, [2#8])
        else if b.alternate = b.primary then some (.badField, [3#8])
        else if s.node b.doorNode = none then some (.badField, [4#8])
        else if s.stationAt b.primary = none ∨ (b.alternate ≠ 0xFF ∧ s.stationAt b.alternate = none) then
          some (.badField, [3#8])
        else if (s.cabinByNumber { deck := b.deck, number := b.number }).isSome then some (.exists_, [6#8])
        else if (((plateOfRaw b.plate).getD none).bind s.cabinByPlate).isSome then
          some (.exists_, holderBytes (((plateOfRaw b.plate).getD none).bind s.cabinByPlate))
        else if (List.range 3072).all (fun c => (s.cabinAt c).isSome) then some (.full, [])
        else none) = some r) : cabinPut b s = s.refusing r := by
  rw [cabinPut, cabinBody_fields_of_range fits]
  refine refusing_check (here := (.badField, [2#8])) (typed_vacantContents b) refusal fun _ refusal => ?_
  refine refusing_check (here := (.badField, [3#8])) (typed_alternate fits) refusal fun _ refusal => ?_
  refine refusing_check (here := (.badField, [4#8])) Option.isNone_iff_eq_none refusal fun _ refusal => ?_
  refine refusing_check (here := (.badField, [3#8])) (typed_stations b s) refusal fun _ refusal => ?_
  refine refusing_check (here := (.exists_, [6#8])) Iff.rfl refusal fun _ refusal => ?_
  have plate : b.typed.plate.bind s.cabinByPlate = ((plateOfRaw b.plate).getD none).bind s.cabinByPlate := rfl
  rw [plate]
  cases holder : ((plateOfRaw b.plate).getD none).bind s.cabinByPlate with
  | some held =>
    rw [holder, if_pos Option.isSome_some] at refusal
    rw [← Option.some.inj refusal]
    rfl
  | none =>
    rw [holder, if_neg (by simp)] at refusal
    obtain ⟨full, refused⟩ := Option.ite_none_right_eq_some.mp refusal
    rw [cabinPut_full full, ← Option.some.inj refused]
    rfl

/-! ### CABIN_AMEND -/

theorem cabinAmend_of_out {b : CabinAmendBody} (out : ¬b.InRange) (s : State) :
    cabinAmend b s = s.refusing (.badField, []) := by
  rw [cabinAmend, cabinAmendBody_change_of_out out]
  rfl

theorem cabinAmend_of_unknown {b : CabinAmendBody} (fits : b.InRange) {s : State}
    (unknown : s.cabinByNumber { deck := b.deck, number := b.number } = none) :
    cabinAmend b s = s.refusing (.notFound, []) := by
  rw [cabinAmend, cabinAmendBody_change_of_range fits]
  dsimp only
  rw [unknown]
  rfl

/-- The privacy that a CABIN_AMEND in range gives is not UNASKED when its code is not 0. -/
theorem given_privacy {o : Option Nat} (fits : ∀ n, o = some n → n ≤ 2) :
    (o.bind Privacy.ofCode).any (fun p => decide (p ≠ .unasked)) = o.any fun n => decide (n ≠ 0) := by
  cases o with
  | none => rfl
  | some n =>
    have most := fits n rfl
    obtain rfl | rfl | rfl : n = 0 ∨ n = 1 ∨ n = 2 := by omega
    · rfl
    · rfl
    · rfl

theorem given_message (o : Option Nat) :
    (o.map optCatalogueOfRaw).any Option.isSome = o.any fun n => decide (n ≠ 0) := by
  cases o with
  | none => rfl
  | some n => exact Bool.eq_iff_iff.mpr (by simp)

theorem amend_vacantContents {b : CabinAmendBody} (fits : b.InRange) (old : Cabin) :
    b.typed.vacantContents old = true ↔ (b.occupancy.bind Occupancy.ofCode).getD old.occupancy = .vacant ∧
      (b.label.any (fun l => !l.isEmpty) = true ∨ b.privacy.any (fun n => decide (n ≠ 0)) = true ∨
        b.message.any (fun n => decide (n ≠ 0)) = true) := by
  obtain ⟨-, -, -, -, -, -, -, -, -, -, -, -, privacy, -⟩ := fits
  rw [CabinChange.vacantContents, Bool.and_eq_true, Bool.or_eq_true, Bool.or_eq_true, decide_eq_true_eq, or_assoc,
    show b.typed.privacy = b.privacy.bind Privacy.ofCode from rfl, given_privacy privacy,
    show b.typed.message = b.message.map optCatalogueOfRaw from rfl, given_message]
  rfl

theorem applyTo_stations (g : CabinChange) (x : Cabin) :
    (g.applyTo x).primary = g.primary.getD x.primary ∧ (g.applyTo x).alternate = g.alternate.getD x.alternate := by
  by_cases vacates : g.vacates x = true
  · simp [CabinChange.applyTo, vacates]
  · simp [CabinChange.applyTo, vacates]

theorem optOk_not {o : Option Nat} {p : Nat → Bool} : (!optOk p o) = o.any fun n => !p n := by
  cases o with
  | none => rfl
  | some n => rfl

theorem given_alternate {o : Option Nat} (fits : ∀ n, o = some n → n = 0xFF ∨ n ≤ 63) (p : Nat → Bool) :
    (!optOk (optOk p) (o.bind optTargetOfRaw)) = o.any fun k => decide (k ≠ 0xFF) && !p k := by
  cases o with
  | none => rfl
  | some n =>
    by_cases absent : n = 0xFF
    · simp [optTargetOfRaw, absent, optOk]
    · simp [optTargetOfRaw_of_range (fits n rfl), absent, optOk]

theorem amend_stations {b : CabinAmendBody} (fits : b.InRange) (s : State) :
    (!optOk s.stationOk b.typed.primary || !optOk (optOk s.stationOk) b.typed.alternate) = true ↔
      b.primary.any (fun k => (s.stationAt k).isNone) = true ∨
        b.alternate.any (fun k => decide (k ≠ 0xFF) && (s.stationAt k).isNone) = true := by
  obtain ⟨-, -, -, -, -, -, -, -, -, -, -, alternate, -, -⟩ := fits
  have station : (fun k => !s.stationOk k) = fun k => (s.stationAt k).isNone := funext fun k => by
    rw [State.stationOk, Option.not_isSome]
  rw [Bool.or_eq_true, show b.typed.primary = b.primary from rfl, optOk_not, station,
    show b.typed.alternate = b.alternate.bind optTargetOfRaw from rfl, given_alternate alternate]
  simp only [State.stationOk, Option.not_isSome]

theorem amend_door (b : CabinAmendBody) (s : State) :
    (!optOk (fun n => (s.node n).isSome) b.typed.doorNode) = true ↔
      b.doorNode.any (fun n => (s.node n).isNone) = true := by
  rw [show b.typed.doorNode = b.doorNode from rfl, optOk_not]
  simp only [Option.not_isSome]

/-- What CABIN_AMEND refuses of a cabin that exists, check by check (R61). -/
theorem cabinAmend_refuses {b : CabinAmendBody} (fits : b.InRange) {s : State} {c : Nat} {old : Cabin}
    (known : s.cabinByNumber { deck := b.deck, number := b.number } = some (c, old)) {r : Result × List Byte}
    (refusal :
      (if (b.occupancy.bind Occupancy.ofCode).getD old.occupancy = .vacant ∧
            (b.label.any (fun l => !l.isEmpty) = true ∨ b.privacy.any (fun n => decide (n ≠ 0)) = true ∨
              b.message.any (fun n => decide (n ≠ 0)) = true) then some (.badField, [2#8])
        else if (b.alternate.bind optTargetOfRaw).getD old.alternate = some (b.primary.getD old.primary) then
          some (.badField, [3#8])
        else if b.doorNode.any (fun n => (s.node n).isNone) then some (.badField, [4#8])
        else if b.primary.any (fun k => (s.stationAt k).isNone) ∨
            b.alternate.any (fun k => decide (k ≠ 0xFF) && (s.stationAt k).isNone) then some (.badField, [3#8])
        else if ((((b.plate.bind plateOfRaw).bind id).bind s.cabinByPlate).filter fun r => decide (r.1 ≠ c)).isSome then
          some (.exists_, holderBytes ((((b.plate.bind plateOfRaw).bind id).bind s.cabinByPlate).filter fun r =>
            decide (r.1 ≠ c)))
        else none) = some r) : cabinAmend b s = s.refusing r := by
  rw [cabinAmend, cabinAmendBody_change_of_range fits]
  dsimp only
  rw [known]
  dsimp only
  obtain ⟨primary, alternate⟩ := applyTo_stations b.typed old
  refine refusing_check (here := (.badField, [2#8])) (amend_vacantContents fits old) refusal fun _ refusal => ?_
  refine refusing_check (here := (.badField, [3#8])) (by rw [primary, alternate]; rfl) refusal fun _ refusal => ?_
  refine refusing_check (here := (.badField, [4#8])) (amend_door b s) refusal fun _ refusal => ?_
  refine refusing_check (here := (.badField, [3#8])) (amend_stations fits s) refusal fun _ refusal => ?_
  have plate : b.typed.plate = b.plate.bind plateOfRaw := rfl
  rw [plate]
  obtain ⟨held, refused⟩ := Option.ite_none_right_eq_some.mp refusal
  obtain ⟨holder, found⟩ := Option.isSome_iff_exists.mp held
  rw [found] at refused ⊢
  rw [← Option.some.inj refused]
  rfl

theorem exec_cabinPut {body : List Byte} {b : CabinBody} (parsed : parseCabin body = some b) (tag : Byte) (s : State) :
    exec (.cabinPut tag body) s = .next (serve tag (some b) true cabinPut s) := by
  rw [← parsed]
  rfl

theorem exec_cabinAmend {body : List Byte} {b : CabinAmendBody} (parsed : parseCabinAmend body = some b) (tag : Byte)
    (s : State) : exec (.cabinAmend tag body) s = .next (serve tag (some b) true cabinAmend s) := by
  rw [← parsed]
  rfl

/-- Settles O26: the owners' chains of refusals are the obligation's (`cabinPut_refuses`, `cabinAmend_refuses`). -/
theorem cabinChecksInOrder : Obligations.CabinChecksInOrder := by
  unfold Obligations.CabinChecksInOrder
  refine ⟨fun s tag body b ready parsed => ⟨fun out => ?_, fun r fits refusal => ?_⟩,
    fun s tag body b ready parsed => ⟨fun out => ?_, fun fits unknown => ?_, fun c old fits known => ?_⟩⟩
  · rw [exec_cabinPut parsed, serve_refusing ready (cabinPut_of_out out _)]
  · rw [exec_cabinPut parsed, serve_refusing ready (cabinPut_refuses fits refusal)]
  · rw [exec_cabinAmend parsed, serve_refusing ready (cabinAmend_of_out out _)]
  · rw [exec_cabinAmend parsed, serve_refusing ready (cabinAmend_of_unknown fits unknown)]
  · intro occupancy primary alternate holder refusal r refused
    rw [exec_cabinAmend parsed, serve_refusing ready (cabinAmend_refuses (s := s.beginRequest) fits known refused)]

end Sys2Proof.Machine
end

section
/-! CABIN_GET and TRUNK_GET (R66, R107): the place of a plate, a cabin found by its number or its plate, and the bytes
of a trunk. -/

namespace Sys2Proof.Machine

/-! ### Reserved entries -/

theorem reserved_surveySteps (s : State) : s.reserved = 2 * s.surveySteps := by
  rw [State.reserved, State.surveySteps, show allTrunks = List.finRange 16 from rfl]
  rfl

/-! ### Cabins found by number and by plate -/

theorem find_of_live {α : Type} {t : Table α} {p : α → Bool} (sorted : Table.wf t = true) {k : Nat} {x : α}
    (live : Table.get t k = some x) (passes : p x = true)
    (only : ∀ j y, Table.get t j = some y → p y = true → j = k) : Table.find t p = some (k, x) := by
  cases found : Table.find t p with
  | none => exact absurd passes (by simp [not_of_find_none found live])
  | some r =>
    obtain ⟨j, y⟩ := r
    obtain ⟨at_, holds⟩ := Table.get_of_find sorted found
    obtain rfl := only j y at_ holds
    rw [live] at at_
    rw [Option.some.inj at_]

theorem Listed.byNumber_iff {s : State} (h : Listed s) (n : CabinNumber) (c : Nat) (x : Cabin) :
    s.cabinByNumber n = some (c, x) ↔ s.cabinAt c = some x ∧ x.number = n := by
  obtain ⟨sorted, -, -, -, unique⟩ := h
  refine ⟨cabinAt_of_byNumber sorted, fun ⟨live, named⟩ => ?_⟩
  refine find_of_live sorted live (decide_eq_true named) fun d y other same => ?_
  exact unique d c y x other live (.inl ((of_decide_eq_true same).trans named.symm))

theorem Listed.byPlate_iff {s : State} (h : Listed s) (p : PlateAddress) (c : Nat) (x : Cabin) :
    s.cabinByPlate p = some (c, x) ↔ s.cabinAt c = some x ∧ x.plate = some p := by
  obtain ⟨sorted, -, -, -, unique⟩ := h
  refine ⟨cabinAt_of_byPlate sorted, fun ⟨live, held⟩ => ?_⟩
  refine find_of_live sorted live (decide_eq_true held) fun d y other same => ?_
  have same := of_decide_eq_true same
  exact unique d c y x other live (.inr ⟨by rw [same]; rfl, same.trans held.symm⟩)

/-! ### The place of a plate -/

theorem position_eq_zero {α : Type} [DecidableEq α] {x : α} {l : List α} (out : x ∉ l) : position x l = 0 := by
  induction l with
  | nil => rfl
  | cons y ys ih =>
    obtain ⟨differs, rest⟩ := not_or.mp (fun inside => out (List.mem_cons.mpr inside))
    rw [position, if_neg differs, ih rest]

section PlatePlace

variable {s : State} {c : Nat} {x : Cabin} {p : PlateAddress}

theorem platePlace_of_none (h : x.plate = none) : (s.platePlace c x).head? = some 0#8 := by
  rw [State.platePlace, h]
  rfl

theorem platePlace_of_writing (h : x.plate = some p) (writing : (s.trunk p.trunk).writing c = true) :
    (s.platePlace c x).head? = some 2#8 := by
  simp [State.platePlace, h, writing]

theorem platePlace_of_urgent (h : x.plate = some p) (idle : (s.trunk p.trunk).writing c = false) {k : Nat}
    (waits : position c (s.trunk p.trunk).urgent = k + 1) :
    s.platePlace c x = u8 1 ++ u8 p.trunk.val ++ u8 0 ++ u8 (k + 1) := by
  simp only [State.platePlace, h, idle, waits]
  rfl

theorem platePlace_of_ordinary (h : x.plate = some p) (idle : (s.trunk p.trunk).writing c = false) {k : Nat}
    (out : position c (s.trunk p.trunk).urgent = 0) (waits : position c (s.trunk p.trunk).ordinary = k + 1) :
    s.platePlace c x = u8 1 ++ u8 p.trunk.val ++ u8 1 ++ u8 (k + 1) := by
  simp only [State.platePlace, h, idle, out, waits]
  rfl

theorem platePlace_of_absent (h : x.plate = some p) (idle : (s.trunk p.trunk).writing c = false)
    (urgent : c ∉ (s.trunk p.trunk).urgent) (ordinary : c ∉ (s.trunk p.trunk).ordinary) :
    (s.platePlace c x).head? = some 0#8 := by
  simp [State.platePlace, h, idle, position_eq_zero urgent, position_eq_zero ordinary]

theorem length_platePlace (s : State) (c : Nat) (x : Cabin) : (s.platePlace c x).length = 4 := by
  simp only [State.platePlace]
  split
  · rfl
  · split
    · rfl
    · split
      · rfl
      · rfl
      · rfl

end PlatePlace

/-! ### What CABIN_GET names -/

theorem cabinNamed_other (s : State) {b : CabinGetBody} (other : 2 ≤ b.selector) : s.cabinNamed b = none := by
  obtain ⟨selector, first, second, third⟩ := b
  match selector, other with
  | k + 2, _ => rfl

theorem cabinNamed_number (s : State) (a h l : Byte) :
    s.cabinNamed { selector := 0, first := a.toNat, second := h.toNat, third := l.toNat } =
      if a.toNat ≤ 19 ∧ 1 ≤ rd16 h l ∧ rd16 h l ≤ 999 then
        some (s.cabinByNumber { deck := a.toNat, number := rd16 h l }) else none :=
  if_congr (cabinNumberInRange_iff _ _) rfl rfl

theorem trunkOfRaw_of_lt {n : Nat} (i : Fin 16) (is : i.val = n) : trunkOfRaw n = some i := by
  subst is
  simp [trunkOfRaw]

theorem trunkOfRaw_of_le {n : Nat} (out : 16 ≤ n) : trunkOfRaw n = none := dif_neg (by omega)

theorem cabinNamed_plate (s : State) {i : Fin 16} {a h : Nat} (is : i.val = a) (least : 1 ≤ h) (most : h ≤ 250) :
    s.cabinNamed { selector := 1, first := a, second := h, third := 0 } =
      some (s.cabinByPlate { trunk := i, address := h }) := by
  simp only [State.cabinNamed, trunkOfRaw_of_lt i is]
  exact if_pos ⟨least, most, trivial⟩

theorem cabinNamed_plate_out (s : State) {a h l : Nat} (out : ¬(a ≤ 15 ∧ 1 ≤ h ∧ h ≤ 250 ∧ l = 0)) :
    s.cabinNamed { selector := 1, first := a, second := h, third := l } = none := by
  simp only [State.cabinNamed]
  by_cases trunk : a < 16
  · rw [trunkOfRaw_of_lt ⟨a, trunk⟩ rfl]
    exact if_neg fun ⟨least, most, zero⟩ => out ⟨by omega, least, most, zero⟩
  · rw [trunkOfRaw_of_le (by omega)]

theorem cabinGet_of_out {b : CabinGetBody} {s : State} (out : s.cabinNamed b = none) :
    cabinGet b s = .refuse .badField := by rw [cabinGet, out]

theorem cabinGet_of_unknown {b : CabinGetBody} {s : State} (unknown : s.cabinNamed b = some none) :
    cabinGet b s = .refuse .notFound := by rw [cabinGet, unknown]

theorem cabinGet_of_known {b : CabinGetBody} {s : State} {c : Nat} {x : Cabin}
    (known : s.cabinNamed b = some (some (c, x))) : cabinGet b s = .done (s.cabinBytes c x) := by rw [cabinGet, known]

/-- CABIN_GET answers what its reading gives of the state before the request. -/
theorem exec_cabinGet {s : State} {v a h l : Byte} {r : Reply}
    (read : cabinGet { selector := v.toNat, first := a.toNat, second := h.toNat, third := l.toNat } s = r)
    (tag : Byte) : exec (.cabinGet tag [v, a, h, l]) s = .next (s.answering s tag r.result r.body) := by
  rw [← read]
  rfl

theorem exec_cabinGet_of_known {s : State} {v a h l : Byte} {c : Nat} {x : Cabin}
    (known : s.cabinNamed { selector := v.toNat, first := a.toNat, second := h.toNat, third := l.toNat } =
      some (some (c, x))) (tag : Byte) :
    exec (.cabinGet tag [v, a, h, l]) s = .next (s.answering s tag .done (s.cabinBytes c x)) :=
  exec_cabinGet (cabinGet_of_known known) tag

/-- The record of a cabin as the answer lists it. -/
theorem cabinBytes_eq (s : State) (c : Nat) (x : Cabin) : s.cabinBytes c x =
    u8 x.number.deck ++ u16 x.number.number ++ u16 x.doorNode ++ optPlate x.plate ++ u8 x.berths ++
      u8 x.occupancy.code ++ u8 x.privacy.code ++ u8 x.language ++ optCatalogue x.message ++
      u8 x.primary ++ optByte x.alternate ++ u8 x.label.length ++ x.label.flatMap (fun w => u16 w.toNat) ++
      u16 c ++ yesNo x.service ++ optMinute x.serviceMinute ++ yesNo x.swept ++ presence s.fresh 0 x.sweptBy ++
      u16 x.contentGen.toNat ++ u16 x.deliveredGen.toNat ++ u8 x.plateState.code ++ u8 x.retries ++
      optByte (s.effective x) ++ s.platePlace c x := by
  unfold State.cabinBytes labelBytes
  rw [← List.append_assoc _ (u8 x.label.length) (List.flatMap _ x.label)]

/-! ### TRUNK_GET -/

theorem owes_eq (t : Trunk) (m : MusterState) :
    t.owes m = (t.enabled && decide (believedCode t.believed ≠ m.plateMode.code)) := by
  rw [Trunk.owes]
  cases t.believed with
  | none => cases m <;> rfl
  | some b => cases b <;> cases m <;> rfl

theorem exec_trunkGet_of_out {v : Byte} (out : 16 ≤ v.toNat) (tag : Byte) (s : State) :
    exec (.trunkGet tag [v]) s = .next (s.answering s tag .badField []) := by
  have refused : trunkGet v.toNat s.beginRequest = .refuse .badField := by rw [trunkGet, trunkOfRaw_of_le out]
  exact congrArg (fun r : Reply => Host.Outcome.next (s.answering s tag r.result r.body)) refused

theorem exec_trunkGet_of_trunk {v : Byte} {i : Fin 16} (is : i.val = v.toNat) (tag : Byte) (s : State) :
    exec (.trunkGet tag [v]) s = .next (s.answering s tag .done (s.trunkBytes i)) := by
  have told : trunkGet v.toNat s = .done (s.trunkBytes i) := by rw [trunkGet, trunkOfRaw_of_lt i is]
  exact congrArg (fun r : Reply => Host.Outcome.next (s.answering s tag r.result r.body)) told

theorem believedCode_eq (m : Option PlateMode) : believedCode m =
    match m with
    | some .normal => 0
    | some .drill => 1
    | some .alarm => 2
    | none => 3 := by
  cases m with
  | none => rfl
  | some m => cases m <;> rfl

theorem plateModeCode_eq (m : MusterState) : m.plateMode.code =
    match m with
    | .normal => 0
    | .drill => 1
    | .alarm => 2
    | .standDown => 0 := by cases m <;> rfl

/-- A trunk as the answer lists it. -/
theorem trunkBytes_eq (s : State) (i : Fin 16) : s.trunkBytes i =
    u8 (s.trunk i).state.code ++ yesNo (s.trunk i).enabled ++ u8 (believedCode (s.trunk i).believed) ++
      u8 s.musterNow.plateMode.code ++
      yesNo ((s.trunk i).enabled && decide (believedCode (s.trunk i).believed ≠ s.musterNow.plateMode.code)) ++
      s.workBytes (s.trunk i).work ++ u8 (s.trunk i).urgent.length ++ u8 (s.trunk i).ordinary.length ++
      u8 (s.trunk i).cursor ++ yesNo (s.trunk i).surveyDue ++ u8 (s.platesIn i .pending) ++
      u8 (s.platesIn i .current) ++ u8 (s.platesIn i .failed) ++ u8 s.held ++ u8 s.reserved ++ u8 s.freeEntries := by
  simp only [State.trunkBytes, State.plateCountBytes, owes_eq, List.append_assoc]

theorem workBytes_write {s : State} {c : Nat} {x : Cabin} (live : s.cabinAt c = some x) (a : Nat) (f : Face)
    (k : QueueClass) :
    s.workBytes (some (.write (some c) a f k)) = [1#8] ++ u8 x.number.deck ++ u16 x.number.number := by
  simp only [State.workBytes, State.numberOf, live]
  rfl

/-- Settles O30: the cabins found (`Listed.byNumber_iff`), the record and its place in the queues (`cabinBytes_eq`), and
the bytes of a trunk (`trunkBytes_eq`). -/
theorem cabinAndTrunkReads : Obligations.CabinAndTrunkReads := by
  unfold Obligations.CabinAndTrunkReads
  refine ⟨fun s tag v a h l other => ?_, fun s => ⟨reserved_surveySteps s, rfl⟩,
    fun s n p c x tables right => ?_, fun s tag a h l => ?_, fun s tag v => ⟨fun out => ?_, fun i is => ?_⟩⟩
  · exact exec_cabinGet (cabinGet_of_out (cabinNamed_other s other)) tag
  · obtain ⟨-, -, -, -, ⟨sorted, -⟩, -⟩ := tables
    have listed : Listed s := ⟨sorted, right⟩
    exact ⟨listed.byNumber_iff n c x, listed.byPlate_iff p c x⟩
  · intro number byNumber byPlate answers
    have shows : ∀ (v : Byte) (found : Option (Nat × Cabin)),
        s.cabinNamed { selector := v.toNat, first := a.toNat, second := h.toNat, third := l.toNat } = some found →
        answers (.cabinGet tag [v, a, h, l]) found := fun v found named => by
      cases found with
      | none =>
        exact exec_cabinGet (cabinGet_of_unknown named) tag
      | some r =>
        obtain ⟨c, x⟩ := r
        refine ⟨s.platePlace c x, presence s.fresh 0 x.sweptBy, ?_, fun w swept => by rw [swept]; rfl,
          fun unswept => by rw [unswept]; exact presence_absent _ _, length_platePlace s c x,
          fun p => platePlace_of_writing, fun p k held idle => platePlace_of_urgent held idle,
          fun p k held idle => platePlace_of_ordinary held idle, fun p => platePlace_of_absent, platePlace_of_none⟩
        rw [exec_cabinGet_of_known named, cabinBytes_eq]
    refine ⟨fun out => ?_, fun fits => ?_, fun out => ?_, fun i is least most zero => ?_⟩
    · exact exec_cabinGet (cabinGet_of_out ((cabinNamed_number s a h l).trans (if_neg out))) tag
    · exact shows 0#8 _ ((cabinNamed_number s a h l).trans (if_pos fits))
    · have out : ¬(a.toNat ≤ 15 ∧ 1 ≤ h.toNat ∧ h.toNat ≤ 250 ∧ l.toNat = 0) := fun ⟨trunk, least, most, zero⟩ =>
        out ⟨trunk, least, most, BitVec.eq_of_toNat_eq zero⟩
      exact exec_cabinGet (cabinGet_of_out (cabinNamed_plate_out s out)) tag
    · subst zero
      exact shows 1#8 _ (cabinNamed_plate s is least most)
  · exact exec_trunkGet_of_out out tag s
  · intro trunk required believed plates
    refine ⟨s.workBytes trunk.work, ?_, fun none_ => ?_, fun c a f k x work live => ?_, fun a f k work => ?_,
      fun m work => ?_, fun a acc work => ?_⟩
    · have mode : s.musterNow.plateMode.code = required := plateModeCode_eq s.muster.state
      have told : believedCode trunk.believed = believed := believedCode_eq trunk.believed
      have counted : ∀ st, s.platesIn i st = plates st := fun _ => rfl
      rw [exec_trunkGet_of_trunk is, trunkBytes_eq, mode, told, counted, counted, counted]
      rfl
    · rw [none_]; rfl
    · rw [work, workBytes_write live]
    · rw [work]; rfl
    · rw [work]; rfl
    · rw [work]; rfl

end Sys2Proof.Machine
end

section
/-! CABIN_AMEND on a trunk out of order. CabinAmendReplacesTheFieldsGiven assumes that the plates are in order
(PlateInv) but not the trunks (TrunkInv), and so it speaks of a write in flight on a trunk that is IDLE. The pick that
ends the event puts a broadcast in the place of that write, and the PENDING plate is then owed nowhere. -/

namespace Sys2Proof.Machine

/-- A PENDING cabin with a plate on trunk 0. -/
def strayCabin : Cabin :=
  { number := ⟨5, 1⟩, doorNode := 0, plate := some ⟨0, 1⟩, berths := 2, occupancy := .occupied, label := [],
    language := 0, message := none, primary := 0, alternate := none, privacy := .unasked, service := false,
    serviceMinute := none, swept := false, sweptBy := none, contentGen := 0#16, deliveredGen := 0#16,
    plateState := .pending, retries := 0 }

/-- The face that its plate is given. -/
def strayFace : Face :=
  { label := [], privacy := .unasked, letter := some 1, message := 0, language := 0, occupancy := .occupied,
    mode := .normal, gen := 0#16 }

/-- A trunk that is IDLE with both wires high and owes a broadcast, and yet writes the face of cabin 0. -/
def strayTrunk : Trunk :=
  { Trunk.reset with
    state := .idle
    enabled := true
    work := some (.write (some 0) 1 strayFace .ordinary)
    believed := none
    clockHigh := true
    dataHigh := true }

/-- The station that serves it. -/
def strayStation : Station :=
  { letter := 1, capacity := 0, blocked := false, assigned := 1, swept := 0, occupied := 2, overFlag := false }

/-- One node, one station at it and one cabin that the station serves. -/
def strayShip : State :=
  { State.reset with
    graph := { State.reset.graph with nodes := [(0, { deck := 5, zone := 1, degree := 0, refs := 2 })] }
    target :=
      { targets := [(0, { anchor := 0, label := 0, refs := 1, station := some strayStation })], unassigned := 0 }
    cabin := { cabins := [(0, strayCabin)], service := [] }
    plate := { State.reset.plate with trunks := State.reset.plate.trunks.set 0 strayTrunk } }

/-- The amendment that gives no field. -/
def noAmendment : CabinAmendBody :=
  { deck := 5, number := 1, mask := 0, doorNode := none, plate := none, berths := none, occupancy := none,
    label := none, language := none, message := none, primary := none, alternate := none, privacy := none,
    service := none }

/-- The request that gives it. -/
def strayRequest : Instr := .cabinAmend 1#8 [5#8, 0#8, 1#8, 0#8, 0#8]

theorem strayShip_records : RecordsChecked strayShip := by decide +kernel

theorem strayShip_plates : PlatesChecked strayShip := by decide +kernel

theorem strayShip_asked : strayShip.loading = false ∧
    parseCabinAmend [5#8, 0#8, 1#8, 0#8, 0#8] = some noAmendment ∧
    strayShip.cabinByNumber ⟨5, 1⟩ = some (0, strayCabin) ∧ (strayShip.node 0).isSome ∧
    (strayShip.stationAt 0).isSome ∧ strayShip.cabinByPlate ⟨0, 1⟩ = some (0, strayCabin) := by decide +kernel

theorem noAmendment_inRange : noAmendment.InRange := by simp [CabinAmendBody.InRange, noAmendment]

theorem noAmendment_gives : noAmendment.Gives strayCabin strayCabin := by
  unfold CabinAmendBody.Gives
  decide +kernel

/-- The trunks that an outcome leaves, if it leaves any. -/
def trunksAfter (o : Host.Outcome State Fault Refusal) : Option (Vector Trunk 16) :=
  match o with
  | .next s => some s.plate.trunks
  | _ => none

theorem stray_broadcast : ((trunksAfter (exec strayRequest strayShip)).map fun trunks =>
    ((trunks[(0 : Fin 16)]).urgent, (trunks[(0 : Fin 16)]).ordinary, (trunks[(0 : Fin 16)]).work)) =
      some ([], [], some (.broadcast .normal)) := by decide +kernel

/-- The plate of cabin 0 is owed nowhere once the trunk has picked the broadcast. -/
theorem stray_not_owed {t : State} {tag : Byte} {r : Result} {body : List Byte}
    (answered : exec strayRequest strayShip = .next (strayShip.answering t tag r body)) :
    ¬PlateOwed t 0 ⟨0, 1⟩ := by
  have left := stray_broadcast
  rw [answered] at left
  have seen := Option.some.inj left
  obtain ⟨urgent, rest⟩ := Prod.mk.inj seen
  obtain ⟨ordinary, work⟩ := Prod.mk.inj rest
  have urgent : (t.trunk 0).urgent = [] := urgent
  have ordinary : (t.trunk 0).ordinary = [] := ordinary
  have work : (t.trunk 0).work = some (.broadcast .normal) := work
  simp [PlateOwed, urgent, ordinary, writing_of_broadcast work]

/-- Refutes O28: the amendment that gives no field, of a PENDING cabin whose write is in flight on an IDLE trunk that
owes a broadcast (`strayShip`). -/
theorem not_cabinAmendReplacesTheFieldsGiven : ¬ Obligations.CabinAmendReplacesTheFieldsGiven := by
  intro holds
  obtain ⟨tables, -, targets⟩ := records_of_checked strayShip_records
  obtain ⟨ready, parsed, known, door, station, held⟩ := strayShip_asked
  obtain ⟨t, answered, -, -, -, -, -, -, -, -, owed, -⟩ := holds strayShip 1#8 [5#8, 0#8, 1#8, 0#8, 0#8] noAmendment 0
    strayCabin strayCabin ready tables targets (plateInv_of_checked strayShip_plates) parsed noAmendment_inRange known
    noAmendment_gives (by decide) (by decide) door station (by simp [strayCabin]) (fun p k x plate found => by
      obtain rfl := Option.some.inj plate
      rw [held] at found
      exact (Prod.mk.inj (Option.some.inj found)).1.symm)
  exact stray_not_owed answered (owed ⟨0, 1⟩ rfl (by simp [strayCabin]))

end Sys2Proof.Machine
end

section
/-! A cabin's record comes or goes, as the targets see it: the claims on targets (R50), the figures of the stations
and the unassigned cabins (R52, R53). Here the targets alone are in order (TargetInv); what `Sound.cabinReplaced` says
asks for the deck graph as well. -/

namespace Sys2Proof.Machine

/-! ### The stations a cabin names -/

theorem names_iff (x : Cabin) (k : Nat) : x.names k = true ↔ k ∈ x.stations := by
  rw [Cabin.names, Cabin.stations, Bool.or_eq_true, decide_eq_true_eq, decide_eq_true_eq, List.mem_cons,
    Option.mem_toList, eq_comm (a := k)]

theorem count_stations {s : State} {x : Cabin} (named : s.cabinNames x) (k : Nat) :
    x.stations.count k = if x.names k = true then 1 else 0 := by
  rw [count_of_nodup (stations_nodup named), if_congr (names_iff x k) rfl rfl]

/-! ### The labels of targets -/

/-- The labels of the targets. -/
def State.targetLabels (s : State) : Table Nat := Table.view Target.label s.target.targets

theorem targetLabels_of_target {s t : State} (h : t.target = s.target) : t.targetLabels = s.targetLabels := by
  rw [State.targetLabels, h, State.targetLabels]

theorem targetLabels_modTarget (s : State) (k : Nat) (f : Target → Target) (h : ∀ x, (f x).label = x.label) :
    (s.modTarget k f).targetLabels = s.targetLabels := Table.view_modify Target.label _ _ k h

theorem targetLabels_modStation (s : State) (k : Nat) (f : Station → Station) :
    (s.modStation k f).targetLabels = s.targetLabels := targetLabels_modTarget s k _ fun _ => rfl

@[simp] theorem targetLabels_claimTargets (s : State) (ks : List Nat) :
    (s.claimTargets ks).targetLabels = s.targetLabels := by
  unfold State.claimTargets
  exact foldl_keeps State.targetLabels _ (fun u k => targetLabels_modTarget u k _ fun _ => by rfl) ks s

@[simp] theorem targetLabels_releaseTargets (s : State) (ks : List Nat) :
    (s.releaseTargets ks).targetLabels = s.targetLabels := by
  unfold State.releaseTargets
  exact foldl_keeps State.targetLabels _ (fun u k => targetLabels_modTarget u k _ fun _ => by rfl) ks s

@[simp] theorem targetLabels_contribute (s : State) (x : Cabin) : (s.contribute x).targetLabels = s.targetLabels := by
  rw [State.contribute]
  split
  · exact targetLabels_modStation _ _ _
  · rfl

@[simp] theorem targetLabels_withdraw (s : State) (x : Cabin) : (s.withdraw x).targetLabels = s.targetLabels := by
  rw [State.withdraw]
  split
  · exact targetLabels_modStation _ _ _
  · rfl

@[simp] theorem targetLabels_judgeOver (s before : State) : (s.judgeOver before).targetLabels = s.targetLabels := by
  rw [State.targetLabels, judgeOver_target, State.judge]
  exact foldl_keeps State.targetLabels _ (fun u k => targetLabels_modStation u k _) _ s

/-! ### Claims that have moved -/

/-- What changes of the targets is what their claims and their figures record. -/
theorem claimsMoved_of_views {s t : State} {old new : Option Cabin}
    (plans : Table.view Target.plan t.target.targets = Table.view Target.plan s.target.targets)
    (labels : t.targetLabels = s.targetLabels)
    (refs : ∀ k, t.refsAt k = (s.refsAt k).map fun n =>
      n - (if old.any (·.names k) then 1 else 0) + if new.any (·.names k) then 1 else 0) : ClaimsMoved s t old new := by
  refine ⟨fun k free => ?_, fun k x was => ?_⟩
  · have gone := isSome_targetAt_of_plans plans k
    rw [free] at gone
    exact Option.isSome_eq_false_iff.mp gone |> Option.isNone_iff_eq_none.mp
  · obtain ⟨y, now, plan⟩ := Table.get_of_view plans.symm was
    obtain ⟨z, again, label⟩ := Table.get_of_view labels.symm was
    have now : t.targetAt k = some y := now
    obtain rfl : y = z := Option.some.inj (now.symm.trans again)
    have counted : y.refs = x.refs - (if old.any (·.names k) then 1 else 0) + if new.any (·.names k) then 1 else 0 := by
      simpa only [State.refsAt, now, was, Option.map_some, Option.some.injEq] using refs k
    have anchor : y.anchor = x.anchor := congrArg TargetPlan.anchor plan
    have station : y.station.map Station.plan = x.station.map Station.plan := congrArg TargetPlan.station plan
    refine ⟨y, now, ?_, fun plain => ?_, fun a is => ?_⟩
    · rw [← counted, ← anchor, ← label]
    · rw [plain] at station
      exact Option.map_eq_none_iff.mp station
    · rw [is] at station
      obtain ⟨b, stands, same⟩ := Option.map_eq_some_iff.mp station
      refine ⟨b, stands, ?_⟩
      have letter : b.letter = a.letter := congrArg StationPlan.letter same
      have capacity : b.capacity = a.capacity := congrArg StationPlan.capacity same
      have blocked : b.blocked = a.blocked := congrArg StationPlan.blocked same
      rw [← letter, ← capacity, ← blocked]

/-! ### The targets' part of the invariants -/

/-- What the live cabins are, and what the targets record of them, when one record takes the place of another. -/
structure TargetsReplaced (s t : State) (slot : Nat) (old new : Option Cabin) : Prop where
  programme : t.programme = s.programme
  screen : t.screen = s.screen
  plans : Table.view Target.plan t.target.targets = Table.view Target.plan s.target.targets
  was : s.cabinAt slot = old
  now : ∀ c, t.cabinAt c = if c = slot then new else s.cabinAt c
  replaced : Table.Replaces s.cabin.cabins t.cabin.cabins old new
  named : ∀ x, new = some x → s.cabinNames x
  targetRefs : ∀ k, Moves (s.refsAt k) (t.refsAt k) (old.elim 0 fun x => if k ∈ x.stations then 1 else 0)
    (new.elim 0 fun x => if k ∈ x.stations then 1 else 0)
  figures : ∀ g k, Moves (s.figureAt g k) (t.figureAt g k)
    (old.elim 0 fun x => if s.effective x = some k then x.figure g else 0)
    (new.elim 0 fun x => if s.effective x = some k then x.figure g else 0)
  unassigned : Moves (some s.target.unassigned) (some t.target.unassigned)
    (old.elim 0 fun x => if s.effective x = none then 1 else 0)
    (new.elim 0 fun x => if s.effective x = none then 1 else 0)
  flags : t.flagsRight

namespace TargetsReplaced

variable {s t : State} {slot : Nat} {old new : Option Cabin}

theorem claims (c : TargetsReplaced s t slot old new) (k : Nat) :
    t.claimsOnTarget k + (old.elim 0 fun x => if k ∈ x.stations then 1 else 0) =
      s.claimsOnTarget k + new.elim 0 fun x => if k ∈ x.stations then 1 else 0 := by
  have stations := c.replaced.count fun x => decide (k ∈ x.stations)
  simp only [decide_eq_true_eq] at stations
  simp only [State.claimsOnTarget, c.programme, c.screen]
  omega

theorem tallies (c : TargetsReplaced s t slot old new) (g : Figure) (p : Option Nat) :
    t.tally g p + (old.elim 0 fun x => if s.effective x = p then x.figure g else 0) =
      s.tally g p + new.elim 0 fun x => if s.effective x = p then x.figure g else 0 := by
  rw [tally_eq_total, tally_eq_total, effective_of_plans c.plans]
  exact c.replaced _

theorem share_le (c : TargetsReplaced s t slot old new) (sorted : Table.wf s.cabin.cabins = true) (f : Cabin → Nat) :
    old.elim 0 f ≤ Table.total f s.cabin.cabins := by
  rw [← c.was]
  exact Table.elim_le_total f _ slot sorted

theorem claims_le (c : TargetsReplaced s t slot old new) (sorted : Table.wf s.cabin.cabins = true) (k : Nat) :
    (old.elim 0 fun x => if k ∈ x.stations then 1 else 0) ≤ s.claimsOnTarget k := by
  have stations := c.share_le sorted fun x => if k ∈ x.stations then 1 else 0
  have counted := Table.count_eq_total s.cabin.cabins fun x => decide (k ∈ x.stations)
  simp only [decide_eq_true_eq] at counted
  simp only [State.claimsOnTarget]
  omega

theorem tallies_le (c : TargetsReplaced s t slot old new) (sorted : Table.wf s.cabin.cabins = true) (g : Figure)
    (p : Option Nat) : (old.elim 0 fun x => if s.effective x = p then x.figure g else 0) ≤ s.tally g p := by
  rw [tally_eq_total]
  exact c.share_le sorted _

theorem letter_of_station (c : TargetsReplaced s t slot old new) {k : Nat} {st : Station}
    (h : t.stationAt k = some st) : ∃ was, s.stationAt k = some was ∧ was.letter = st.letter := by
  have plan := stationAt_of_plans c.plans k
  rw [h] at plan
  obtain ⟨was, held, same⟩ := Option.map_eq_some_iff.mp plan.symm
  exact ⟨was, held, congrArg StationPlan.letter same⟩

/-- The targets stay in order. -/
theorem inv (c : TargetsReplaced s t slot old new) (sorted : Table.wf s.cabin.cabins = true) (inv : TargetInv s) :
    TargetInv t := by
  have h := (targetsRight_iff s).mpr inv
  have live := isSome_stationAt_of_plans c.plans
  refine (targetsRight_iff t).mp
    { cabins := fun k x hk => ?cabins
      venues := venues_of_views (isVenue_of_plans c.plans) (by rw [c.programme]) h.venues
      screens := screenNames_of_views live (isSome_targetAt_of_plans c.plans) (by rw [c.screen]) h.screens
      letters := fun j k a b hj hk same => ?letters
      refs := fun k => (c.targetRefs k).right (h.refs k) (c.claims k) (c.claims_le sorted k)
      tallies := fun g k =>
        (c.figures g k).right (h.tallies g k) (c.tallies g (some k)) (c.tallies_le sorted g (some k))
      flags := c.flags
      unassigned := ?unassigned }
  case cabins =>
    have named : s.cabinNames x := by
      rw [c.now] at hk
      split at hk
      · exact c.named x hk
      · exact h.cabins k x hk
    simpa only [State.cabinNames, live] using named
  case letters =>
    obtain ⟨a', ha, letterA⟩ := c.letter_of_station hj
    obtain ⟨b', hb, letterB⟩ := c.letter_of_station hk
    exact h.letters j k a' b' ha hb (by rw [letterA, letterB, same])
  case unassigned =>
    refine c.unassigned.right (fun n is => ?_) (c.tallies .assigned none) (c.tallies_le sorted .assigned none) _ rfl
    rw [← h.unassigned]
    exact (Option.some.inj is).symm

end TargetsReplaced

/-! ### A cabin comes (R60) -/

theorem cabinTaken_target (s : State) (c : Nat) (x : Cabin) :
    (∀ k, ((s.cabinTaken c x).judgeOver s).refsAt k = (s.refsAt k).map (· + x.stations.count k)) ∧
    (∀ g k, Moves (s.figureAt g k) (((s.cabinTaken c x).judgeOver s).figureAt g k) 0
      (if s.effective x = some k then x.figure g else 0)) ∧
    Moves (some s.target.unassigned) (some ((s.cabinTaken c x).judgeOver s).target.unassigned) 0
      (if s.effective x = none then 1 else 0) ∧
    ∀ k, (s.cabinTaken c x).flagAt k = s.flagAt k := by
  have place : (((s.withCabins (Table.put s.cabin.cabins c x)).claimNode x.doorNode).claimTargets
      x.stations).effective = s.effective := effective_of_plans (by simp)
  refine ⟨fun k => ?_, fun g k => ?_, ?_, fun k => ?_⟩
  · rw [refsAt_judgeOver, State.cabinTaken, refsAt_contribute, refsAt_claimTargets]
    rfl
  · rw [figureAt_judgeOver, State.cabinTaken, figureAt_contribute, place, figureAt_claimTargets]
    exact Moves.add _ _
  · rw [unassigned_judgeOver, State.cabinTaken, unassigned_contribute, place, unassigned_claimTargets]
    exact Moves.add (some _) _
  · rw [State.cabinTaken, flagAt_contribute, flagAt_claimTargets]
    rfl

theorem cabinTaken_targetInv {s : State} (sorted : Table.wf s.cabin.cabins = true) (inv : TargetInv s) {c : Nat}
    {x : Cabin} (free : s.cabinAt c = none) (named : s.cabinNames x) :
    TargetInv ((s.cabinTaken c x).judgeOver s) := by
  obtain ⟨refs, figures, unassigned, flags⟩ := cabinTaken_target s c x
  have put := Table.replaces_put s.cabin.cabins c x sorted
  rw [show Table.get s.cabin.cabins c = none from free] at put
  have replaced : TargetsReplaced s ((s.cabinTaken c x).judgeOver s) c none (some x) :=
    { programme := by simp [State.cabinTaken]
      screen := by simp [State.cabinTaken]
      plans := by simp [State.cabinTaken]
      was := free
      now := cabinAt_cabinTaken s c x
      replaced := by simpa [State.cabinTaken] using put
      named := fun y is => Option.some.inj is ▸ named
      targetRefs := fun k => by
        rw [refs, count_of_nodup (stations_nodup named)]
        exact Moves.add _ _
      figures := figures
      unassigned := unassigned
      flags := flagsRight_judgeOver ((targetsRight_iff s).mpr inv).flags flags }
  exact replaced.inv sorted inv

theorem cabinTaken_claimsMoved {s : State} {x : Cabin} (named : s.cabinNames x) (c : Nat) :
    ClaimsMoved s ((s.cabinTaken c x).judgeOver s) none (some x) := by
  refine claimsMoved_of_views (by simp [State.cabinTaken]) ?_ fun k => ?_
  · rw [targetLabels_judgeOver, State.cabinTaken, targetLabels_contribute, targetLabels_claimTargets]
    rfl
  · rw [(cabinTaken_target s c x).1, count_stations named]
    rfl

/-! ### A cabin goes (R65) -/

theorem removeCabin_targetInv {s : State} (sorted : Table.wf s.cabin.cabins = true) (inv : TargetInv s) {c : Nat}
    {x : Cabin} (was : s.cabinAt c = some x) (vacant : x.occupancy ≠ .occupied) : TargetInv (s.removeCabin c x) := by
  obtain ⟨-, target, programme, screen, cabin⟩ := removeCabin_blocks s c x
  have right := (targetsRight_iff s).mpr inv
  have del := Table.replaces_del s.cabin.cabins c sorted
  rw [show Table.get s.cabin.cabins c = some x from was] at del
  have replaced : TargetsReplaced s (s.removeCabin c x) c (some x) none :=
    { programme := programme
      screen := screen
      plans := by rw [target, plans_releaseTargets, plans_withdraw]
      was := was
      now := cabinAt_removeCabin s c x
      replaced := by rwa [cabin]
      named := fun y is => nomatch is
      targetRefs := fun k => by
        rw [refsAt_of_target target, refsAt_releaseTargets, refsAt_withdraw,
          count_of_nodup (stations_nodup (right.cabins c x was))]
        exact Moves.sub _ _
      figures := fun g k => by
        rw [figureAt_of_target target, figureAt_releaseTargets, figureAt_withdraw]
        exact Moves.sub _ _
      unassigned := by
        rw [target, unassigned_releaseTargets, unassigned_withdraw]
        exact Moves.sub (some _) _
      flags := fun k st hk => by
        rw [stationAt_of_target target, stationAt_releaseTargets] at hk
        exact flagsRight_withdraw_vacant right.flags vacant k st hk }
  exact replaced.inv sorted inv

theorem removeCabin_claimsMoved {s : State} {x : Cabin} (named : s.cabinNames x) (c : Nat) :
    ClaimsMoved s (s.removeCabin c x) (some x) none := by
  obtain ⟨-, target, -⟩ := removeCabin_blocks s c x
  refine claimsMoved_of_views (by rw [target, plans_releaseTargets, plans_withdraw]) ?_ fun k => ?_
  · rw [targetLabels_of_target target, targetLabels_releaseTargets, targetLabels_withdraw]
  · rw [refsAt_of_target target, refsAt_releaseTargets, refsAt_withdraw, count_stations named]
    rfl

end Sys2Proof.Machine
end

section
/-! CABIN_RETIRE (R65), PLATE_RETRY (R70) and SERVICE_TAKE (R72): what each owner makes of the state, and what its
request answers. -/

namespace Sys2Proof.Machine

/-! ### Leaving a plate -/

theorem detach_eq (t : Trunk) (c : Nat) : t.detach c = match t.work with
    | some (.write (some d) a f k) => if d = c then { t with work := some (.write none a f k) } else t
    | _ => t := by
  rw [Trunk.detach]
  cases t.work with
  | none => rfl
  | some w =>
    cases w with
    | write d a f k => cases d <;> rfl
    | broadcast m => rfl
    | survey a accepted => rfl

theorem trunk_leavePlate (s : State) {c : Nat} {x : Cabin} (live : s.cabinAt c = some x) (i : Fin 16) :
    (s.leavePlate c).trunk i =
      if x.plate.map (·.trunk) = some i then ((s.trunk i).leave c).detach c else s.trunk i := by
  rw [State.leavePlate, live]
  cases plate : x.plate with
  | none => simp [plate]
  | some p => simp [plate, trunk_modTrunk, eq_comm]

/-! ### CABIN_RETIRE -/

section Retire

variable {b : Nat × Nat} {s : State}

theorem cabinRetire_of_out (out : ¬(b.1 ≤ 19 ∧ 1 ≤ b.2 ∧ b.2 ≤ 999)) :
    cabinRetire b s = s.refusing (.badField, []) := by
  rw [cabinRetire, if_neg (by rwa [cabinNumberInRange_iff])]
  rfl

theorem cabinRetire_of_unknown (fits : b.1 ≤ 19 ∧ 1 ≤ b.2 ∧ b.2 ≤ 999)
    (unknown : s.cabinByNumber { deck := b.1, number := b.2 } = none) :
    cabinRetire b s = s.refusing (.notFound, []) := by
  rw [cabinRetire, if_pos (by rwa [cabinNumberInRange_iff]), unknown]
  rfl

theorem cabinRetire_of_occupied (fits : b.1 ≤ 19 ∧ 1 ≤ b.2 ∧ b.2 ≤ 999) {c : Nat} {x : Cabin}
    (known : s.cabinByNumber { deck := b.1, number := b.2 } = some (c, x)) (occupied : x.occupancy = .occupied) :
    cabinRetire b s = s.refusing (.refusedState, []) := by
  rw [cabinRetire, if_pos (by rwa [cabinNumberInRange_iff]), known]
  exact if_pos occupied

theorem cabinRetire_of_vacant (fits : b.1 ≤ 19 ∧ 1 ≤ b.2 ∧ b.2 ≤ 999) {c : Nat} {x : Cabin}
    (known : s.cabinByNumber { deck := b.1, number := b.2 } = some (c, x)) (vacant : x.occupancy ≠ .occupied) :
    cabinRetire b s = (s.removeCabin c x, .done []) := by
  rw [cabinRetire, if_pos (by rwa [cabinNumberInRange_iff]), known]
  exact if_neg vacant

end Retire

theorem removeCabin_keeps (s : State) (c : Nat) (x : Cabin) :
    (s.removeCabin c x).route = s.route ∧ (s.removeCabin c x).muster = s.muster ∧
    (s.removeCabin c x).port = s.port ∧ (s.removeCabin c x).fresh = s.fresh ∧
    (s.removeCabin c x).pending = s.pending := by
  simp [removeCabin_eq, State.withCabins]

/-- The state with the records that the coming or going of a cabin changes as another has them. -/
def State.withRoll (s t : State) : State :=
  { s with
    graph := { s.graph with nodes := t.graph.nodes }
    target := t.target
    cabin := { s.cabin with cabins := t.cabin.cabins }
    plate := { s.plate with trunks := t.plate.trunks } }

theorem removeCabin_frame (s : State) (c : Nat) (x : Cabin) :
    s.removeCabin c x = s.withRoll (s.removeCabin c x) := by
  obtain ⟨graph, -, programme, screen, -⟩ := removeCabin_blocks s c x
  obtain ⟨cabin, plate⟩ := removeCabin_cabin s c x
  obtain ⟨route, muster, port, fresh, pending⟩ := removeCabin_keeps s c x
  have trunks : (s.leavePlate c).plate = { s.plate with trunks := (s.leavePlate c).plate.trunks } :=
    congrArg State.plate (deskOf_leavePlate s c)
  refine eq_of_blocks ?_ route rfl ?_ ?_ programme screen muster port fresh pending
  · rw [State.withRoll, graph]
    rfl
  · rw [State.withRoll, cabin]
  · rw [State.withRoll, plate]
    exact trunks

theorem node_removeCabin (s : State) (c : Nat) (x : Cabin) (n : Nat) : (s.removeCabin c x).node n =
    (s.node n).map fun y => if n = x.doorNode then { y with refs := y.refs - 1 } else y := by
  rw [State.node, (removeCabin_blocks s c x).1]
  refine (node_releaseNode s x.doorNode n).trans (congrArg (fun f => (s.node n).map f) (funext fun y => ?_))
  by_cases door : n = x.doorNode
  · simp [door]
  · simp [door, Ne.symm door]

theorem trunk_removeCabin {s : State} {c : Nat} {x : Cabin} (live : s.cabinAt c = some x) (i : Fin 16) :
    (s.removeCabin c x).trunk i =
      if x.plate.map (·.trunk) = some i then ((s.trunk i).leave c).detach c else s.trunk i := by
  rw [trunk_of_trunks (congrArg PlateBus.trunks (removeCabin_cabin s c x).2), trunk_leavePlate s live]

/-! ### PLATE_RETRY -/

section Retry

variable {b : Nat × Nat} {s : State}

theorem plateRetry_of_out (out : ¬(b.1 ≤ 19 ∧ 1 ≤ b.2 ∧ b.2 ≤ 999)) :
    plateRetry b s = s.refusing (.badField, []) := by
  rw [plateRetry, if_neg (by rwa [cabinNumberInRange_iff])]
  rfl

theorem plateRetry_of_unknown (fits : b.1 ≤ 19 ∧ 1 ≤ b.2 ∧ b.2 ≤ 999)
    (unknown : s.cabinByNumber { deck := b.1, number := b.2 } = none) :
    plateRetry b s = s.refusing (.notFound, []) := by
  rw [plateRetry, if_pos (by rwa [cabinNumberInRange_iff]), unknown]
  rfl

theorem plateRetry_of_other (fits : b.1 ≤ 19 ∧ 1 ≤ b.2 ∧ b.2 ≤ 999) {c : Nat} {x : Cabin}
    (known : s.cabinByNumber { deck := b.1, number := b.2 } = some (c, x)) (other : x.plateState ≠ .failed) :
    plateRetry b s = s.refusing (.refusedState, u8 x.plateState.code) := by
  rw [plateRetry, if_pos (by rwa [cabinNumberInRange_iff]), known]
  exact if_neg other

theorem plateRetry_of_failed (fits : b.1 ≤ 19 ∧ 1 ≤ b.2 ∧ b.2 ≤ 999) {c : Nat} {x : Cabin}
    (known : s.cabinByNumber { deck := b.1, number := b.2 } = some (c, x)) (failed : x.plateState = .failed) :
    plateRetry b s = ((s.owePlate c).pickAll, .done []) := by
  rw [plateRetry, if_pos (by rwa [cabinNumberInRange_iff]), known]
  exact if_pos failed

end Retry

theorem pickAll_withPortOf (u s : State) : u.pickAll.withPortOf s = (u.withPortOf s).pickAll :=
  (pickAll_withPort u s.port).symm

/-- What a request makes of the cabins and the trunks, seen from the state before it. -/
theorem State.DeskOf.withPortOf {u s : State} (h : u.DeskOf s.beginRequest) : (u.withPortOf s).DeskOf s :=
  Eq.trans (congrArg (fun v : State => v.withPortOf s) (show u = s.beginRequest.withDesk u from h)) rfl

/-! ### SERVICE_TAKE -/

theorem serviceTake_of_nil {s : State} (none_ : s.cabin.service = []) :
    serviceTake () s = s.refusing (.empty, []) := by
  rw [serviceTake, none_]
  rfl

theorem serviceTake_of_cons {s : State} {c : Nat} {rest : List Nat} {x : Cabin} (list : s.cabin.service = c :: rest)
    (live : s.cabinAt c = some x) : serviceTake () s = (s.callTaken c rest,
      .done (u8 x.number.deck ++ u16 x.number.number ++ optMinute x.serviceMinute ++ u16 rest.length)) := by
  rw [serviceTake, list]
  dsimp only
  rw [live]
  rfl

/-! ### The obligation -/

theorem exec_cabinRetire (tag d hi lo : Byte) (s : State) : exec (.cabinRetire tag [d, hi, lo]) s =
    .next (serve tag (some (d.toNat, rd16 hi lo)) true cabinRetire s) := rfl

theorem exec_plateRetry (tag d hi lo : Byte) (s : State) : exec (.plateRetry tag [d, hi, lo]) s =
    .next (serve tag (some (d.toNat, rd16 hi lo)) true plateRetry s) := rfl

theorem exec_serviceTake (tag : Byte) (s : State) : exec (.serviceTake tag []) s =
    .next (serve tag (some ()) true serviceTake s) := rfl

/-- CABIN_RETIRE of a vacant cabin. -/
theorem cabinRetire_retires {s : State} {b : Nat × Nat} {c : Nat} {x : Cabin} (tag : Byte) (ready : s.loading = false)
    (fits : b.1 ≤ 19 ∧ 1 ≤ b.2 ∧ b.2 ≤ 999) (known : s.cabinByNumber { deck := b.1, number := b.2 } = some (c, x))
    (vacant : x.occupancy ≠ .occupied) : serve tag (some b) true cabinRetire s =
      s.answering ((s.beginRequest.removeCabin c x).withPortOf s) tag .done [] := by
  obtain ⟨-, -, port, fresh, -⟩ := removeCabin_keeps s.beginRequest c x
  exact serve_moved tag b cabinRetire s ready (cabinRetire_of_vacant (s := s.beginRequest) fits known vacant) port fresh

/-- PLATE_RETRY of a failed plate. -/
theorem plateRetry_owes {s : State} {b : Nat × Nat} {c : Nat} {x : Cabin} (tag : Byte) (ready : s.loading = false)
    (fits : b.1 ≤ 19 ∧ 1 ≤ b.2 ∧ b.2 ≤ 999) (known : s.cabinByNumber { deck := b.1, number := b.2 } = some (c, x))
    (failed : x.plateState = .failed) : serve tag (some b) true plateRetry s =
      s.answering ((s.beginRequest.owePlate c).withPortOf s).pickAll tag .done [] := by
  rw [← pickAll_withPortOf]
  exact serve_moved tag b plateRetry s ready (plateRetry_of_failed (s := s.beginRequest) fits known failed) (by simp)
    (by simp [State.beginRequest])

/-- Settles O29: a retirement by its blocks (`removeCabin_frame`), its claims and its targets; a retry by the plate
owed anew (`trunk_owePlate`), which the pick keeps; and the service list by its head. -/
theorem cabinRetirePlateRetryAndServiceTake : Obligations.CabinRetirePlateRetryAndServiceTake := by
  unfold Obligations.CabinRetirePlateRetryAndServiceTake
  refine ⟨fun t c => ⟨rfl, detach_eq t c⟩, fun s tag d hi lo ready tables targets => ?_, fun s tag ready => ?_⟩
  · intro number inRange
    obtain ⟨-, -, -, -, ⟨sorted, -⟩, -⟩ := tables
    simp only [exec_cabinRetire, exec_plateRetry]
    refine ⟨fun out => ?_, fun fits unknown => ?_, fun c x fits known occupied => ?_, fun c x fits known vacant => ?_,
      fun c x fits known other => ?_, fun c x p fits known failed plate => ?_⟩
    · rw [serve_refusing ready (cabinRetire_of_out out), serve_refusing ready (plateRetry_of_out out)]
      exact ⟨rfl, rfl⟩
    · rw [serve_refusing ready (cabinRetire_of_unknown (s := s.beginRequest) (b := (d.toNat, rd16 hi lo)) fits unknown),
        serve_refusing ready (plateRetry_of_unknown (s := s.beginRequest) (b := (d.toNat, rd16 hi lo)) fits unknown)]
      exact ⟨rfl, rfl⟩
    · rw [serve_refusing ready (cabinRetire_of_occupied (s := s.beginRequest) (b := (d.toNat, rd16 hi lo)) fits known
        occupied)]
    · have empty : x.occupancy ≠ .occupied := by simp [vacant]
      obtain ⟨live, -⟩ := cabinAt_of_byNumber sorted known
      have named : s.cabinNames x := ((targetsRight_iff s).mpr targets).cabins c x live
      exact ⟨(s.beginRequest.removeCabin c x).withPortOf s,
        congrArg Host.Outcome.next (cabinRetire_retires tag ready fits known empty),
        congrArg (fun u => u.withPortOf s) (removeCabin_frame s.beginRequest c x),
        cabinAt_removeCabin s.beginRequest c x, node_removeCabin s.beginRequest c x,
        removeCabin_claimsMoved (s := s.beginRequest) named c,
        removeCabin_targetInv (s := s.beginRequest) sorted targets live empty,
        trunk_removeCabin (s := s.beginRequest) live⟩
    · rw [serve_refusing ready (plateRetry_of_other (s := s.beginRequest) (b := (d.toNat, rd16 hi lo)) fits known
        other)]
    · obtain ⟨live, -⟩ := cabinAt_of_byNumber sorted known
      have cabins := cabinAt_owePlate (s := s.beginRequest) live
      have joined : ∀ j, ((s.beginRequest.owePlate c).withPortOf s).trunk j =
          s.plateJoins (s.trunk j) (decide (p.trunk = j)) c := fun j => by
        have joins := trunk_owePlate (s := s.beginRequest) live j
        rw [plate] at joins
        exact joins
      refine ⟨(s.beginRequest.owePlate c).withPortOf s,
        congrArg Host.Outcome.next (plateRetry_owes tag ready fits known failed),
        (deskOf_owePlate s.beginRequest c).withPortOf, cabins, joined,
        plateOwed_of_joins (s := s) ?_ (joined p.trunk) (decide_eq_true rfl)⟩
      exact Option.isSome_iff_exists.mpr ⟨_, (cabins c).trans (if_pos rfl)⟩
  · rw [exec_serviceTake]
    refine ⟨fun none_ => ?_, fun c rest x list live => ?_⟩
    · rw [serve_refusing ready (serviceTake_of_nil (s := s.beginRequest) none_)]
    · exact ⟨(s.beginRequest.callTaken c rest).withPortOf s,
        congrArg Host.Outcome.next (serve_moved tag () serviceTake s ready
          (serviceTake_of_cons (s := s.beginRequest) list live) rfl rfl),
        rfl,
        cabinAt_changed (s := { s.beginRequest with cabin := { s.cabin with service := rest } }) live Cabin.uncalled⟩

end Sys2Proof.Machine
end

section
/-! A CABIN_PUT that passes its checks (R59, R60): the lowest free slot takes the record, and its plate joins its
trunk's queue before the trunks pick. -/

namespace Sys2Proof.Machine

/-! ### The record made -/

theorem typed_cabin {b : CabinBody} {plate : Option PlateAddress} (given : plateOfRaw b.plate = some plate) :
    b.typed.cabin =
      { number := { deck := b.deck, number := b.number }, doorNode := b.doorNode, plate,
        berths := b.berths, occupancy := if b.occupancy = 0 then .vacant else .occupied, label := b.label,
        language := b.language, message := if b.message = 0 then none else some b.message,
        primary := b.primary, alternate := if b.alternate = 0xFF then none else some b.alternate,
        privacy := if b.privacy = 0 then .unasked else if b.privacy = 1 then .doNotDisturb else .makeUpRoom,
        service := false, serviceMinute := none, swept := false, sweptBy := none, contentGen := 0#16,
        deliveredGen := 0#16, plateState := if plate.isSome then .pending else .noPlate, retries := 0 } := by
  rw [CabinFields.cabin, CabinBody.typed, given]
  rfl

theorem lowestFree_cabin {s : State} {c : Nat} (within : c < 3072) (free : s.cabinAt c = none)
    (below : ∀ k, k < c → (s.cabinAt k).isSome) : Table.lowestFree s.cabin.cabins Config.cabinSlots 0 = some c :=
  Table.lowestFree_eq_some (Nat.zero_le c) (lt_of_lt_of_eq within (Nat.zero_add _).symm) free fun k _ => below k

theorem createdBytes_eq (c : Nat) (b : CabinBody) :
    u8 Outcome.created.code ++ u16 c ++ u16 b.typed.cabin.contentGen.toNat = [0#8] ++ u16 c ++ [0#8, 0#8] := by
  rw [show b.typed.cabin.contentGen = 0#16 from rfl]
  rfl

/-- What CABIN_PUT does when no check refuses it. -/
theorem cabinPut_creates {b : CabinBody} {s : State} {c : Nat} (fits : b.InRange)
    (contents : ¬(b.occupancy = 0 ∧ (b.label ≠ [] ∨ b.privacy ≠ 0 ∨ b.message ≠ 0))) (two : b.alternate ≠ b.primary)
    (door : (s.node b.doorNode).isSome) (primary : (s.stationAt b.primary).isSome)
    (alternate : b.alternate ≠ 0xFF → (s.stationAt b.alternate).isSome)
    (fresh : s.cabinByNumber { deck := b.deck, number := b.number } = none)
    (unheld : b.typed.plate.bind s.cabinByPlate = none)
    (lowest : Table.lowestFree s.cabin.cabins Config.cabinSlots 0 = some c) :
    cabinPut b s = (s.createCabin c b.typed.cabin, .done ([0#8] ++ u16 c ++ [0#8, 0#8])) := by
  have node : s.node b.typed.doorNode ≠ none := Option.isSome_iff_ne_none.mp door
  have stations : ¬(s.stationAt b.primary = none ∨ (b.alternate ≠ 0xFF ∧ s.stationAt b.alternate = none)) := by
    rintro (no | ⟨given, no⟩)
    · exact Option.isSome_iff_ne_none.mp primary no
    · exact Option.isSome_iff_ne_none.mp (alternate given) no
  rw [cabinPut, cabinBody_fields_of_range fits]
  dsimp only
  rw [if_neg fun h => contents ((typed_vacantContents b).mp h), if_neg fun h => two ((typed_alternate fits).mp h),
    if_neg fun h => node (Option.isNone_iff_eq_none.mp h), if_neg fun h => stations ((typed_stations b s).mp h),
    show s.cabinByNumber b.typed.number = none from fresh, if_neg (by simp), unheld]
  dsimp only
  rw [lowest]
  exact congrArg (fun answer => (s.createCabin c b.typed.cabin, Reply.done answer)) (createdBytes_eq c b)

/-! ### The state before the trunks pick -/

/-- The state once a new cabin has its claims, its contribution and its place in its trunk's queue. -/
def State.cabinCreated (s : State) (c : Nat) (x : Cabin) : State :=
  ((s.cabinTaken c x).judgeOver s).joinPlateQueue c

theorem createCabin_created (s : State) (c : Nat) (x : Cabin) : s.createCabin c x = (s.cabinCreated c x).pickAll := rfl

theorem cabinTaken_keeps (s : State) (c : Nat) (x : Cabin) :
    (s.cabinTaken c x).graph = (s.claimNode x.doorNode).graph ∧ (s.cabinTaken c x).route = s.route ∧
    (s.cabinTaken c x).cabin = { s.cabin with cabins := Table.put s.cabin.cabins c x } ∧
    (s.cabinTaken c x).plate = s.plate ∧ (s.cabinTaken c x).programme = s.programme ∧
    (s.cabinTaken c x).screen = s.screen ∧ (s.cabinTaken c x).muster = s.muster ∧ (s.cabinTaken c x).port = s.port ∧
    (s.cabinTaken c x).fresh = s.fresh ∧ (s.cabinTaken c x).pending = s.pending := by
  simp only [State.cabinTaken, contribute_keeps, claimTargets_keeps]
  exact ⟨rfl, rfl, rfl, rfl, rfl, rfl, rfl, rfl, rfl, rfl⟩

/-- The state with another Service Port beside the records that the coming of a cabin changes. -/
theorem cabinCreated_frame (s : State) (c : Nat) (x : Cabin) :
    s.cabinCreated c x = (s.withRoll (s.cabinCreated c x)).withPort (s.cabinCreated c x).port := by
  obtain ⟨graph, route, cabin, plate, programme, screen, muster, -, fresh, pending⟩ := cabinTaken_keeps s c x
  have desk := deskOf_joinPlateQueue ((s.cabinTaken c x).judgeOver s) c
  obtain ⟨jGraph, jRoute, jCabin, jPlate, jProgramme, jScreen, jMuster, jFresh, jPending⟩ :=
    judgeOver_keeps (s.cabinTaken c x) s
  obtain ⟨kGraph, kRoute, -, kCabin, kProgramme, kScreen, kMuster, -, kFresh, kPending⟩ :=
    joinPlateQueue_keeps ((s.cabinTaken c x).judgeOver s) c
  refine eq_of_blocks ?_ (kRoute.trans (jRoute.trans route)) rfl ?_ ?_ (kProgramme.trans (jProgramme.trans programme))
    (kScreen.trans (jScreen.trans screen)) (kMuster.trans (jMuster.trans muster)) rfl
    (kFresh.trans (jFresh.trans fresh)) (kPending.trans (jPending.trans pending))
  · have made : (s.cabinCreated c x).graph = (s.claimNode x.doorNode).graph := kGraph.trans (jGraph.trans graph)
    rw [State.withPort, State.withRoll, made]
    rfl
  · have made : (s.cabinCreated c x).cabin = { s.cabin with cabins := Table.put s.cabin.cabins c x } :=
      kCabin.trans (jCabin.trans cabin)
    rw [State.withPort, State.withRoll, made]
  · have made : (s.cabinCreated c x).plate =
        { ((s.cabinTaken c x).judgeOver s).plate with trunks := (s.cabinCreated c x).plate.trunks } :=
      congrArg State.plate desk
    rw [jPlate, plate] at made
    exact made

section Created

variable (s : State) (c : Nat) (x : Cabin)

theorem cabinAt_cabinCreated (k : Nat) : (s.cabinCreated c x).cabinAt k = if k = c then some x else s.cabinAt k := by
  obtain ⟨-, -, -, cabin, -⟩ := joinPlateQueue_keeps ((s.cabinTaken c x).judgeOver s) c
  exact (cabinAt_of_cabin cabin k).trans (cabinAt_cabinTaken s c x k)

theorem node_cabinCreated (n : Nat) : (s.cabinCreated c x).node n =
    (s.node n).map fun y => if n = x.doorNode then { y with refs := y.refs + 1 } else y := by
  obtain ⟨kGraph, -⟩ := joinPlateQueue_keeps ((s.cabinTaken c x).judgeOver s) c
  obtain ⟨jGraph, -⟩ := judgeOver_keeps (s.cabinTaken c x) s
  obtain ⟨graph, -⟩ := cabinTaken_keeps s c x
  rw [State.node, show (s.cabinCreated c x).graph = _ from kGraph.trans (jGraph.trans graph)]
  refine (node_claimNode s x.doorNode n).trans (congrArg (fun f => (s.node n).map f) (funext fun y => ?_))
  by_cases door : n = x.doorNode
  · simp [door]
  · simp [door, Ne.symm door]

theorem trunk_cabinCreated (i : Fin 16) :
    (s.cabinCreated c x).trunk i = s.plateJoins (s.trunk i) (onTrunk x.plate i) c := by
  obtain ⟨-, -, -, plate, -, -, muster, -⟩ := cabinTaken_keeps s c x
  obtain ⟨-, -, -, jPlate, -, -, jMuster, -⟩ := judgeOver_keeps (s.cabinTaken c x) s
  have live : ((s.cabinTaken c x).judgeOver s).cabinAt c = some x := (cabinAt_cabinTaken s c x c).trans (if_pos rfl)
  rw [State.cabinCreated, trunk_joins _ live, plateJoins_of_muster (jMuster.trans muster),
    trunk_of_trunks (congrArg PlateBus.trunks (jPlate.trans plate))]

theorem cabinCreated_target :
    (s.cabinCreated c x).target = ((s.cabinTaken c x).judgeOver s).target ∧
    (s.cabinCreated c x).port = ((s.cabinTaken c x).judgeOver s).port := by
  obtain ⟨-, -, target, -, -, -, -, port, -⟩ := joinPlateQueue_keeps ((s.cabinTaken c x).judgeOver s) c
  exact ⟨target, port⟩

/-- The port may tell of an over flag, and nothing else of it changes. -/
theorem cabinCreated_port :
    (s.cabinCreated c x).port = { s.port with events := (s.cabinCreated c x).port.events } := by
  obtain ⟨-, port⟩ := cabinCreated_target s c x
  obtain ⟨-, -, -, -, -, -, -, taken, -⟩ := cabinTaken_keeps s c x
  rw [port, judgeOver_port, taken]
  split
  · rfl
  · rfl

theorem cabinCreated_tells : PortTellsOver s (s.cabinCreated c x) := by
  obtain ⟨target, port⟩ := cabinCreated_target s c x
  obtain ⟨-, -, -, -, -, -, -, taken, -⟩ := cabinTaken_keeps s c x
  exact (portTellsOver_judgeOver (cabinTaken_target s c x).2.2.2 taken).of_blocks target port

end Created

/-- The targets' invariants are a matter of the targets, the cabins, the entries and the screens. -/
theorem TargetInv.of_blocks {s t : State} (h : TargetInv s) (target : t.target = s.target) (cabin : t.cabin = s.cabin)
    (programme : t.programme = s.programme) (screen : t.screen = s.screen) : TargetInv t := by
  cases s
  cases t
  simp only at target cabin programme screen
  subst target cabin programme screen
  exact h

theorem ClaimsMoved.of_target {s t u : State} {old new : Option Cabin} (h : ClaimsMoved s t old new)
    (target : u.target = t.target) : ClaimsMoved s u old new := by
  have same : u.targetAt = t.targetAt := funext fun k => by rw [State.targetAt, target, State.targetAt]
  rw [ClaimsMoved, same]
  exact h

/-- The port is no part of what claims are. -/
theorem ClaimsMoved.of_request {s u : State} {old new : Option Cabin} (h : ClaimsMoved s.beginRequest u old new) :
    ClaimsMoved s (u.withEventsOf s) old new := h

theorem cabinCreated_claimsMoved {s : State} {x : Cabin} (named : s.cabinNames x) (c : Nat) :
    ClaimsMoved s (s.cabinCreated c x) none (some x) :=
  (cabinTaken_claimsMoved named c).of_target (cabinCreated_target s c x).1

theorem cabinCreated_targetInv {s : State} (sorted : Table.wf s.cabin.cabins = true) (inv : TargetInv s) {c : Nat}
    {x : Cabin} (free : s.cabinAt c = none) (named : s.cabinNames x) : TargetInv (s.cabinCreated c x) := by
  obtain ⟨-, -, target, cabin, programme, screen, -⟩ := joinPlateQueue_keeps ((s.cabinTaken c x).judgeOver s) c
  exact (cabinTaken_targetInv sorted inv free named).of_blocks target cabin programme screen

/-! ### The same, seen from the state before the request -/

/-- What a CABIN_PUT makes of the state before the trunks pick. -/
def State.cabinPutTaken (s : State) (c : Nat) (x : Cabin) : State := (s.beginRequest.cabinCreated c x).withEventsOf s

section Taken

variable (s : State) (c : Nat) (x : Cabin)

theorem frame_cabinPutTaken :
    s.cabinPutTaken c x = (s.withRoll (s.cabinPutTaken c x)).withPort (s.cabinPutTaken c x).port :=
  (congrArg (fun u : State => u.withEventsOf s) (cabinCreated_frame s.beginRequest c x)).trans rfl

theorem cabinAt_cabinPutTaken (k : Nat) :
    (s.cabinPutTaken c x).cabinAt k = if k = c then some x else s.cabinAt k :=
  cabinAt_cabinCreated s.beginRequest c x k

theorem node_cabinPutTaken (n : Nat) : (s.cabinPutTaken c x).node n =
    (s.node n).map fun y => if n = x.doorNode then { y with refs := y.refs + 1 } else y :=
  node_cabinCreated s.beginRequest c x n

theorem trunk_cabinPutTaken (i : Fin 16) :
    (s.cabinPutTaken c x).trunk i = s.plateJoins (s.trunk i) (onTrunk x.plate i) c :=
  trunk_cabinCreated s.beginRequest c x i

theorem cabinPutTaken_tells : PortTellsOver s (s.cabinPutTaken c x) :=
  (cabinCreated_tells s.beginRequest c x).of_request

theorem cabinPutTaken_owed {x : Cabin} {p : PlateAddress} (plate : x.plate = some p) :
    PlateOwed (s.cabinPutTaken c x).pickAll c p := by
  have live := (cabinAt_cabinPutTaken s c x c).trans (if_pos rfl)
  refine plateOwed_of_joins (Option.isSome_iff_exists.mpr ⟨x, live⟩) (trunk_cabinPutTaken s c x p.trunk) ?_
  rw [plate]
  exact decide_eq_true rfl

end Taken

theorem cabinPutTaken_claimsMoved {s : State} {x : Cabin} (named : s.cabinNames x) (c : Nat) :
    ClaimsMoved s (s.cabinPutTaken c x) none (some x) :=
  (cabinCreated_claimsMoved (s := s.beginRequest) named c).of_request

theorem cabinPutTaken_targetInv {s : State} (sorted : Table.wf s.cabin.cabins = true) (inv : TargetInv s) {c : Nat}
    {x : Cabin} (free : s.cabinAt c = none) (named : s.cabinNames x) : TargetInv (s.cabinPutTaken c x) :=
  (cabinCreated_targetInv (s := s.beginRequest) sorted (inv.of_blocks rfl rfl rfl rfl) free named).withEventsOf s

/-! ### The obligation -/

/-- A CABIN_PUT that creates: its answer, and the state before the trunks pick. -/
theorem serve_cabinPut_creates {s : State} {b : CabinBody} {c : Nat} {x : Cabin} {body : List Byte} (tag : Byte)
    (ready : s.loading = false) (made : cabinPut b s.beginRequest = (s.beginRequest.createCabin c x, .done body)) :
    serve tag (some b) true cabinPut s =
      s.answering (s.cabinPutTaken c x).pickAll tag .done body := by
  have fresh : (s.beginRequest.cabinCreated c x).fresh = s.fresh :=
    (congrArg State.fresh (cabinCreated_frame s.beginRequest c x)).trans rfl
  obtain ⟨-, -, -, -, -, -, -, kPort, kFresh, -⟩ := pickAll_keeps (s.beginRequest.cabinCreated c x)
  rw [createCabin_created] at made
  rw [serve_noticed tag b cabinPut s ready made (by rw [kPort]; exact cabinCreated_port _ c x) (kFresh.trans fresh),
    pickAll_withEventsOf]
  rfl

/-- A CABIN_PUT names stations that differ. -/
theorem typed_names {b : CabinBody} {s : State} (two : b.alternate ≠ b.primary)
    (primary : (s.stationAt b.primary).isSome)
    (alternate : b.alternate ≠ 0xFF → (s.stationAt b.alternate).isSome) : s.cabinNames b.typed.cabin := by
  refine ⟨primary, fun a is => ?_⟩
  obtain ⟨present, same⟩ := Option.ite_none_left_eq_some.mp (show (if b.alternate = 0xFF then none else
    some b.alternate) = some a from is)
  obtain rfl := Option.some.inj same
  exact ⟨two, alternate present⟩

/-- Settles O27: the record made of a body in range (`typed_cabin`), and what the state before the pick holds of it
(`State.cabinPutTaken`), fact by fact. -/
theorem cabinPutCreates : Obligations.CabinPutCreates := by
  intro s tag body b c plate ready tables targets parsed fits contents two door primary alternate fresh given unheld
    within free below new
  obtain ⟨-, -, -, -, ⟨sorted, -⟩, -⟩ := tables
  have held : b.typed.plate = plate := by rw [CabinBody.typed, given]; rfl
  have record : new = b.typed.cabin := (typed_cabin given).symm
  have named : s.cabinNames b.typed.cabin := typed_names two primary alternate
  have apart : b.typed.plate.bind s.cabinByPlate = none := by
    rw [held]
    cases plate with
    | none => rfl
    | some p => exact unheld p rfl
  have made := cabinPut_creates (s := s.beginRequest) fits contents two door primary alternate fresh apart
    (lowestFree_cabin within free below)
  have answered := serve_cabinPut_creates tag ready made
  have at_ : new.doorNode = b.doorNode := rfl
  have plated : new.plate = plate := rfl
  rw [← record] at named answered
  clear_value new
  refine ⟨s.cabinPutTaken c new, ?answer, frame_cabinPutTaken s c new, cabinAt_cabinPutTaken s c new, ?nodes,
    cabinPutTaken_claimsMoved named c, cabinPutTaken_targetInv sorted targets free named, cabinPutTaken_tells s c new,
    ?trunks, fun p is => ?owed⟩
  case answer =>
    rw [exec_cabinPut parsed, answered]
  case nodes =>
    rw [← at_]
    exact node_cabinPutTaken s c new
  case trunks =>
    rw [← plated]
    exact trunk_cabinPutTaken s c new
  case owed => exact cabinPutTaken_owed s c (plated.trans is)

end Sys2Proof.Machine
end
